-- ==== Sys2Proof/Word.lean ====
section
/-! DEFINITION. The word types of the two links and the fixed-size table in which the part keeps its
per-line, per-trunk, per-bank, per-clip and per-place state. -/

namespace Sys2Proof

/-- One octet, as both links carry it (R177, R191). -/
abbrev Octet := BitVec 8

/-- A 16-bit value; call references are such values, 0 standing for no reference (R191). -/
abbrev Word16 := BitVec 16

/-- A 32-bit count: seconds, origination sequence, CC running time (R71, R74, R164). -/
abbrev Word32 := BitVec 32

/-- A table of exactly `n` cells. -/
structure Table (n : Nat) (α : Type) where
  cells : List α
  full : cells.length = n
deriving DecidableEq, Repr

namespace Table

variable {n : Nat} {α β : Type}

/-- The cell at index `i`. -/
def get (t : Table n α) (i : Fin n) : α := t.cells.get (i.cast t.full.symm)

/-- The table with `a` in cell `i`. -/
def set (t : Table n α) (i : Fin n) (a : α) : Table n α :=
  ⟨t.cells.set i a, by rw [List.length_set, t.full]⟩

/-- The table with `f` applied to cell `i`. -/
def modify (t : Table n α) (i : Fin n) (f : α → α) : Table n α := t.set i (f (t.get i))

/-- The table with `f` applied to every cell. -/
def map (f : α → β) (t : Table n α) : Table n β :=
  ⟨t.cells.map f, by rw [List.length_map, t.full]⟩

/-- The table with `a` in every cell. -/
def fill (n : Nat) (a : α) : Table n α := ⟨List.replicate n a, List.length_replicate⟩

/-- The table whose cell `i` is `f i`. -/
def ofFn (f : Fin n → α) : Table n α := ⟨List.ofFn f, List.length_ofFn⟩

end Table

end Sys2Proof
end

