-- ==== Sys2Proof/Syntax.lean ====
section
/-! DEFINITION. The commands of the part: one constructor for each row of spec/opcode_table.json, with
the row's operands. A request of the node controller carries the body octets of its frame (section 10.2),
so that every body the link can deliver, of any length, is a command (DESIGN CHOICE, log entry 30). -/

namespace Sys2Proof

/-- A post line, 0–47. -/
abbrev LineNo := Fin 48
/-- A trunk channel, 0–7. -/
abbrev TrunkNo := Fin 8
/-- A call reference, 1–65535; 0 names no call (R71, R107). -/
abbrev CallRef := Word16
/-- A block of 20 ms of audio: 160 companded octets (chapter 7). -/
abbrev Block := Table 160 Octet

/-- The three kinds of line fault, in the order of section 2.1. -/
inductive FaultKind where
  | opened
  | short
  | foreign
deriving DecidableEq, Repr

/-- What a CODE RESULT carries: the four digits as a number 0–9999, INVALID or MISSING (R27, R31). -/
inductive CodeResult where
  | digits (n : Fin 10000)
  | invalid
  | missing
deriving DecidableEq, Repr

/-- A frame in a trunk's receive slot: the marker, one audio block, sixteen signalling octets (R98). -/
structure TrunkFrame where
  marker : Word16
  audio : Block
  signalling : Table 16 Octet
deriving DecidableEq, Repr

/-- An octet received on the node controller link, with whether its stop bit was present (R177, R178). -/
structure RxOctet where
  value : Octet
  stopBit : Bool
deriving DecidableEq, Repr

/-- One sampling instant of a line: its loop and ground samples, signed 12-bit codes (R1–R3). -/
structure LineSample where
  line : LineNo
  loop : BitVec 12
  ground : BitVec 12
deriving DecidableEq, Repr

/-- The commands of the part, in the order of spec/opcode_table.json. -/
inductive Instr where
  /-- The reset pin, power-up or the supply monitor holds the part in reset (R189). -/
  | powerOnReset
  /-- A power-on reset is released (R176). -/
  | powerOnResetRelease
  /-- One sampling instant of a line: its loop and ground samples, signed 12-bit codes (R1–R3). -/
  | samplePair (line : LineNo) (loop ground : BitVec 12)
  /-- The evaluation that this sample closes brings the code timer of its line to its end (R30). -/
  | codeTimerExpiry (sample : LineSample)
  /-- The evaluation that this sample closes brings the lockout count of its line to its end (R33). -/
  | lockoutCountExpiry (sample : LineSample)
  /-- The evaluation that this sample closes takes the ring cadence of its line past the end of ON or OFF (R36). -/
  | ringPhaseChange (sample : LineSample)
  /-- The CC takes SEIZURE (R75). -/
  | seizure (line : LineNo)
  /-- The CC takes CODE RESULT (R76). -/
  | codeResult (line : LineNo) (code : CodeResult)
  /-- The CC takes OFF-HOOK AT START (R77). -/
  | offHookAtStart (line : LineNo)
  /-- The CC takes LOCKOUT EXPIRY (R77). -/
  | lockoutExpiry (line : LineNo)
  /-- The CC takes HANG-UP (R78). -/
  | hangUp (line : LineNo)
  /-- The CC takes LINE LOST (R78). -/
  | lineLost (line : LineNo)
  /-- The CC takes LINE FAULT (R78). -/
  | lineFault (line : LineNo) (kind : FaultKind)
  /-- The CC takes ANSWERED (R137). -/
  | answered (line : LineNo)
  /-- The LSC takes CALL ENDED (R34). -/
  | callEnded (line : LineNo)
  /-- An aging period of a waiting call passes (R82). -/
  | aging (call : CallRef)
  /-- A trunk's receive slot: the frame in it, or none if none arrived (R98). -/
  | trunkFrameReceived (trunk : TrunkNo) (frame : Option TrunkFrame)
  /-- A frame is sent on a trunk (R106). -/
  | trunkFrameSent (trunk : TrunkNo)
  /-- A desk's ACCEPT (R109). -/
  | accept (trunk : TrunkNo) (call : CallRef)
  /-- A desk's DECLINE (R110). -/
  | decline (trunk : TrunkNo) (call : CallRef)
  /-- A desk's RELEASE (R119). -/
  | release (trunk : TrunkNo) (call : CallRef)
  /-- A desk's HOLD (R125). -/
  | hold (trunk : TrunkNo) (call : CallRef)
  /-- A desk's RETRIEVE (R127). -/
  | retrieve (trunk : TrunkNo)
  /-- A desk's IDENT REQUEST (R120). -/
  | identRequest (trunk : TrunkNo) (call : CallRef)
  /-- A desk's CALLBACK; the line octet may name no line (R133). -/
  | callback (trunk : TrunkNo) (line : Octet)
  /-- A trunk's offer timer runs out (R111). -/
  | offerTimerExpiry (trunk : TrunkNo)
  /-- A trunk's guard timer runs out (R115). -/
  | guardTimerExpiry (trunk : TrunkNo)
  /-- A held call's reminder comes due (R131). -/
  | holdReminder (call : CallRef)
  /-- A connected maintenance call serves its minimum hold (R140). -/
  | minimumHoldServed (call : CallRef)
  /-- The preemption timer of a call runs out (R142). -/
  | preemptionTimerExpiry (call : CallRef)
  /-- The ringing timeout of a callback runs out (R138). -/
  | ringingTimeout (call : CallRef)
  /-- The 20 ms audio tick, with the block received from each line (R157, R158). -/
  | audioBlockTick (fromLines : Table 48 Block)
  /-- A rising edge of the second-pulse input (R167). -/
  | secondPulse
  /-- The pulse watchdog reaches 3,000 ms (R168). -/
  | pulseWatchdogExpiry
  /-- The store operation in flight completes with DONE (R62). -/
  | storeCompletionDone
  /-- The store operation in flight completes with FAULT (R63). -/
  | storeCompletionFault
  /-- Octets received on the node controller link, with no gap above 20 ms between them (R178). -/
  | frameReceived (octets : List RxOctet)
  /-- More than 20 ms pass without an octet (R178). -/
  | interOctetTimeout
  /-- The last octet of a reply is sent (R180). -/
  | replySent
  /-- A request whose code, or whose PARAM SET identifier, names nothing (R180, R186). -/
  | unknownRequest (code : Octet) (body : List Octet)
  /-- STATUS (R182). -/
  | status (body : List Octet)
  /-- PARAM SET of threshold set A (`false`) or B (`true`): the octets after the identifier (R12). -/
  | paramSetThresholdSet (setB : Bool) (value : List Octet)
  /-- PARAM SET of the aging period (R83). -/
  | paramSetAgingPeriod (value : List Octet)
  /-- PARAM SET of the escalation threshold (R86). -/
  | paramSetEscalationThreshold (value : List Octet)
  /-- PARAM SET of the offer time (R117). -/
  | paramSetOfferTime (value : List Octet)
  /-- PARAM SET of the guard time (R117). -/
  | paramSetGuardTime (value : List Octet)
  /-- PARAM SET of the minimum hold (R139). -/
  | paramSetMinimumHold (value : List Octet)
  /-- PARAM SET of the hold chain (R155). -/
  | paramSetHoldChain (value : List Octet)
  /-- PARAM SET of the warning chain (R155). -/
  | paramSetWarningChain (value : List Octet)
  /-- PARAM SET of the journal threshold (R175). -/
  | paramSetJournalThreshold (value : List Octet)
  /-- PARAM QUERY (R187). -/
  | paramQuery (body : List Octet)
  /-- LINE QUERY (R42). -/
  | lineQuery (body : List Octet)
  /-- LINE SET (R43). -/
  | lineSet (body : List Octet)
  /-- LINE TEST (R45). -/
  | lineTest (body : List Octet)
  /-- CAL SET (R56). -/
  | calSet (body : List Octet)
  /-- DIR READ (R52). -/
  | dirRead (body : List Octet)
  /-- DIR WRITE (R53–R55). -/
  | dirWrite (body : List Octet)
  /-- DIR ENABLE (R57). -/
  | dirEnable (body : List Octet)
  /-- DIR COMMIT (R59). -/
  | dirCommit (body : List Octet)
  /-- DIR LOCK (R60). -/
  | dirLock (body : List Octet)
  /-- DIR ERASE (R61). -/
  | dirErase (body : List Octet)
  /-- CALL LIST (R94). -/
  | callList (body : List Octet)
  /-- CALL QUERY (R95). -/
  | callQuery (body : List Octet)
  /-- CLEAR ARM (R144). -/
  | clearArm (body : List Octet)
  /-- CLEAR CALL (R146). -/
  | clearCall (body : List Octet)
  /-- TRUNK SET (R103). -/
  | trunkSet (body : List Octet)
  /-- TRUNK QUERY (R104). -/
  | trunkQuery (body : List Octet)
  /-- PROMPT WRITE (R148). -/
  | promptWrite (body : List Octet)
  /-- CLIP SET (R149). -/
  | clipSet (body : List Octet)
  /-- CHAIN SET (R151). -/
  | chainSet (body : List Octet)
  /-- JOURNAL READ (R174). -/
  | journalRead (body : List Octet)
  /-- TIME SET (R165). -/
  | timeSet (body : List Octet)
  /-- TIME QUERY (R166). -/
  | timeQuery (body : List Octet)
  /-- REPEAT (R183). -/
  | repeatPrefix (body : List Octet)
  /-- RESET, the soft reset (R188). -/
  | reset (body : List Octet)
  /-- After a soft reset, a trunk has sent out its transmit list (R123). -/
  | trunkResetAfterDrain (trunk : TrunkNo)
  /-- The last octet of a report frame is sent (R181). -/
  | reportSent
  /-- A start octet is received on the node controller link (R178). -/
  | startOctetReceived
  /-- The millisecond phase passes 999 (R164). -/
  | internalSecondBoundary
deriving DecidableEq, Repr

end Sys2Proof
end

