-- ==== Sys2Proof/WellFormed.lean ====
section
/-! DEFINITION. Which commands can reach the part. A request comes in a frame of at most 200 counted octets
(R177), so its body has at most 199; a code above 0x3F never passes the receiver (R178); an event of a live
call names a reference 1–65535 (R73). -/

namespace Sys2Proof

/-- A request body that fits a frame: at most 199 octets (R177). -/
def fitsBody (body : List Octet) : Bool := body.length ≤ 199

/-- What follows the identifier of a PARAM SET: at most 198 octets (R177). -/
def fitsValue (value : List Octet) : Bool := value.length ≤ 198

/-- Whether a reference can be that of a live call (R73). -/
def isReference (r : CallRef) : Bool := r ≠ 0

/-- Whether a command can reach the part. -/
def Instr.wellFormed : Instr → Bool
  | .powerOnReset => true
  | .powerOnResetRelease => true
  | .samplePair _ _ _ => true
  | .codeTimerExpiry _ => true
  | .lockoutCountExpiry _ => true
  | .ringPhaseChange _ => true
  | .seizure _ => true
  | .codeResult _ _ => true
  | .offHookAtStart _ => true
  | .lockoutExpiry _ => true
  | .hangUp _ => true
  | .lineLost _ => true
  | .lineFault _ _ => true
  | .answered _ => true
  | .callEnded _ => true
  | .aging r => isReference r
  | .trunkFrameReceived _ _ => true
  | .trunkFrameSent _ => true
  | .accept _ _ => true
  | .decline _ _ => true
  | .release _ _ => true
  | .hold _ _ => true
  | .retrieve _ => true
  | .identRequest _ _ => true
  | .callback _ _ => true
  | .offerTimerExpiry _ => true
  | .guardTimerExpiry _ => true
  | .holdReminder r => isReference r
  | .minimumHoldServed r => isReference r
  | .preemptionTimerExpiry r => isReference r
  | .ringingTimeout r => isReference r
  | .audioBlockTick _ => true
  | .secondPulse => true
  | .pulseWatchdogExpiry => true
  | .storeCompletionDone => true
  | .storeCompletionFault => true
  | .frameReceived octets => octets ≠ []
  | .interOctetTimeout => true
  | .replySent => true
  | .unknownRequest code body => code.toNat < 0x40 && fitsBody body
  | .status body => fitsBody body
  | .paramSetThresholdSet _ value => fitsValue value
  | .paramSetAgingPeriod value => fitsValue value
  | .paramSetEscalationThreshold value => fitsValue value
  | .paramSetOfferTime value => fitsValue value
  | .paramSetGuardTime value => fitsValue value
  | .paramSetMinimumHold value => fitsValue value
  | .paramSetHoldChain value => fitsValue value
  | .paramSetWarningChain value => fitsValue value
  | .paramSetJournalThreshold value => fitsValue value
  | .paramQuery body => fitsBody body
  | .lineQuery body => fitsBody body
  | .lineSet body => fitsBody body
  | .lineTest body => fitsBody body
  | .calSet body => fitsBody body
  | .dirRead body => fitsBody body
  | .dirWrite body => fitsBody body
  | .dirEnable body => fitsBody body
  | .dirCommit body => fitsBody body
  | .dirLock body => fitsBody body
  | .dirErase body => fitsBody body
  | .callList body => fitsBody body
  | .callQuery body => fitsBody body
  | .clearArm body => fitsBody body
  | .clearCall body => fitsBody body
  | .trunkSet body => fitsBody body
  | .trunkQuery body => fitsBody body
  | .promptWrite body => fitsBody body
  | .clipSet body => fitsBody body
  | .chainSet body => fitsBody body
  | .journalRead body => fitsBody body
  | .timeSet body => fitsBody body
  | .timeQuery body => fitsBody body
  | .repeatPrefix body => fitsBody body
  | .reset body => fitsBody body
  | .trunkResetAfterDrain _ => true
  | .reportSent => true
  | .startOctetReceived => true
  | .internalSecondBoundary => true

end Sys2Proof
end

