-- ==== Sys2Proof/Decode.lean ====
section
/-! DEFINITION. The command that a word spells. The table gives no row any bits: a command reaches the part
as an event, or as a request whose octets the receiver of section 9.2 reads. So no word spells one. -/

namespace Sys2Proof

/-- The command that a word of the table spells: none, since no row of the table has bits (log entry 2). -/
def decodeTableWord (_nbits _w : Nat) : Option Instr := none

end Sys2Proof
end

