-- ==== Sys2Proof/Config.lean ====
section
/-! DEFINITION. The constants the spec gives the RC-48, under the rules that give them, and the one value
that it leaves open. -/

namespace Sys2Proof.Config

/-- Default aging period in seconds (R83). -/
def defaultAgingPeriod : Nat := 20
/-- Default escalation threshold in offers (R86). -/
def defaultEscalation : Nat := 3
/-- Default offer time in seconds (R117). -/
def defaultOfferTime : Nat := 15
/-- Default guard time in milliseconds (R117). -/
def defaultGuardTime : Nat := 300
/-- Default minimum hold in seconds (R139). -/
def defaultMinimumHold : Nat := 60
/-- Default hold chain (R155). -/
def defaultHoldChain : Fin 16 := 1
/-- Default warning chain (R155). -/
def defaultWarningChain : Fin 16 := 2
/-- Default journal threshold in records (R175). -/
def defaultJournalThreshold : Nat := 192

/-- Records the journal holds (R171). -/
def journalCapacity : Nat := 256
/-- The last sequence number a record can take (R171). -/
def lastSequenceNumber : Nat := 4294967295
/-- Reports the output list holds (R181). -/
def outputReports : Nat := 16
/-- Frames the input list holds (R179). -/
def inputFrames : Nat := 2
/-- Messages a transmit list holds (R106). -/
def transmitMessages : Nat := 8
/-- Calls a hold stack holds (R124). -/
def holdStackDepth : Nat := 3
/-- Blocks an elastic buffer holds (R159). -/
def bufferBlocks : Nat := 4

/-- Milliseconds a callback rings before NO ANSWER (R136). -/
def ringingTimeout : Nat := 60000
/-- Milliseconds from the start of a preemption to the clearing (R141). -/
def preemptionTime : Nat := 10000
/-- Milliseconds from a HOLD to the first reminder (R131). -/
def firstReminder : Nat := 120000
/-- Milliseconds between reminders (R131). -/
def nextReminder : Nat := 30000
/-- Milliseconds of a DIR COMMIT or DIR LOCK (R58). -/
def commitTime : Nat := 150
/-- Milliseconds of a DIR ERASE (R58). -/
def eraseTime : Nat := 400
/-- Milliseconds without a second pulse that take LOCKED to HOLDOVER (R168). -/
def watchdogTime : Nat := 3000
/-- Milliseconds between two octets of one frame, at most (R178). -/
def octetGap : Nat := 20

/-- Evaluations of a fault band that declare it, and of PRESENT that clear it (R38, R40). -/
def dwellLimit : Nat := 250
/-- Evaluations of LEAK that declare a leak (R15). -/
def leakLimit : Nat := 250
/-- LOOP evaluations of a seizure, a ring trip or a standing off-hook (R28, R29, R37). -/
def seizureLength : Nat := 6
/-- Break evaluations of a hang-up (R30, R32, R33). -/
def hangUpLength : Nat := 50
/-- Make evaluations that end a digit (R30). -/
def digitEndLength : Nat := 30
/-- Evaluations from seizure to the end of collection (R30). -/
def codeTimerLimit : Nat := 320
/-- Evaluations of unbroken make that end LOCKOUT (R33). -/
def lockoutLimit : Nat := 3750
/-- Evaluations of ring ON (R36). -/
def ringOnLength : Nat := 125
/-- Evaluations of ring OFF (R36). -/
def ringOffLength : Nat := 250
/-- First position of ring OFF at which results are acted on (R36). -/
def ringCountedFrom : Nat := 7

/-- The start octet of a node controller frame (section 10.2). -/
def frameStart : Octet := 0x5A
/-- The start octet of a desk message (section 10.3). -/
def messageStart : Octet := 0xA5
/-- The marker of a trunk frame (section 10.3). -/
def trunkMarker : Word16 := 0x3CC3
/-- One octet of silence (section 10.3). -/
def silenceOctet : Octet := 0xFF
/-- The silence block (section 10.3). -/
def silenceBlock : Block := Table.fill 160 silenceOctet
/-- The ringback tone block: the 8-octet cycle of section 10.3, twenty times. -/
def ringbackBlock : Block :=
  Table.ofFn fun i =>
    ([0xFF, 0xA0, 0x90, 0xA0, 0xFF, 0x20, 0x10, 0x20] : List Octet).getD (i.val % 8) 0

/-- FREE VALUE (log entry 12). What the LEAK octet of a LINE QUERY or LINE TEST reply holds for a line
that has no snapshot: R42 and R45 send such a line no measurement value, and R191 gives a flag no
absent encoding. -/
opaque absentLeakOctet : Octet

end Sys2Proof.Config
end

