-- ==== Sys2Proof/Machine/State.lean ====
section
/-! DEFINITION. The state of the RC-48 as plain data, block by block as the manual's block diagram has
them, with the value every piece takes at reset, and the reasons a step can stop. -/

namespace Sys2Proof.Machine

open Sys2Proof

/-! ### Line Measurement Unit (chapter 1) -/

/-- The five loop bands, in the order of R8. -/
inductive Band where
  | foreign
  | opened
  | present
  | loop
  | short
deriving DecidableEq, Repr

/-- The band result of an evaluation: a band, or UNCLEAR (R9, R10). -/
inductive BandResult where
  | band (b : Band)
  | unclear
deriving DecidableEq, Repr

/-- The eight limits of a threshold set (R8), in the order in which R12 checks them. -/
structure Thresholds where
  foreignMax : Int
  openMin : Int
  openMax : Int
  presentMin : Int
  presentMax : Int
  loopMin : Int
  loopMax : Int
  shortMin : Int
deriving DecidableEq, Repr

/-- The measurement record of one line (section 1.2). -/
structure Measurement where
  groupPosition : Fin 8
  loopSum : Int
  groundSum : Int
  loopWindow : List Int
  groundWindow : List Int
  loopB : Option Int
  groundB : Option Int
  loopC : Option Int
  groundC : Option Int
  bandMemory : Option Band
  bandResult : Option BandResult
  leak : Bool
  leakCount : Nat
  overRange : Bool
deriving DecidableEq, Repr

/-- One evaluation result, as the LMU hands it to the LSC (R17). -/
structure EvalResult where
  band : BandResult
  leak : Bool
  leakDeclared : Bool
  overRangeDeclared : Bool
deriving DecidableEq, Repr

/-- The LMU: a measurement record per line and the two threshold sets. -/
structure Lmu where
  records : Table 48 Measurement
  setA : Thresholds
  setB : Thresholds
deriving DecidableEq, Repr

/-! ### Line State Controller (chapter 2) -/

/-- The nine line states, in the order of section 2.1. -/
inductive LineState where
  | unequipped
  | outOfService
  | settling
  | idle
  | collecting
  | active
  | ringing
  | lockout
  | fault
deriving DecidableEq, Repr

/-- The two kinds of run. -/
inductive RunKind where
  | make
  | brk
deriving DecidableEq, Repr

/-- The two phases of the ring cadence (R36). -/
inductive RingPhase where
  | on
  | off
deriving DecidableEq, Repr

/-- The seven sticky flags, in the order of R41. -/
inductive StickyFlag where
  | opened
  | short
  | foreign
  | leak
  | overRange
  | codeMismatch
  | codeMissing
deriving DecidableEq, Repr

/-- Which sticky flags of a line are set (R41). -/
structure StickyFlags where
  opened : Bool
  short : Bool
  foreign : Bool
  leak : Bool
  overRange : Bool
  codeMismatch : Bool
  codeMissing : Bool
deriving DecidableEq, Repr

/-- The line record of one line (section 2.1). The ring phase is absent while the line is not RINGING. -/
structure LineRecord where
  state : LineState
  faultKind : Option FaultKind
  runKind : Option RunKind
  runLength : Nat
  pendingBreak : Nat
  loopCount : Nat
  lastBreak : Option Band
  dwellBand : Option FaultKind
  dwellCount : Nat
  clearCount : Nat
  digits : List (Fin 10)
  pulses : Nat
  codeTimer : Nat
  lockoutCount : Nat
  ringPhase : Option RingPhase
  ringPosition : Nat
  flags : StickyFlags
deriving DecidableEq, Repr

/-- A line event on its way from the LSC to the CC (R27). -/
inductive LineEvent where
  | seizure (line : LineNo)
  | codeResult (line : LineNo) (code : CodeResult)
  | offHookAtStart (line : LineNo)
  | lockoutExpiry (line : LineNo)
  | hangUp (line : LineNo)
  | lineLost (line : LineNo)
  | answered (line : LineNo)
  | lineFault (line : LineNo) (kind : FaultKind)
deriving DecidableEq, Repr

/-! ### Post Directory (chapter 3) -/

/-- Carriageway A, B or LINK (R48). -/
inductive Carriageway where
  | a
  | b
  | link
deriving DecidableEq, Repr

/-- The zone of a post (R48). -/
inductive Zone where
  | tunnel
  | structure_
  | open_
  | depot
deriving DecidableEq, Repr

/-- The choice of threshold set (R48). -/
inductive SetChoice where
  | a
  | b
deriving DecidableEq, Repr

/-- The service field of an entry (R48). -/
inductive EntryService where
  | unequipped
  | inService
deriving DecidableEq, Repr

/-- The calibration of one channel (R6). -/
structure Calibration where
  gain : Nat
  offset : Int
deriving DecidableEq, Repr

/-- The naming fields that a snapshot copies (R48, R67); the post number is 1–8 character codes. -/
structure Naming where
  post : List Octet
  carriageway : Carriageway
  chainage : Nat
  zone : Zone
  bore : Option Nat
deriving DecidableEq, Repr

/-- What only a NAMED entry holds: the expected post code (ABSENT is `none`) and the naming (R48). -/
structure NamedFields where
  expected : Option Nat
  naming : Naming
deriving DecidableEq, Repr

/-- One directory entry (R48). The entry is EMPTY when `named` is absent. -/
structure Entry where
  named : Option NamedFields
  waitingChain : Fin 16
  thresholdSet : SetChoice
  loopCal : Calibration
  groundCal : Calibration
  service : EntryService
deriving DecidableEq, Repr

/-- The store area of one bank (R50). `checks` says whether the area's check value matches its content
(DESIGN CHOICE, log entry 15). -/
structure StoreArea where
  entries : Table 16 Entry
  locked : Bool
  checks : Bool
deriving DecidableEq, Repr

/-- The kinds of store operation (R50). -/
inductive StoreKind where
  | commit
  | lock
  | erase
deriving DecidableEq, Repr

/-- A store operation in flight (R50). -/
structure StoreOp where
  bank : Fin 3
  kind : StoreKind
  remaining : Nat
deriving DecidableEq, Repr

/-- The DIR: working table, lock and STORE FAULT flags, store areas, latch and operation in flight (R50). -/
structure Directory where
  working : Table 48 Entry
  locks : Table 3 Bool
  faults : Table 3 Bool
  areas : Table 3 StoreArea
  latch : Bool
  operation : Option StoreOp
deriving DecidableEq, Repr

/-! ### Call Controller (chapters 4 and 6) -/

/-- The call states, in the order of R71. -/
inductive CallState where
  | originating
  | waiting
  | offered
  | connected
  | held
  | preempting
  | ringing
deriving DecidableEq, Repr

/-- The kind of a call (R69). -/
inductive CallKind where
  | emergency
  | maintenance
  | callback
deriving DecidableEq, Repr

/-- The verification outcome, in the order of R67. -/
inductive Verification where
  | unnamed
  | noCode
  | maintenance
  | notChecked
  | matched
  | mismatch
deriving DecidableEq, Repr

/-- The received code of a call (R71). -/
inductive ReceivedCode where
  | digits (n : Fin 10000)
  | invalid
  | missing
  | absent
deriving DecidableEq, Repr

/-- The identity snapshot (R67). -/
structure Snapshot where
  line : LineNo
  naming : Option Naming
  waitingChain : Fin 16
  code : ReceivedCode
  outcome : Verification
deriving DecidableEq, Repr

/-- What a call holds from its snapshot on (R71); the received code is the snapshot's own. -/
structure CallIdentity where
  snapshot : Snapshot
  kind : CallKind
  baseClass : Nat
  effectiveClass : Nat
deriving DecidableEq, Repr

/-- The time states, in the order of R164. -/
inductive TimeState where
  | unset
  | free
  | locked
  | holdover
deriving DecidableEq, Repr

/-- A stamp: the seconds count, the millisecond phase and the time state as they stood (R164). -/
structure Stamp where
  seconds : Word32
  phase : Nat
  state : TimeState
deriving DecidableEq, Repr

/-- One call record (R71), with the marks and timers that R87, R92, R131, R136, R139 and R141 keep for it
(DESIGN CHOICE, log entry 24). -/
structure Call where
  ref : CallRef
  line : LineNo
  state : CallState
  sequence : Word32
  origin : Stamp
  identity : Option CallIdentity
  offerCount : Nat
  rescued : Bool
  trunk : Option TrunkNo
  queueEntry : Option Word32
  agingMark : Option Word32
  connectTime : Option Stamp
  holdCount : Nat
  /-- Running time of the creation (R87, R92, R95). -/
  createdAt : Word32
  /-- Running time of the first connection (R92). -/
  firstConnectedAt : Option Word32
  /-- The trunk the call was last on (R92). -/
  lastTrunk : Option TrunkNo
  /-- Running time of the latest entry to CONNECTED (R139). -/
  connectedMark : Option Word32
  /-- Running time of the HOLD, while HELD (R131). -/
  heldAt : Option Word32
  /-- Milliseconds to the due time of the next hold reminder, while HELD; 0 or less once it has come (R131). -/
  reminderIn : Option Int
  /-- Milliseconds left of the preemption timer, while PREEMPTING (R141). -/
  preemptionTimer : Option Nat
  /-- Milliseconds left of the ringing timeout, while RINGING (R136). -/
  ringingTimer : Option Nat
deriving DecidableEq, Repr

/-- The CC: call table, waiting queue, counters, running count and its parameters. -/
structure CallControl where
  calls : Table 48 (Option Call)
  queue : List CallRef
  nextRef : CallRef
  lastSequence : Word32
  now : Word32
  agingPeriod : Nat
  escalation : Nat
  minimumHold : Nat
deriving DecidableEq, Repr

/-! ### Trunk Interface (chapter 5) -/

/-- The trunk states, in the order of R96. -/
inductive TrunkState where
  | outOfService
  | linkDown
  | idle
  | guard_
  | offering
  | connected
deriving DecidableEq, Repr

/-- A trunk's service field (R96). -/
inductive TrunkService where
  | inService
  | outOfService
deriving DecidableEq, Repr

/-- A trunk's group (R96). -/
inductive TrunkGroup where
  | primary
  | overflow
deriving DecidableEq, Repr

/-- A trunk's link status (R96). -/
inductive LinkStatus where
  | up
  | down
deriving DecidableEq, Repr

/-- The causes that end a call or withdraw an offer, in the order of their values in section 10.3. -/
inductive Cause where
  | hungUp
  | abandoned
  | deskRelease
  | lineLost
  | lineFault
  | preempted
  | forced
  | noAnswer
  | trunkLost
  | reset
  | declined
  | timeout
  | retrieve
  | taken
  | outOfService
deriving DecidableEq, Repr

/-- The refusal reasons, in the order of their values in section 10.3. -/
inductive Reason where
  | stale
  | busy
  | state
  | full
  | unknownRef
  | lineUnavailable
  | lineBusy
deriving DecidableEq, Repr

/-- A desk request completed by a message receiver (R105, R107). -/
inductive DeskRequest where
  | accept (call : CallRef)
  | decline (call : CallRef)
  | release (call : CallRef)
  | hold (call : CallRef)
  | retrieve
  | identRequest (call : CallRef)
  | callback (line : Octet)
deriving DecidableEq, Repr

/-- The identity record of a call: its reference and its snapshot (section 10.4). -/
structure IdentityRecord where
  call : CallRef
  snapshot : Snapshot
deriving DecidableEq, Repr

/-- A message to a desk (section 5.4). -/
inductive DeskMessage where
  | offer (call : CallRef) (effectiveClass secondsWaited : Nat) (identity : IdentityRecord)
  | withdraw (call : CallRef) (cause : Cause)
  | ident (identity : IdentityRecord)
  | clear (call : CallRef) (cause : Cause)
  | heldCleared (call : CallRef) (cause : Cause)
  | holdReminder (call : CallRef) (secondsHeld : Nat)
  | preemptWarn (call : CallRef) (seconds : Nat)
  | confirm (request : DeskRequest)
  | refuse (request : DeskRequest) (reason : Reason)
deriving DecidableEq, Repr

/-- The receive state of a message receiver: between messages, inside one with its octets so far, or
passing over the rest of a discarded one (R105, R193). -/
inductive MessageReceiver where
  | between
  | inside (octets : List Octet)
  | passing (left : Nat)
deriving DecidableEq, Repr

/-- One trunk record (R96). -/
structure Trunk where
  service : TrunkService
  group : TrunkGroup
  state : TrunkState
  link : LinkStatus
  badRun : Nat
  goodRun : Nat
  current : Option CallRef
  offerTimer : Option Nat
  guardTimer : Option Nat
  idleSince : Option Word32
  stack : List CallRef
  receiver : MessageReceiver
  /-- Requests whose messages are complete and that have not been taken yet, oldest first (R105). -/
  requests : List DeskRequest
  transmit : List DeskMessage
  /-- Octets of the oldest message of the transmit list already sent (R106). -/
  sentOctets : Nat
  frameErrors : Nat
  messageErrors : Nat
  overruns : Nat
  /-- Set from a soft reset until the trunk has sent out its transmit list (R123). -/
  draining : Bool
  /-- The frame last sent on the highway (R98). -/
  lastFrame : Option TrunkFrame
deriving DecidableEq, Repr

/-- The TI: eight trunk records, the no-trunk flag (R121) and the two timer parameters (R117). -/
structure TrunkInterface where
  trunks : Table 8 Trunk
  noTrunk : Bool
  offerTime : Nat
  guardTime : Nat
deriving DecidableEq, Repr

/-! ### Announcement Player and Audio Switch (chapter 7) -/

/-- The wrap window of a clip (R149). -/
inductive WrapWindow where
  | whole
  | w8
  | w16
  | w32
  | w64
deriving DecidableEq, Repr

/-- One clip entry (R149). -/
structure Clip where
  start : Nat
  length : Nat
  window : WrapWindow
deriving DecidableEq, Repr

/-- The mode of a chain step, with the count of TIMES (R151). -/
inductive StepMode where
  | once
  | times (count : Nat)
  | loop
deriving DecidableEq, Repr

/-- One step of a chain (R151). -/
structure ChainStep where
  clip : Fin 32
  mode : StepMode
  gap : Nat
deriving DecidableEq, Repr

/-- Which play of a step is under way (R153). -/
inductive PlayNumber where
  | nth (k : Nat)
  | first
  | again
deriving DecidableEq, Repr

/-- Whether a channel that has not ended is in a play or in the gap after it (R153). -/
inductive PlayPhase where
  | clip
  | gap
deriving DecidableEq, Repr

/-- Where a channel stands in its chain while the chain has not ended (R153); steps count from 1. -/
structure Playing where
  step : Nat
  play : PlayNumber
  phase : PlayPhase
  position : Nat
deriving DecidableEq, Repr

/-- A player channel (R153): INACTIVE, or ACTIVE with its chain; the phase is ENDED when `at_` is absent. -/
inductive Player where
  | inactive
  | active (chain : Fin 16) (at_ : Option Playing)
deriving DecidableEq, Repr

/-- An elastic buffer (R159): its blocks, oldest first, whether its underrun state is REPEATED, and the
last block taken since it was emptied. -/
structure Buffer where
  blocks : List Block
  repeated : Bool
  last : Option Block
deriving DecidableEq, Repr

/-- The prompt store as octets by address, 160 to a block (R148): the octets that are not silence, by
rising address. -/
abbrev Memory := List Host.Cell

/-- The AP. -/
structure AudioPlayer where
  prompt : Memory
  clips : Table 32 (Option Clip)
  chains : Table 16 (List ChainStep)
  players : Table 48 Player
  receive : Table 8 Buffer
  send : Table 8 Buffer
  slips : Table 8 Nat
  holdChain : Fin 16
  warningChain : Fin 16
  /-- The block sent toward each line in the latest 20 ms; absent where none was sent (R157). -/
  toLines : Table 48 (Option Block)
deriving DecidableEq, Repr

/-! ### Time Base and Call Journal (chapter 8) -/

/-- The time base (R164). -/
structure TimeBase where
  seconds : Word32
  phase : Nat
  state : TimeState
  pendingLoad : Option Word32
  goodRun : Nat
  badRun : Nat
  lastOffset : Option Int
  watchdog : Option Nat
deriving DecidableEq, Repr

/-- The two kinds of reset. -/
inductive ResetKind where
  | powerOn
  | soft
deriving DecidableEq, Repr

/-- The fields of a CALL END record (R92). -/
structure CallEnd where
  call : CallRef
  line : LineNo
  identity : Option CallIdentity
  origin : Stamp
  secondsWaited : Nat
  trunk : Option TrunkNo
  offerCount : Nat
  holdCount : Nat
  connectedSeconds : Option Nat
  rescued : Bool
  cause : Cause
deriving DecidableEq, Repr

/-- The kind fields of a journal record (R172). -/
inductive RecordKind where
  | callEnd (fields : CallEnd)
  | lineFault (line : LineNo) (kind : FaultKind) (declared : Bool)
  | trunk (trunk : TrunkNo) (loss : Bool)
  | store (bank : Fin 3) (kind : StoreKind) (done : Bool)
  | reset (kind : ResetKind)
deriving DecidableEq, Repr

/-- One journal record (R171); its time state is the stamp's. -/
structure Record where
  sequence : Nat
  stamp : Stamp
  kind : RecordKind
deriving DecidableEq, Repr

/-- The journal: its records, oldest first, the sequence counter and the threshold (R171, R175). The
journal is exhausted once the counter has passed the last sequence number. -/
structure Journal where
  records : List Record
  nextSequence : Nat
  threshold : Nat
deriving DecidableEq, Repr

/-! ### Node Controller Link (chapter 9) -/

/-- A checked frame: message code and body (R177). -/
structure Frame where
  code : Octet
  body : List Octet
deriving DecidableEq, Repr

/-- The receive state of the link: HUNTING, or RECEIVING with the octets after the start octet and the
milliseconds since the latest octet (R178). -/
inductive LinkReceiver where
  | hunting
  | receiving (octets : List Octet) (gap : Nat)
deriving DecidableEq, Repr

/-- The service state (R180). -/
inductive LinkService where
  | starting
  | waiting
  | serving
deriving DecidableEq, Repr

/-- The result codes, section "Result codes on the node controller link". -/
inductive Result where
  | done
  | accepted
  | busy
  | range
  | locked
  | state
  | notEnabled
  | inUse
  | unknown
  | endOfLines
deriving DecidableEq, Repr

/-- The values a measurement snapshot returns (R18). -/
structure MeasurementValues where
  loopB : Option Int
  groundB : Option Int
  loopC : Option Int
  groundC : Option Int
  bandResult : Option BandResult
  leak : Option Bool
deriving DecidableEq, Repr

/-- The values of a STATUS reply (R182). -/
structure StatusValues where
  lastReset : ResetKind
  linkError : Bool
  reportLoss : Bool
  locks : Table 3 Bool
  faults : Table 3 Bool
  latch : Bool
  operation : Option StoreOp
  journalHeld : Nat
  exhausted : Bool
  timeState : TimeState
  liveCalls : Nat
  queued : Nat
  noTrunk : Bool
deriving DecidableEq, Repr

/-- The values of a PARAM QUERY reply (R187). -/
structure ParameterValues where
  setA : Thresholds
  setB : Thresholds
  agingPeriod : Nat
  escalation : Nat
  offerTime : Nat
  guardTime : Nat
  minimumHold : Nat
  holdChain : Fin 16
  warningChain : Fin 16
  journalThreshold : Nat
deriving DecidableEq, Repr

/-- One entry of a CALL LIST reply (R94). -/
structure CallListEntry where
  call : CallRef
  line : LineNo
  state : CallState
  kind : Option CallKind
  effectiveClass : Option Nat
  trunk : Option TrunkNo
  position : Option Nat
deriving DecidableEq, Repr

/-- The values a reply carries after its result (R180). -/
inductive ReplyValues where
  | nothing
  | status (v : StatusValues)
  | parameters (v : ParameterValues)
  | line (state : LineState) (faultKind : Option FaultKind) (flags : StickyFlags) (m : MeasurementValues)
  | measurement (m : MeasurementValues)
  | entry (e : Entry) (locked : Bool)
  | callList (live : Nat) (entries : List CallListEntry)
  | call (c : Call) (queuePosition stackPosition : Option Nat) (age : Nat)
  | trunk (t : Trunk) (slips : Nat)
  | journal (records : List Record) (left : Nat)
  | timeState (s : TimeState)
  | time (t : TimeBase)
deriving DecidableEq, Repr

/-- A reply (R180). A reply to a repeatable request carries the line octet of its run: `line` is then
`some` of that octet, or `some none` where it is sent as absent. -/
structure Reply where
  request : Octet
  result : Result
  line : Option (Option Octet)
  values : ReplyValues
deriving DecidableEq, Repr

/-- The state a LINE FAULT report carries (section 10.2). -/
inductive FaultReportState where
  | declared
  | cleared
  | set
deriving DecidableEq, Repr

/-- Why a TRUNK STATE report is sent (R100, R102, R103). -/
inductive TrunkReportCause where
  | loss
  | restore
  | service
deriving DecidableEq, Repr

/-- A report (section 9.8). -/
inductive Report where
  | ready (kind : ResetKind) (checks locks : Table 3 Bool) (sequence : Nat)
  | callEvent (call : CallRef) (line : LineNo) (kind : Option CallKind) (final : CallState)
      (cause : Cause) (sequence : Nat)
  | lineFault (line : LineNo) (subject : StickyFlag) (state : FaultReportState)
  | trunkState (trunk : TrunkNo) (state : TrunkState) (cause : TrunkReportCause)
  | noTrunk (queued : Nat)
  | trunksRestored (trunkAvailable : Bool)
  | storeDone (bank : Fin 3) (kind : StoreKind) (done : Bool)
  | journalLevel (held oldest newest : Nat)
  | timeState (new previous : TimeState) (stamp : Stamp)
deriving DecidableEq, Repr

/-- An item of the output list (R181). -/
inductive OutputItem where
  | reply (r : Reply)
  | report (r : Report)
deriving DecidableEq, Repr

/-- A repetition in flight: the request, the shadow line index and the runs remaining (R185). -/
structure Repetition where
  code : Octet
  body : List Octet
  index : LineNo
  remaining : Nat
deriving DecidableEq, Repr

/-- The NCL (section 9.2). -/
structure Link where
  receiver : LinkReceiver
  inputs : List Frame
  service : LinkService
  output : List OutputItem
  /-- A READY that waits for room on the output list (R181). -/
  heldReady : Option Report
  repeatCount : Nat
  repetition : Option Repetition
  armed : Option CallRef
  linkError : Bool
  reportLoss : Bool
  /-- The kind of the last reset (R182). -/
  lastReset : ResetKind
  /-- The octets of the reply or report last sent (R180, R181; DESIGN CHOICE, log entry 26). -/
  lastSent : List Octet
deriving DecidableEq, Repr

/-! ### The machine -/

/-- The state of the part. `pending` is the queue of commands not yet taken; every other field is the
part's own. -/
structure State where
  /-- Commands waiting, first in, first out. -/
  pending : List Instr
  /-- Whether a power-on reset is being held (R189). -/
  held : Bool
  lmu : Lmu
  lines : Table 48 LineRecord
  /-- Line events handed by the LSC and not yet taken by the CC, oldest first (R27). -/
  events : List LineEvent
  /-- Lines whose CALL ENDED the CC has sent and the LSC has not yet taken, oldest first (R34). -/
  callEnds : List LineNo
  dir : Directory
  cc : CallControl
  ti : TrunkInterface
  ap : AudioPlayer
  time : TimeBase
  journal : Journal
  link : Link
deriving DecidableEq, Repr

/-! ### Reset values -/

/-- The factory values of threshold set A (R8). -/
def Thresholds.factoryA : Thresholds := ⟨-20, -10, 4, 8, 50, 120, 700, 760⟩
/-- The factory values of threshold set B (R8). -/
def Thresholds.factoryB : Thresholds := ⟨-20, -10, 4, 8, 45, 90, 700, 760⟩

/-- The empty measurement record (section 1.2). -/
def Measurement.empty : Measurement :=
  ⟨0, 0, 0, [], [], none, none, none, none, none, none, false, 0, false⟩

/-- No sticky flag set. -/
def StickyFlags.clear : StickyFlags := ⟨false, false, false, false, false, false, false⟩

/-- A line record in state `st` with its signalling state empty and `flags` as its sticky flags: the
values on entry to SETTLING (R28), and those of an UNEQUIPPED line (R43). -/
def LineRecord.fresh (st : LineState) (flags : StickyFlags) : LineRecord :=
  ⟨st, none, none, 0, 0, 0, none, none, 0, 0, [], 0, 0, 0, none, 0, flags⟩

/-- Gain 2048, offset 0 (R49). -/
def Calibration.erased : Calibration := ⟨2048, 0⟩

/-- An erased entry with service field `sv` (R49). -/
def Entry.erased (sv : EntryService) : Entry :=
  ⟨none, 0, .a, Calibration.erased, Calibration.erased, sv⟩

/-- A store area as the part leaves the factory (R49). -/
def StoreArea.factory : StoreArea := ⟨Table.fill 16 (Entry.erased .unequipped), false, true⟩

/-- The directory of a factory part after the load: erased entries, nothing locked or failed (R49, R65). -/
def Directory.factory : Directory :=
  ⟨Table.fill 48 (Entry.erased .unequipped), Table.fill 3 false, Table.fill 3 false,
   Table.fill 3 StoreArea.factory, false, none⟩

/-- The CC after a power-on reset (R71–R74, R83, R86, R139). -/
def CallControl.initial : CallControl :=
  ⟨Table.fill 48 none, [], 1, 0, 0, Config.defaultAgingPeriod, Config.defaultEscalation,
   Config.defaultMinimumHold⟩

/-- A trunk record after a power-on reset, in group `g` (R122). -/
def Trunk.initial (g : TrunkGroup) : Trunk :=
  ⟨.inService, g, .linkDown, .down, 0, 0, none, none, none, none, [], .between, [], [], 0, 0, 0, 0,
   false, none⟩

/-- The group of a trunk after either reset (R84, R122). -/
def Trunk.defaultGroup (t : TrunkNo) : TrunkGroup := if t.val < 6 then .primary else .overflow

/-- The TI after a power-on reset (R122). -/
def TrunkInterface.initial : TrunkInterface :=
  ⟨Table.ofFn fun t => Trunk.initial (Trunk.defaultGroup t), false, Config.defaultOfferTime,
   Config.defaultGuardTime⟩

/-- An elastic buffer emptied by a reset (R162). -/
def Buffer.empty : Buffer := ⟨[], false, none⟩

/-- The AP after a power-on reset (R162). -/
def AudioPlayer.initial : AudioPlayer :=
  ⟨[], Table.fill 32 none, Table.fill 16 [], Table.fill 48 .inactive, Table.fill 8 Buffer.empty,
   Table.fill 8 Buffer.empty, Table.fill 8 0, Config.defaultHoldChain, Config.defaultWarningChain,
   Table.fill 48 none⟩

/-- The time base after a power-on reset (R170). -/
def TimeBase.initial : TimeBase := ⟨0, 0, .unset, none, 0, 0, none, none⟩

/-- The journal emptied by a power-on reset (R176). -/
def Journal.initial : Journal := ⟨[], 1, Config.defaultJournalThreshold⟩

/-- The NCL while a power-on reset is held (R189). -/
def Link.initial : Link :=
  ⟨.hunting, [], .starting, [], none, 0, none, none, false, false, .powerOn, []⟩

/-- The part while a power-on reset is held, on the store areas `areas`: every block at its power-on
values, the working table not yet loaded (R22, R46, R93, R122, R162, R170, R176, R189; DESIGN CHOICE, log
entry 16). -/
def State.heldInReset (areas : Table 3 StoreArea) : State where
  pending := []
  held := true
  lmu := ⟨Table.fill 48 Measurement.empty, Thresholds.factoryA, Thresholds.factoryB⟩
  lines := Table.fill 48 (LineRecord.fresh .unequipped StickyFlags.clear)
  events := []
  callEnds := []
  dir := { Directory.factory with areas := areas }
  cc := CallControl.initial
  ti := TrunkInterface.initial
  ap := AudioPlayer.initial
  time := TimeBase.initial
  journal := Journal.initial
  link := Link.initial

/-- The part right after a power-on reset, the reset released, on a store as it leaves the factory: every
line UNEQUIPPED, the POWER-ON record made with sequence number 1, READY on the output list and the
NCL WAITING (R49, R65, R176, R189, R190; DESIGN CHOICE, log entry 23). -/
def State.reset : State :=
  { State.heldInReset (Table.fill 3 StoreArea.factory) with
    held := false
    journal := ⟨[⟨1, ⟨0, 0, .unset⟩, .reset .powerOn⟩], 2, Config.defaultJournalThreshold⟩
    link := { Link.initial with
      service := .waiting
      output := [.report (.ready .powerOn (Table.fill 3 true) (Table.fill 3 false) 1)] } }

/-! ### Reasons to stop -/

/-- Reasons for which the machine stops with a fault. The spec gives the part no condition under which it
stops, so no meaning raises one and the type has no constructor; that is safe. -/
inductive Fault where
deriving DecidableEq, Repr

/-- Reasons for which a command has no meaning. -/
inductive Refusal where
  /-- Raised by `exec` alone, in the arm of a command that has no meaning yet; safe, since the model then
  says nothing of the command. Every command of the table has its meaning, so no arm raises it. -/
  | notModelled (mnemonic : String)
deriving DecidableEq, Repr

end Sys2Proof.Machine
end

