-- ==== Sys2Proof/Machine/Operands.lean ====
section
/-! DEFINITION. How the values of section 10.1 are read from and written to octets: high octet first (R191),
with the absent encodings of R191's table, and the forms of the fields that several requests carry. -/

namespace Sys2Proof.Machine

open Sys2Proof

/-! ### Reading -/

/-- An unsigned 16-bit value, high octet first (R191). -/
def be16 (hi lo : Octet) : Nat := hi.toNat * 256 + lo.toNat

/-- A two's-complement 16-bit value, high octet first (R191). -/
def signed16 (hi lo : Octet) : Int :=
  if be16 hi lo < 32768 then (be16 hi lo : Int) else (be16 hi lo : Int) - 65536

/-- An unsigned 24-bit value, high octet first (R191). -/
def be24 (a b c : Octet) : Nat := a.toNat * 65536 + be16 b c

/-- An unsigned 32-bit value, high octet first (R191). -/
def be32 (a b c d : Octet) : Nat := be16 a b * 65536 + be16 c d

/-- The number of an octet as an index below `n`, if it is one. -/
def indexOf (n : Nat) (o : Octet) : Option (Fin n) :=
  if h : o.toNat < n then some ⟨o.toNat, h⟩ else none

/-- A line number, if the octet names a line (R42). -/
def lineOf (o : Octet) : Option LineNo := indexOf 48 o

/-- A call reference, high octet first (R191). -/
def refOf (hi lo : Octet) : CallRef := hi ++ lo

/-! ### Writing -/

/-- A number in `k` octets, high octet first (R191). -/
def octets : Nat → Nat → List Octet
  | 0, _ => []
  | k + 1, n => BitVec.ofNat 8 (n / 256 ^ k) :: octets k n

/-- A number in `k` octets, all ones when absent (R191). -/
def octetsOrOnes (k : Nat) : Option Nat → List Octet
  | some n => octets k n
  | none => List.replicate k 0xFF

/-- A signed value in two octets, 0x8000 when absent (R191). -/
def signedOctets : Option Int → List Octet
  | some x => octets 2 (x % 65536).toNat
  | none => [0x80, 0x00]

/-- An enumeration or small number in one octet, 0xFF when absent (R191). -/
def small (n : Option Nat) : Octet :=
  match n with
  | some n => BitVec.ofNat 8 n
  | none => 0xFF

/-- A group of one flag (R191). -/
def flagOctet (b : Bool) : Octet := if b then 1 else 0

/-- Seconds as they are sent: 65535 if larger (R87, R92, R131). -/
def capSeconds (n : Nat) : Nat := min n 65535

/-! ### The sum check -/

/-- The sum of octets taken as unsigned numbers, modulo 65536 (R177, R191). -/
def sumCheck (os : List Octet) : Nat := (os.map BitVec.toNat).sum % 65536

/-- A frame or message around a code and a body: start octet, length, code, body, check (R177, section 10.3). -/
def enclose (start code : Octet) (body : List Octet) : List Octet :=
  let counted := BitVec.ofNat 8 (body.length + 1) :: code :: body
  start :: counted ++ octets 2 (sumCheck counted)

/-! ### Entry images (section 10.2, R53) -/

/-- Whether an octet may stand in a post number: A–Z, 0–9 or hyphen (R48, R191). -/
def isPostChar (o : Octet) : Bool :=
  (0x41 ≤ o.toNat && o.toNat ≤ 0x5A) || (0x30 ≤ o.toNat && o.toNat ≤ 0x39) || o.toNat == 0x2D

/-- The characters of a post number field, if it is one: 1–8 characters, left-justified and padded with
0x00 (R53, R191). -/
def postOf (field : List Octet) : Option (List Octet) :=
  let text := field.takeWhile (· ≠ 0)
  if text ≠ [] ∧ text.all isPostChar ∧ (field.drop text.length).all (· = 0) then some text else none

/-- A carriageway octet (R191). -/
def carriagewayOf (o : Octet) : Option Carriageway :=
  match o.toNat with
  | 0 => some .a
  | 1 => some .b
  | 2 => some .link
  | _ => none

/-- A zone octet (R191). -/
def zoneOf (o : Octet) : Option Zone :=
  match o.toNat with
  | 0 => some .tunnel
  | 1 => some .structure_
  | 2 => some .open_
  | 3 => some .depot
  | _ => none

/-- A threshold set octet (R191). -/
def setChoiceOf (o : Octet) : Option SetChoice :=
  match o.toNat with
  | 0 => some .a
  | 1 => some .b
  | _ => none

/-- An expected post code: ABSENT, or 0000–8999 (R53, R191). The outer option is the range check. -/
def expectedOf (n : Nat) : Option (Option Nat) :=
  if n = 0xFFFF then some none else if n ≤ 8999 then some (some n) else none

/-- A bore octet under its zone: 1–4 for TUNNEL, absent (0) otherwise (R53, R191). -/
def boreOf (z : Zone) (o : Octet) : Option (Option Nat) :=
  if z = .tunnel then
    if 1 ≤ o.toNat ∧ o.toNat ≤ 4 then some (some o.toNat) else none
  else if o = 0 then some none else none

/-- A gain and an offset within their ranges (R6, R53, R56). -/
def calibrationOf (g1 g0 o1 o0 : Octet) : Option Calibration :=
  let gain := be16 g1 g0
  let offset := signed16 o1 o0
  if 1024 ≤ gain ∧ gain ≤ 4095 ∧ -200 ≤ offset ∧ offset ≤ 200 then some ⟨gain, offset⟩ else none

/-- The naming fields of a NAMED entry image, if each is in range (R53). -/
def namedOf (post : List Octet) (x1 x0 way c2 c1 c0 zone bore : Octet) : Option NamedFields := do
  let text ← postOf post
  let expected ← expectedOf (be16 x1 x0)
  let carriageway ← carriagewayOf way
  let z ← zoneOf zone
  let b ← boreOf z bore
  if be24 c2 c1 c0 ≤ 999999 then
    some ⟨expected, ⟨text, carriageway, be24 c2 c1 c0, z, b⟩⟩
  else none

/-- The naming fields of an entry image under its entry state octet, if it is one and they are in range; those of an
EMPTY image are not looked at (R53). -/
def namingOf (st : Octet) (post : List Octet) (x1 x0 way c2 c1 c0 zone bore : Octet) : Option (Option NamedFields) :=
  match st.toNat with
  | 0 => some none
  | 1 => (namedOf post x1 x0 way c2 c1 c0 zone bore).map some
  | _ => none

/-- The entry of a DIR WRITE image of 27 octets, with service field `sv`, if every check of R53 passes. -/
def entryOf (sv : EntryService) : List Octet → Option Entry
  | [st, p0, p1, p2, p3, p4, p5, p6, p7, x1, x0, way, c2, c1, c0, zone, bore, chain, set_,
     lg1, lg0, lo1, lo0, gg1, gg0, go1, go0] => do
    let named ← namingOf st [p0, p1, p2, p3, p4, p5, p6, p7] x1 x0 way c2 c1 c0 zone bore
    let wc ← indexOf 16 chain
    let ts ← setChoiceOf set_
    let lc ← calibrationOf lg1 lg0 lo1 lo0
    let gc ← calibrationOf gg1 gg0 go1 go0
    some ⟨named, wc, ts, lc, gc, sv⟩
  | _ => none

/-! ### Threshold sets, clips and chains -/

/-- The eight limits of a threshold set, if every check of R12 passes. Neither R12 nor section 10.2 gives the
order of the limits in the request: it is taken to be that of R12's checks, foreign maximum first, short
minimum last (DEDUCED, log entry 31). -/
def thresholdsOf : List Octet → Option Thresholds
  | [a1, a0, b1, b0, c1, c0, d1, d0, e1, e0, f1, f0, g1, g0, h1, h0] =>
    let t : Thresholds := ⟨signed16 a1 a0, signed16 b1 b0, signed16 c1 c0, signed16 d1 d0, signed16 e1 e0,
      signed16 f1 f0, signed16 g1 g0, signed16 h1 h0⟩
    let limits := [t.foreignMax, t.openMin, t.openMax, t.presentMin, t.presentMax, t.loopMin, t.loopMax,
      t.shortMin]
    if limits.all (fun x => -1000 ≤ x ∧ x ≤ 1000) ∧ t.foreignMax < t.openMin ∧ t.openMin ≤ t.openMax ∧
       t.openMax < t.presentMin ∧ t.presentMin ≤ t.presentMax ∧ t.presentMax < t.loopMin ∧
       t.loopMin ≤ t.loopMax ∧ t.loopMax < t.shortMin
    then some t else none
  | _ => none

/-- The number of blocks of a wrap window in a clip of `len` blocks (R150). -/
def WrapWindow.blocks (w : WrapWindow) (len : Nat) : Nat :=
  match w with
  | .whole => len
  | .w8 => 8
  | .w16 => 16
  | .w32 => 32
  | .w64 => 64

/-- A wrap window octet: 0 for WHOLE, else its number of blocks (R149, R191). -/
def windowOf (o : Octet) : Option WrapWindow :=
  match o.toNat with
  | 0 => some .whole
  | 8 => some .w8
  | 16 => some .w16
  | 32 => some .w32
  | 64 => some .w64
  | _ => none

/-- The clip of a CLIP SET of length 1 or more, if every check of R149 passes. -/
def clipOf (start len : Nat) (w : Octet) : Option Clip := do
  let window ← windowOf w
  if start ≤ 4095 ∧ start + len ≤ 4096 ∧ window.blocks len ≤ len then some ⟨start, len, window⟩ else none

/-- One step of a CHAIN SET, if it passes its own checks of R151. -/
def chainStepOf (clip mode count gap : Octet) : Option ChainStep := do
  let c ← indexOf 32 clip
  let m ←
    match mode.toNat with
    | 0 => some StepMode.once
    | 1 => if 2 ≤ count.toNat ∧ count.toNat ≤ 15 then some (StepMode.times count.toNat) else none
    | 2 => some StepMode.loop
    | _ => none
  if gap.toNat ≤ 50 then some ⟨c, m, gap.toNat⟩ else none

/-- The steps of a CHAIN SET, four octets each, if each passes (R151). -/
def chainStepsOf : List Octet → Option (List ChainStep)
  | [] => some []
  | clip :: mode :: count :: gap :: rest => do
    let step ← chainStepOf clip mode count gap
    let steps ← chainStepsOf rest
    some (step :: steps)
  | _ => none

/-- Whether a LOOP step stands last only (R151). -/
def loopOnlyLast : List ChainStep → Bool
  | [] => true
  | [_] => true
  | step :: rest => step.mode ≠ .loop && loopOnlyLast rest

/-- The chain of a CHAIN SET: at most six steps, each in range, a LOOP step only last (R151). -/
def chainOf (body : List Octet) : Option (List ChainStep) := do
  let steps ← chainStepsOf body
  if steps.length ≤ 6 ∧ loopOnlyLast steps then some steps else none

end Sys2Proof.Machine
end

