-- ==== Sys2Proof/Machine/Flags.lean ====
section
/-! DEFINITION. The sticky flags of a line (R41), the bands as kinds of result (R24, R26), and the packing
of flags into an octet (R191). -/

namespace Sys2Proof.Machine

open Sys2Proof

/-- Whether flag `f` is set. -/
def StickyFlags.has (x : StickyFlags) : StickyFlag → Bool
  | .opened => x.opened
  | .short => x.short
  | .foreign => x.foreign
  | .leak => x.leak
  | .overRange => x.overRange
  | .codeMismatch => x.codeMismatch
  | .codeMissing => x.codeMissing

/-- The flags with `f` set (R41). -/
def StickyFlags.raise (x : StickyFlags) : StickyFlag → StickyFlags
  | .opened => { x with opened := true }
  | .short => { x with short := true }
  | .foreign => { x with foreign := true }
  | .leak => { x with leak := true }
  | .overRange => { x with overRange := true }
  | .codeMismatch => { x with codeMismatch := true }
  | .codeMissing => { x with codeMissing := true }

/-- The sticky flag of a fault kind (R39). -/
def flagOf : FaultKind → StickyFlag
  | .opened => .opened
  | .short => .short
  | .foreign => .foreign

/-- The number of a sticky flag, 0–6 in the order of R41 (section 10.2). -/
def StickyFlag.number : StickyFlag → Nat
  | .opened => 0
  | .short => 1
  | .foreign => 2
  | .leak => 3
  | .overRange => 4
  | .codeMismatch => 5
  | .codeMissing => 6

/-- Flags packed into one octet, bit 0 for the first listed (R191). -/
def packFlags : List Bool → Nat
  | [] => 0
  | b :: rest => (if b then 1 else 0) + 2 * packFlags rest

/-- The seven sticky flags as one group (R42, R191). -/
def StickyFlags.octet (x : StickyFlags) : Octet :=
  BitVec.ofNat 8
    (packFlags [x.opened, x.short, x.foreign, x.leak, x.overRange, x.codeMismatch, x.codeMissing])

/-- The three kinds of band result (R24). -/
inductive ResultKind where
  | make
  | brk
  | neutral
deriving DecidableEq, Repr

/-- LOOP and SHORT are make; OPEN, PRESENT and FOREIGN break; UNCLEAR neutral (R24). -/
def BandResult.kind : BandResult → ResultKind
  | .band .loop => .make
  | .band .short => .make
  | .band .opened => .brk
  | .band .present => .brk
  | .band .foreign => .brk
  | .unclear => .neutral

/-- The fault band a result shows, if any (R26). -/
def BandResult.faultBand : BandResult → Option FaultKind
  | .band .opened => some .opened
  | .band .short => some .short
  | .band .foreign => some .foreign
  | _ => none

end Sys2Proof.Machine
end

