-- ==== Sys2Proof/Machine/Ops.lean ====
section
/-! DEFINITION. The operations that several blocks share: the prompt store's octets, reading and replacing
one record of a table, looking up calls, reports and replies, the journal, desk messages, the LSC's
sticky flags and line events. -/

namespace Sys2Proof.Machine

open Sys2Proof

/-! ### The prompt store as memory (R148) -/

/-- What an octet of the prompt store reads as when nothing but silence was written to it (R148, R162;
DEDUCED addressing, log entry 29). -/
def Memory.silent : Octet := Config.silenceOctet

/-- The octet at an address. -/
def Memory.read : Memory → Nat → Octet
  | [], _ => Memory.silent
  | (b, w) :: m, a => if b = a then w else Memory.read m a

/-- The store with `v` at address `a`, in canonical form. -/
def Memory.write : Memory → Nat → Octet → Memory
  | [], a, v => if v = Memory.silent then [] else [(a, v)]
  | (b, w) :: m, a, v =>
    if a < b then
      if v = Memory.silent then (b, w) :: m else (a, v) :: (b, w) :: m
    else if a = b then
      if v = Memory.silent then m else (a, v) :: m
    else (b, w) :: Memory.write m a v

/-- The octets written one after another from address `a` on. -/
def Memory.writeAll : Memory → Nat → List Octet → Memory
  | m, _, [] => m
  | m, a, o :: os => Memory.writeAll (Memory.write m a o) (a + 1) os

/-- The canonical form: addresses strictly rising, and no entry that holds silence. -/
def Memory.wf : Memory → Bool
  | [] => true
  | [(_, w)] => w ≠ Memory.silent
  | (a, w) :: (b, v) :: m => w ≠ Memory.silent && a < b && Memory.wf ((b, v) :: m)

/-- The 160 octets of prompt block `k` (R148). -/
def Memory.block (m : Memory) (k : Nat) : Block := Table.ofFn fun i => Memory.read m (160 * k + i.val)

/-! ### One record of a table -/

/-- The state with the record of line `l` replaced. -/
def State.setLine (s : State) (l : LineNo) (x : LineRecord) : State := { s with lines := s.lines.set l x }

/-- The state with the record of line `l` changed by `f`. -/
def State.mapLine (s : State) (l : LineNo) (f : LineRecord → LineRecord) : State :=
  s.setLine l (f (s.lines.get l))

/-- The state with the measurement record of line `l` replaced. -/
def State.setMeasurement (s : State) (l : LineNo) (m : Measurement) : State :=
  { s with lmu := { s.lmu with records := s.lmu.records.set l m } }

/-- The state with the working entry of line `l` replaced. -/
def State.setEntry (s : State) (l : LineNo) (e : Entry) : State :=
  { s with dir := { s.dir with working := s.dir.working.set l e } }

/-- The state with place `p` of the call table replaced. -/
def State.setCall (s : State) (p : LineNo) (c : Option Call) : State :=
  { s with cc := { s.cc with calls := s.cc.calls.set p c } }

/-- The state with the call in place `p`, if there is one, changed by `f`. -/
def State.mapCall (s : State) (p : LineNo) (f : Call → Call) : State :=
  s.setCall p ((s.cc.calls.get p).map f)

/-- The state with the waiting queue replaced. -/
def State.setQueue (s : State) (q : List CallRef) : State := { s with cc := { s.cc with queue := q } }

/-- The trunk record of trunk `t`. -/
def State.trunk (s : State) (t : TrunkNo) : Trunk := s.ti.trunks.get t

/-- The state with the record of trunk `t` replaced. -/
def State.setTrunk (s : State) (t : TrunkNo) (x : Trunk) : State :=
  { s with ti := { s.ti with trunks := s.ti.trunks.set t x } }

/-- The state with the record of trunk `t` changed by `f`. -/
def State.mapTrunk (s : State) (t : TrunkNo) (f : Trunk → Trunk) : State := s.setTrunk t (f (s.trunk t))

/-- The state with the player channel of place `p` replaced. -/
def State.setPlayer (s : State) (p : LineNo) (x : Player) : State :=
  { s with ap := { s.ap with players := s.ap.players.set p x } }

/-- The state with the NCL's state changed by `f`. -/
def State.mapLink (s : State) (f : Link → Link) : State := { s with link := f s.link }

/-! ### Looking up calls (R72) -/

/-- The first index, counting from 0, at which `p` holds. -/
def firstIndex {α : Type} (p : α → Bool) : List α → Option Nat
  | [] => none
  | a :: as => if p a then some 0 else (firstIndex p as).map (· + 1)

/-- The first place of the call table whose content satisfies `p`. -/
def State.placeWhere (s : State) (p : Option Call → Bool) : Option LineNo :=
  (List.finRange 48).find? fun i => p (s.cc.calls.get i)

/-- The place of the live call with reference `r`. -/
def State.placeOfRef (s : State) (r : CallRef) : Option LineNo :=
  s.placeWhere fun c => (c.map Call.ref) == some r

/-- The place of the live call that names line `l`. -/
def State.placeOfLine (s : State) (l : LineNo) : Option LineNo :=
  s.placeWhere fun c => (c.map Call.line) == some l

/-- The live call with reference `r`. -/
def State.callOfRef (s : State) (r : CallRef) : Option Call :=
  (s.placeOfRef r).bind s.cc.calls.get

/-- The live call that names line `l`. -/
def State.callOfLine (s : State) (l : LineNo) : Option Call :=
  (s.placeOfLine l).bind s.cc.calls.get

/-- The live calls, by place. -/
def State.liveCalls (s : State) : List Call := s.cc.calls.cells.filterMap id

/-- A running time as an age: milliseconds from `mark` to now, modulo 2³² (R71). -/
def State.age (s : State) (mark : Word32) : Nat := (s.cc.now - mark).toNat

/-- A stamp of the time base as it stands (R164). -/
def State.stamp (s : State) : Stamp := ⟨s.time.seconds, s.time.phase, s.time.state⟩

/-! ### Reports and replies (R181) -/

/-- Whether an item of the output list is a report. -/
def OutputItem.isReport : OutputItem → Bool
  | .report _ => true
  | .reply _ => false

/-- The number of reports on the output list. -/
def Link.reports (k : Link) : Nat := (k.output.filter OutputItem.isReport).length

/-- A report is made: it joins the output list, or is lost if 16 reports are on it (R181). -/
def State.report (s : State) (r : Report) : State :=
  if s.link.reports < Config.outputReports then
    s.mapLink fun k => { k with output := k.output ++ [.report r] }
  else s.mapLink fun k => { k with reportLoss := true }

/-- READY is made: it joins the output list and the NCL enters WAITING; if 16 reports are on the list it
waits for the oldest of them to be sent (R181, R188, R190). -/
def State.makeReady (s : State) (r : Report) : State :=
  if s.link.reports < Config.outputReports then
    s.mapLink fun k => { k with output := k.output ++ [.report r], service := .waiting }
  else s.mapLink fun k => { k with heldReady := some r }

/-- A reply joins the output list (R181). -/
def State.reply (s : State) (r : Reply) : State :=
  s.mapLink fun k => { k with output := k.output ++ [.reply r] }

/-- The reply to a request that is not repeatable (R180). -/
def State.answer (s : State) (code : Octet) (res : Result) (v : ReplyValues := .nothing) : State :=
  s.reply ⟨code, res, none, v⟩

/-- The result of a run: DONE becomes END OF LINES where the repetition stops at line 47 with runs
remaining (R185). -/
def State.runResult (s : State) (res : Result) : Result :=
  match s.link.repetition with
  | some rep => if res = .done ∧ rep.index.val = 47 ∧ 0 < rep.remaining then .endOfLines else res
  | none => res

/-- The reply of one run of a repeatable request, with the line octet its run named (R180, R185). -/
def State.answerRun (s : State) (code line : Octet) (res : Result) (v : ReplyValues := .nothing) : State :=
  s.reply ⟨code, s.runResult res, some (some line), v⟩

/-! ### The journal (R171, R173, R175) -/

/-- Whether the journal is exhausted (R171). -/
def Journal.exhausted (j : Journal) : Bool := Config.lastSequenceNumber < j.nextSequence

/-- The number the next record takes, 0 if it will be discarded (R171). -/
def Journal.nextNumber (j : Journal) : Nat := if j.exhausted then 0 else j.nextSequence

/-- The records after `r` joins the newest end of a journal (R173). -/
def Journal.append (records : List Record) (r : Record) : List Record :=
  if records.length < Config.journalCapacity then records ++ [r] else records.tail ++ [r]

/-- The sequence number of the oldest record, 0 if there is none. -/
def Journal.oldest (records : List Record) : Nat := (records.head?.map Record.sequence).getD 0

/-- A record is handed to the journal: numbered, stamped and appended; JOURNAL LEVEL follows an append
that raises the number held to the threshold (R171, R173, R175). It is made at the append, so it stands before a
report that the same event makes after its record, and after one made before it (DESIGN CHOICE, log entry 37). -/
def State.record (s : State) (k : RecordKind) : State :=
  if s.journal.exhausted then s
  else
    let r : Record := ⟨s.journal.nextSequence, s.stamp, k⟩
    let records := Journal.append s.journal.records r
    let s' := { s with journal := { s.journal with records := records, nextSequence := r.sequence + 1 } }
    if s.journal.records.length < Config.journalCapacity ∧ records.length = s.journal.threshold then
      s'.report (.journalLevel records.length (Journal.oldest records) r.sequence)
    else s'

/-! ### Desk messages (R106) -/

/-- A message is made for trunk `t`: placed at the end of the transmit list, discarded and counted if the
list holds eight, not made at all with the link DOWN (R106). -/
def State.sendDesk (s : State) (t : TrunkNo) (m : DeskMessage) : State :=
  if (s.trunk t).link = .up then
    if (s.trunk t).transmit.length < Config.transmitMessages then
      s.mapTrunk t fun x => { x with transmit := x.transmit ++ [m] }
    else s.mapTrunk t fun x => { x with overruns := min (x.overruns + 1) 255 }
  else s

/-! ### The LSC's flags and events (R27, R41) -/

/-- A sticky flag is set on a line; a flag that was clear sends a LINE FAULT report (R41). -/
def State.setFlag (s : State) (l : LineNo) (f : StickyFlag) : State :=
  if (s.lines.get l).flags.has f then s
  else (s.mapLine l fun x => { x with flags := x.flags.raise f }).report (.lineFault l f .set)

/-- The line an event names (R27). -/
def LineEvent.line : LineEvent → LineNo
  | .seizure l => l
  | .codeResult l _ => l
  | .offHookAtStart l => l
  | .lockoutExpiry l => l
  | .hangUp l => l
  | .lineLost l => l
  | .answered l => l
  | .lineFault l _ => l

/-- The LSC hands an event to the CC (R27). -/
def State.hand (s : State) (e : LineEvent) : State := { s with events := s.events ++ [e] }

/-- The oldest event of line `l` on its way to the CC. -/
def State.oldestEvent (s : State) (l : LineNo) : Option LineEvent :=
  s.events.find? fun e => e.line == l

/-- The CC takes event `e` and does `f`. Events of one line are taken in the order handed (R27): while an
earlier event of the line is on its way, `e` cannot be taken. An event that is not on its way is
handed and taken in one (DESIGN CHOICE, log entry 4). -/
def State.takeEvent (s : State) (e : LineEvent) (f : State → State) : State :=
  match s.oldestEvent e.line with
  | none => f s
  | some e' => if e' = e then f { s with events := s.events.erase e } else s

/-- Commands other than those of the reset itself do nothing while a power-on reset is held (R22, R46,
R122, R162, R170, R189; DEDUCED for the rest, log entry 6). -/
def State.running (s : State) (f : State → State) : Host.Outcome State Fault Refusal :=
  .next (if s.held then s else f s)

end Sys2Proof.Machine
end

