-- ==== Sys2Proof/Machine/Measurement.lean ====
section
/-! DEFINITION. Line measurement (chapter 1): stages A to D, the leak and over-range declarations, and the
evaluation whole. Divisions are arithmetic right shifts, that is, floors. -/

namespace Sys2Proof.Machine

open Sys2Proof

/-- Whether a sample is at an end of the converter range (R2). -/
def clipped (x : Int) : Bool := x = -2048 || x = 2047

/-- A sample pair added to its group (R2, R3). -/
def Measurement.addPair (m : Measurement) (loop ground : Int) : Measurement :=
  { m with
    loopSum := m.loopSum + loop
    groundSum := m.groundSum + ground
    groupPosition := m.groupPosition + 1
    overRange := m.overRange || clipped loop || clipped ground }

/-- Stage A: the decimating box average of a group sum (R3). -/
def stageA (sum : Int) : Int := (sum + 4) / 8

/-- A stage A value appended to a stage B window of at most four (R4). -/
def pushWindow (w : List Int) (a : Int) : List Int :=
  if w.length < 4 then w ++ [a] else w.tail ++ [a]

/-- Stage B: the sliding average of a full window (R4). -/
def stageB (w : List Int) : Int := (w.sum + 2) / 4

/-- Saturation to the corrected range (R6). -/
def saturate (x : Int) : Int := max (-1000) (min 1000 x)

/-- Stage C: the calibrated, saturated value (R6). -/
def stageC (cal : Calibration) (b : Int) : Int := saturate ((b * cal.gain + 2048) / 4096 + cal.offset)

/-- The end of a group: stage A on both channels, the sums back to 0 (R3, R4). -/
def Measurement.closeGroup (m : Measurement) : Measurement :=
  { m with
    loopWindow := pushWindow m.loopWindow (stageA m.loopSum)
    groundWindow := pushWindow m.groundWindow (stageA m.groundSum)
    loopSum := 0
    groundSum := 0 }

/-- The band whose entry interval holds a corrected loop value (R8, R9). -/
def Thresholds.bandOf (t : Thresholds) (x : Int) : Option Band :=
  if x ≤ t.foreignMax then some .foreign
  else if t.openMin ≤ x ∧ x ≤ t.openMax then some .opened
  else if t.presentMin ≤ x ∧ x ≤ t.presentMax then some .present
  else if t.loopMin ≤ x ∧ x ≤ t.loopMax then some .loop
  else if t.shortMin ≤ x then some .short
  else none

/-- The band memory after classifying a value: the band entered, or the band remembered (R9, R10). -/
def classify (t : Thresholds) (memory : Option Band) (x : Int) : Option Band :=
  match t.bandOf x with
  | some b => some b
  | none => memory

/-- The band result a band memory gives: its band, or UNCLEAR (R9, R10). -/
def bandResultOf : Option Band → BandResult
  | some b => .band b
  | none => .unclear

/-- The LEAK condition after a corrected ground value (R14). -/
def leakAfter (before : Bool) (ground : Int) : Bool :=
  if 50 ≤ ground.natAbs then true else if ground.natAbs ≤ 30 then false else before

/-- The leak persistence count after the LEAK test (R15). -/
def leakCountAfter (leak : Bool) (count : Nat) : Nat :=
  if leak then min (count + 1) Config.leakLimit else 0

/-- Stages B and C on both channels, classification and the LEAK test, in the order of R17; the
over-range marker is handed on and cleared (R16). -/
def Measurement.evaluated (m : Measurement) (t : Thresholds) (lc gc : Calibration) : Measurement :=
  let lb := stageB m.loopWindow
  let gb := stageB m.groundWindow
  let l := stageC lc lb
  let g := stageC gc gb
  let memory := classify t m.bandMemory l
  let leak := leakAfter m.leak g
  { m with
    loopB := some lb
    groundB := some gb
    loopC := some l
    groundC := some g
    bandMemory := memory
    bandResult := some (bandResultOf memory)
    leak := leak
    leakCount := leakCountAfter leak m.leakCount
    overRange := false }

/-- The result handed to the LSC by the evaluation that took `m` to `m'` (R15, R16, R17). -/
def evalResult (m m' : Measurement) : EvalResult :=
  ⟨bandResultOf m'.bandMemory, m'.leak, m'.leakCount = Config.leakLimit, m.overRange⟩

/-- The threshold set an entry chooses (R7). -/
def Lmu.thresholds (u : Lmu) : SetChoice → Thresholds
  | .a => u.setA
  | .b => u.setB

/-- One sample pair of a line in the LMU: the line's record after it, and the evaluation result if the
pair closed a group whose windows then hold four values (R1–R7, R17). -/
def State.measure (s : State) (l : LineNo) (loop ground : Int) : Measurement × Option EvalResult :=
  let m := (s.lmu.records.get l).addPair loop ground
  if m.groupPosition ≠ 0 then (m, none)
  else
    let m := m.closeGroup
    if m.loopWindow.length < 4 then (m, none)
    else
      let e := s.dir.working.get l
      let m' := m.evaluated (s.lmu.thresholds e.thresholdSet) e.loopCal e.groundCal
      (m', some (evalResult m m'))

/-- Measurement of a line starts, or ends: its record takes the empty values (R19, R20). -/
def State.clearMeasurement (s : State) (l : LineNo) : State := s.setMeasurement l Measurement.empty

/-- What the measurement snapshot of a line returns; nothing for an UNEQUIPPED line (R18). -/
def State.snapshotOf (s : State) (l : LineNo) : MeasurementValues :=
  let m := s.lmu.records.get l
  if (s.lines.get l).state = .unequipped then ⟨none, none, none, none, none, none⟩
  else ⟨m.loopB, m.groundB, m.loopC, m.groundC, m.bandResult, some m.leak⟩

end Sys2Proof.Machine
end

