-- ==== Sys2Proof/Machine/LineStates.lean ====
section
/-! DEFINITION. The Line State Controller (chapter 2): runs, dwell, the checks of each line state, ringing,
faults, and the commands that are evaluations or notices of a line. -/

namespace Sys2Proof.Machine

open Sys2Proof

/-- A count that is not increased beyond 65535 (section 2.1). -/
def cap16 (n : Nat) : Nat := min n 65535

/-! ### Runs and dwell (R25, R26) -/

/-- The amount by which a make result raises the run length: one, and any pending break it merges (R25). -/
def LineRecord.makeStep (x : LineRecord) : Nat :=
  if x.runKind = some .make then x.pendingBreak + 1 else 1

/-- The lockout count after a make result (R33). -/
def LineRecord.lockoutAfterMake (x : LineRecord) : Nat :=
  if x.state = .lockout then min (x.lockoutCount + x.makeStep) Config.lockoutLimit else x.lockoutCount

/-- The run update of a make result; `loop` says whether the band is LOOP (R25). -/
def LineRecord.makeRun (x : LineRecord) (loop : Bool) : LineRecord :=
  if x.runKind = some .make then
    { x with
      runLength := cap16 (x.runLength + x.makeStep)
      pendingBreak := 0
      loopCount := if loop then cap16 (x.loopCount + x.makeStep) else 0
      lockoutCount := x.lockoutAfterMake }
  else
    { x with
      runKind := some .make
      runLength := 1
      pendingBreak := 0
      loopCount := if loop then 1 else 0
      lockoutCount := x.lockoutAfterMake }

/-- The run update of a break result with band `b` (R25); the lockout count returns to 0 where a break run
begins (R33). -/
def LineRecord.breakRun (x : LineRecord) (b : Band) : LineRecord :=
  match x.runKind with
  | some .make =>
    if x.pendingBreak < 2 then { x with lastBreak := some b, pendingBreak := x.pendingBreak + 1 }
    else
      { x with
        lastBreak := some b
        runKind := some .brk
        runLength := 3
        pendingBreak := 0
        loopCount := 0
        lockoutCount := 0 }
  | some .brk => { x with lastBreak := some b, runLength := cap16 (x.runLength + 1) }
  | none => { x with lastBreak := some b, runKind := some .brk, runLength := 1, lockoutCount := 0 }

/-- The run update of an UNCLEAR result: a current run is extended by one (R25; DEDUCED, log entry 19). -/
def LineRecord.neutralRun (x : LineRecord) : LineRecord :=
  if x.runKind = none then x else { x with runLength := cap16 (x.runLength + 1) }

/-- The run update (R25). -/
def LineRecord.runUpdate (x : LineRecord) : BandResult → LineRecord
  | .band .loop => x.makeRun true
  | .band .short => x.makeRun false
  | .band b => x.breakRun b
  | .unclear => x.neutralRun

/-- The dwell and clear counts after a result (R26). -/
def LineRecord.dwellUpdate (x : LineRecord) (r : BandResult) : LineRecord :=
  match r.faultBand with
  | some k =>
    if x.dwellBand = some k then
      { x with dwellCount := min (x.dwellCount + 1) Config.dwellLimit, clearCount := 0 }
    else { x with dwellBand := some k, dwellCount := 1, clearCount := 0 }
  | none =>
    match r with
    | .band .present =>
      { x with
        dwellBand := none
        dwellCount := 0
        clearCount := if x.state = .fault then min (x.clearCount + 1) Config.dwellLimit else 0 }
    | .unclear => x
    | _ => { x with dwellBand := none, dwellCount := 0, clearCount := 0 }

/-- The length of the break run that a result ends by make, if it ends one (R25, R30). -/
def LineRecord.endedBreak (x : LineRecord) (r : BandResult) : Option Nat :=
  if r.kind = .make ∧ x.runKind = some .brk then some x.runLength else none

/-! ### Transitions -/

/-- The line enters `st`, nothing else of its record changing. -/
def State.enter (s : State) (l : LineNo) (st : LineState) : State := s.mapLine l fun x => { x with state := st }

/-- The line enters SETTLING: every signalling field at its entry value and the measurement restarted; the
sticky flags are kept (R19, R28). -/
def State.settle (s : State) (l : LineNo) : State :=
  (s.mapLine l fun x => LineRecord.fresh .settling x.flags).clearMeasurement l

/-- The line becomes UNEQUIPPED: flags cleared, signalling state emptied, measurement ended (R20, R43). -/
def State.unequip (s : State) (l : LineNo) : State :=
  (s.setLine l (LineRecord.fresh .unequipped StickyFlags.clear)).clearMeasurement l

/-- Ringing is removed and the line enters `st` (R34, R37). -/
def State.stopRinging (s : State) (l : LineNo) (st : LineState) : State :=
  s.mapLine l fun x => { x with state := st, ringPhase := none, ringPosition := 0 }

/-- A fault is declared on a line with kind `k`: the flag, the report "declared" and the journal record of
R39 and R40. -/
def State.declareFault (s : State) (l : LineNo) (k : FaultKind) : State :=
  ((s.mapLine l fun x => { x with faultKind := some k, flags := x.flags.raise (flagOf k) }).report
    (.lineFault l (flagOf k) .declared)).record (.lineFault l k true)

/-- Entry into FAULT, the fault kind being the dwell band (R39). -/
def State.enterFault (s : State) (l : LineNo) (k : FaultKind) : State :=
  ((s.mapLine l fun x =>
      { x with state := .fault, clearCount := 0, ringPhase := none, ringPosition := 0 }).declareFault l k).hand
    (.lineFault l k)

/-- The line leaves FAULT: kind removed, report and journal record "cleared" with the kind held (R40). -/
def State.clearFault (s : State) (l : LineNo) : State :=
  match (s.lines.get l).faultKind with
  | some k =>
    ((s.mapLine l fun x => { x with faultKind := none }).report (.lineFault l (flagOf k) .cleared)).record
      (.lineFault l k false)
  | none => s

/-- Seizure: the line enters COLLECTING with collection empty, and SEIZURE is handed (R29). -/
def State.seize (s : State) (l : LineNo) : State :=
  (s.mapLine l fun x => { x with state := .collecting, digits := [], pulses := 0, codeTimer := 0 }).hand
    (.seizure l)

/-- The end of collection: the line enters ACTIVE and CODE RESULT is handed (R31). -/
def State.endCollection (s : State) (l : LineNo) (code : CodeResult) : State :=
  (s.enter l .active).hand (.codeResult l code)

/-- The code that four digits make, in the order received (R31). -/
def codeOf (ds : List (Fin 10)) : CodeResult :=
  .digits (Fin.ofNat 10000 (ds.foldl (fun n d => n * 10 + d.val) 0))

/-! ### The checks of each state

Each takes the state with the line's record already brought up to date by R25 and R26. -/

/-- The dwell band, once the dwell count has reached its limit (R38). -/
def LineRecord.faultDue (x : LineRecord) : Option FaultKind :=
  if Config.dwellLimit ≤ x.dwellCount then x.dwellBand else none

/-- Whether a break run has reached the length of a hang-up (R30, R32, R33). -/
def LineRecord.hungUp (x : LineRecord) : Bool :=
  x.runKind = some .brk && Config.hangUpLength ≤ x.runLength

/-- SETTLING (R28). -/
def State.checkSettling (s : State) (l : LineNo) (r : BandResult) : State :=
  let x := s.lines.get l
  match x.faultDue with
  | some k => s.enterFault l k
  | none =>
    if r = .band .present then s.enter l .idle
    else if Config.seizureLength ≤ x.loopCount then (s.enter l .active).hand (.offHookAtStart l)
    else s

/-- IDLE (R29). -/
def State.checkIdle (s : State) (l : LineNo) : State :=
  let x := s.lines.get l
  match x.faultDue with
  | some k => s.enterFault l k
  | none => if Config.seizureLength ≤ x.loopCount then s.seize l else s

/-- The pulse of a break of length `len` ended by make: the pulse count after it, or none if the code is
INVALID (R30, check 4). -/
def pulseAfter (pulses : Nat) (len : Nat) : Option Nat :=
  if 3 ≤ len ∧ len ≤ 15 then if pulses + 1 < 11 then some (pulses + 1) else none
  else if 16 ≤ len ∧ len ≤ 49 then none
  else some pulses

/-- The digit end of R30, check 5: the record with the digit appended, if a digit ends here. -/
def LineRecord.digitEnd (x : LineRecord) : LineRecord :=
  if x.runKind = some .make ∧ 1 ≤ x.pulses ∧ Config.digitEndLength ≤ x.runLength then
    { x with digits := x.digits ++ [Fin.ofNat 10 (x.pulses % 10)], pulses := 0 }
  else x

/-- COLLECTING, its code timer already raised (R30); `ended` is the break run this result ended by make. -/
def State.checkCollecting (s : State) (l : LineNo) (ended : Option Nat) : State :=
  let x := s.lines.get l
  if x.hungUp then (s.enter l .idle).hand (.hangUp l)
  else
    match x.faultDue with
    | some k => s.enterFault l k
    | none =>
      match pulseAfter x.pulses (ended.getD 0) with
      | none =>
        -- An eleventh pulse is counted before the code is INVALID (R30, check 4).
        let p := if ended.getD 0 ≤ 15 then x.pulses + 1 else x.pulses
        (s.mapLine l fun x => { x with pulses := p }).endCollection l .invalid
      | some p =>
        let x' := LineRecord.digitEnd { x with pulses := p }
        let s' := s.setLine l x'
        if 4 ≤ x'.digits.length then s'.endCollection l (codeOf x'.digits)
        else if Config.codeTimerLimit ≤ x'.codeTimer then s'.endCollection l .missing
        else s'

/-- ACTIVE (R32). -/
def State.checkActive (s : State) (l : LineNo) : State :=
  let x := s.lines.get l
  match x.faultDue with
  | some k => s.enterFault l k
  | none =>
    if x.hungUp then
      (s.enter l .idle).hand (if x.lastBreak = some .present then .hangUp l else .lineLost l)
    else s

/-- LOCKOUT (R33). -/
def State.checkLockout (s : State) (l : LineNo) : State :=
  let x := s.lines.get l
  match x.faultDue with
  | some k => s.enterFault l k
  | none =>
    if x.hungUp then s.enter l .idle
    else if Config.lockoutLimit ≤ x.lockoutCount then (s.enter l .active).hand (.lockoutExpiry l)
    else s

/-- RINGING, in the counted part of a ring-off (R37). -/
def State.checkRinging (s : State) (l : LineNo) : State :=
  let x := s.lines.get l
  if Config.seizureLength ≤ x.loopCount then (s.stopRinging l .active).hand (.answered l)
  else
    match x.faultDue with
    | some k => s.enterFault l k
    | none => s

/-- FAULT (R40). -/
def State.checkFault (s : State) (l : LineNo) : State :=
  let x := s.lines.get l
  match x.faultDue with
  | some k => if x.faultKind = some k then s.setFlag l (flagOf k) else s.declareFault l k
  | none =>
    if Config.dwellLimit ≤ x.clearCount then (s.enter l .idle).clearFault l
    else if Config.seizureLength ≤ x.loopCount then (s.clearFault l).seize l
    else s

/-! ### Acting on a result (R24) -/

/-- The leak and over-range declarations of a result set their flags (R24, R41). -/
def State.declarations (s : State) (l : LineNo) (r : EvalResult) : State :=
  let s := if r.leakDeclared then s.setFlag l .leak else s
  if r.overRangeDeclared then s.setFlag l .overRange else s

/-- The run update, then the dwell and clear counts (R24). -/
def LineRecord.update (x : LineRecord) (r : BandResult) : LineRecord := (x.runUpdate r).dwellUpdate r

/-- A result that is acted on: declarations, run, dwell, then the checks of the line's state (R24). -/
def State.actOn (s : State) (l : LineNo) (r : EvalResult) : State :=
  let x := s.lines.get l
  let s := (s.declarations l r).mapLine l fun x => x.update r.band
  match x.state with
  | .settling => s.checkSettling l r.band
  | .idle => s.checkIdle l
  | .collecting =>
    (s.mapLine l fun x => { x with codeTimer := min (x.codeTimer + 1) Config.codeTimerLimit }).checkCollecting l
      (x.endedBreak r.band)
  | .active => s.checkActive l
  | .lockout => s.checkLockout l
  | .ringing => s.checkRinging l
  | .fault => s.checkFault l
  | .unequipped => s
  | .outOfService => s

/-- The ring cadence of R36 advanced by one evaluation. -/
def LineRecord.cadence (x : LineRecord) : LineRecord :=
  match x.ringPhase with
  | some .off =>
    if x.ringPosition < Config.ringOffLength then { x with ringPosition := x.ringPosition + 1 }
    else { x with ringPhase := some .on, ringPosition := 1, loopCount := 0 }
  | _ =>
    if x.ringPosition < Config.ringOnLength then { x with ringPosition := x.ringPosition + 1 }
    else { x with ringPhase := some .off, ringPosition := 1 }

/-- Whether the cadence stands in the counted part of a ring-off (R36). -/
def LineRecord.counted (x : LineRecord) : Bool :=
  x.ringPhase = some .off && Config.ringCountedFrom ≤ x.ringPosition

/-- Whether ringing voltage is on the line: through each ON, absent through each OFF (R36). -/
def LineRecord.ringingVoltage (x : LineRecord) : Bool := x.state = .ringing && x.ringPhase = some .on

/-- The LSC takes an evaluation result of a line (R24, R36, R44). -/
def State.takeResult (s : State) (l : LineNo) (r : EvalResult) : State :=
  match (s.lines.get l).state with
  | .unequipped => s
  | .outOfService => s
  | .ringing =>
    let s := s.mapLine l LineRecord.cadence
    if (s.lines.get l).counted then s.actOn l r else s
  | _ => s.actOn l r

/-! ### Notices from the CC (R34, R35) -/

/-- START RINGING on an IDLE line (R35). -/
def State.startRinging (s : State) (l : LineNo) : State :=
  s.mapLine l fun x =>
    { x with state := .ringing, ringPhase := some .on, ringPosition := 0, loopCount := 0 }

/-- The LSC takes CALL ENDED (R34). -/
def State.takeCallEnded (s : State) (l : LineNo) : State :=
  let x := s.lines.get l
  match x.state with
  | .collecting | .active =>
    if x.runKind = some .make then s.mapLine l fun x => { x with state := .lockout, lockoutCount := 0 }
    else s.enter l .idle
  | .ringing =>
    if x.runKind = some .make then
      (s.stopRinging l .lockout).mapLine l fun x => { x with lockoutCount := 0 }
    else s.stopRinging l .idle
  | _ => s

/-! ### The commands -/

/-- SAMPLE_PAIR: the pair enters the line's group; if it closes an evaluation, the LSC takes the result
(R1–R7, R14–R17, R24–R41). -/
def execSamplePair (l : LineNo) (loop ground : BitVec 12) (s : State) : Host.Outcome State Fault Refusal :=
  s.running fun s =>
    if (s.lines.get l).state = .unequipped then s
    else
      match s.measure l loop.toInt ground.toInt with
      | (m, none) => s.setMeasurement l m
      | (m, some r) => (s.setMeasurement l m).takeResult l r

/-- The evaluation that a sample of a line closes, carried out whole as SAMPLE_PAIR has it (R17, R24), where
`due` says of the line record and the result that it brings the moment which a row names; nothing where the sample
closes no evaluation or that moment has not come (log entries 3 and 5). -/
def State.evaluateWhere (s : State) (e : LineSample) (due : LineRecord → EvalResult → Bool) : State :=
  match s.measure e.line e.loop.toInt e.ground.toInt with
  | (m, some r) =>
    if due (s.lines.get e.line) r then (s.setMeasurement e.line m).takeResult e.line r else s
  | (_, none) => s

/-- Whether the next evaluation of a line brings its code timer to its end (R30, check 1). -/
def LineRecord.codeTimerEnds (x : LineRecord) : Bool :=
  x.state = .collecting && Config.codeTimerLimit ≤ x.codeTimer + 1

/-- Whether a result of a line brings its lockout count to its end (R33). -/
def LineRecord.lockoutEnds (x : LineRecord) (r : BandResult) : Bool :=
  x.state = .lockout && Config.lockoutLimit ≤ (x.update r).lockoutCount

/-- Whether the next evaluation of a line takes its ring cadence into the other phase (R36). -/
def LineRecord.ringPhaseEnds (x : LineRecord) : Bool :=
  x.state = .ringing &&
    x.ringPosition = (if x.ringPhase = some .off then Config.ringOffLength else Config.ringOnLength)

/-- CODE_TIMER_EXPIRY: the evaluation at which the code timer of a COLLECTING line reaches 320. The six checks of
R30 are made in their order on its result, so that collection ends MISSING where check 6 is reached, and otherwise
with the hang-up, the fault, the INVALID or the complete code of the checks before it (R30, R31; DEDUCED, log entry
5). -/
def execCodeTimerExpiry (e : LineSample) (s : State) : Host.Outcome State Fault Refusal :=
  s.running fun s => s.evaluateWhere e fun x _ => x.codeTimerEnds

/-- LOCKOUT_COUNT_EXPIRY: the evaluation at which the lockout count of a LOCKOUT line reaches 3750. The checks of
R33 are made in their order on its result: the line enters ACTIVE and LOCKOUT EXPIRY is handed, unless a check before
applies (R33; DEDUCED, log entry 5). -/
def execLockoutCountExpiry (e : LineSample) (s : State) : Host.Outcome State Fault Refusal :=
  s.running fun s => s.evaluateWhere e fun x r => x.lockoutEnds r.band

/-- RING_PHASE_CHANGE: the evaluation that takes the cadence of a RINGING line from the last position of its phase
into the other phase (R36; DEDUCED, log entry 5). -/
def execRingPhaseChange (e : LineSample) (s : State) : Host.Outcome State Fault Refusal :=
  s.running fun s => s.evaluateWhere e fun x _ => x.ringPhaseEnds

/-- CALL_ENDED: the LSC takes the notice for a line (R34). -/
def execCallEnded (l : LineNo) (s : State) : Host.Outcome State Fault Refusal :=
  s.running fun s => { s with callEnds := s.callEnds.erase l }.takeCallEnded l

end Sys2Proof.Machine
end

