-- ==== Sys2Proof/Machine/Directory.lean ====
section
/-! DEFINITION. The Post Directory (chapter 3): bank checks, store completions, the reset load, and the
composition of identity snapshots. -/

namespace Sys2Proof.Machine

open Sys2Proof

/-- The bank of a line (section 3.2). -/
def bankOf (l : LineNo) : Fin 3 := ⟨l.val / 16, by omega⟩

/-- The place of a line within its bank. -/
def slotOf (l : LineNo) : Fin 16 := ⟨l.val % 16, by omega⟩

/-- The line at a place of a bank: bank b holds lines 16b to 16b + 15. -/
def lineAt (b : Fin 3) (i : Fin 16) : LineNo := ⟨16 * b.val + i.val, by omega⟩

/-- Whether a store operation is in flight on bank `b`. -/
def Directory.busy (d : Directory) (b : Fin 3) : Bool :=
  match d.operation with
  | some op => op.bank = b
  | none => false

/-- The bank check of an edit: LOCKED, else BUSY, else none (R54). -/
def Directory.editRefusal (d : Directory) (l : LineNo) : Option Result :=
  if d.locks.get (bankOf l) then some .locked
  else if d.busy (bankOf l) then some .busy
  else none

/-- The sixteen working entries of a bank. -/
def Directory.bankEntries (d : Directory) (b : Fin 3) : Table 16 Entry :=
  Table.ofFn fun i => d.working.get (lineAt b i)

/-! ### Store operations (R57–R63) -/

/-- The milliseconds a store operation takes (R58). -/
def StoreKind.duration : StoreKind → Nat
  | .commit => Config.commitTime
  | .lock => Config.commitTime
  | .erase => Config.eraseTime

/-- The reply to a store request, in the order of R58; `none` for the bank is a bank above 2. -/
def Directory.storeRefusal (d : Directory) (kind : StoreKind) (bank : Option (Fin 3)) : Option Result :=
  match bank with
  | none => some .range
  | some b =>
    if d.operation ≠ none then some .busy
    else if d.latch = false then some .notEnabled
    else if kind ≠ .erase ∧ d.locks.get b = true then some .locked
    else none

/-- The working table after a DIR ERASE of a bank: its entries erased, each keeping its service field (R61). -/
def Directory.eraseBank (d : Directory) (b : Fin 3) : Table 48 Entry :=
  Table.ofFn fun l =>
    if bankOf l = b then Entry.erased (d.working.get l).service else d.working.get l

/-- The directory after an operation completes with DONE: the effect of its kind (R59, R60, R61), the
bank's STORE FAULT flag and the latch clear, nothing in flight (R62). -/
def Directory.completeDone (d : Directory) (op : StoreOp) : Directory :=
  let d := if op.kind = .erase then { d with working := d.eraseBank op.bank } else d
  let locked := op.kind = .lock
  { d with
    areas := d.areas.set op.bank ⟨d.bankEntries op.bank, locked, true⟩
    locks := d.locks.set op.bank locked
    faults := d.faults.set op.bank false
    latch := false
    operation := none }

/-- The directory after an operation completes with FAULT (R63). -/
def Directory.completeFault (d : Directory) (op : StoreOp) : Directory :=
  { d with
    areas := d.areas.modify op.bank fun a => { a with checks := false }
    locks := d.locks.set op.bank false
    faults := d.faults.set op.bank true
    latch := false
    operation := none }

/-- The store areas after a power-on reset: that of an operation in flight fails its check (R64). -/
def Directory.abandoned (d : Directory) : Table 3 StoreArea :=
  match d.operation with
  | some op => d.areas.modify op.bank fun a => { a with checks := false }
  | none => d.areas

/-- The load of the working table from the store, at either reset (R65). -/
def Directory.load (d : Directory) : Directory :=
  { d with
    working := Table.ofFn fun l =>
      let a := d.areas.get (bankOf l)
      if a.checks then a.entries.get (slotOf l) else Entry.erased .unequipped
    locks := d.areas.map fun a => a.checks && a.locked
    faults := d.areas.map fun a => !a.checks
    latch := false
    operation := none }

/-- STORE_COMPLETION_DONE (R62): the operation in flight, its time run out, completes with DONE; then the
report and the journal record. -/
def execStoreCompletionDone (s : State) : Host.Outcome State Fault Refusal :=
  s.running fun s =>
    match s.dir.operation with
    | some op =>
      if op.remaining = 0 then
        ({ s with dir := s.dir.completeDone op }.report (.storeDone op.bank op.kind true)).record
          (.store op.bank op.kind true)
      else s
    | none => s

/-- STORE_COMPLETION_FAULT (R63): the operation in flight, its time run out, fails its verification. -/
def execStoreCompletionFault (s : State) : Host.Outcome State Fault Refusal :=
  s.running fun s =>
    match s.dir.operation with
    | some op =>
      if op.remaining = 0 then
        ({ s with dir := s.dir.completeFault op }.report (.storeDone op.bank op.kind false)).record
          (.store op.bank op.kind false)
      else s
    | none => s

/-! ### The identity snapshot (R66–R69) -/

/-- The received code of a CODE RESULT (R71, R76). -/
def receivedOf : CodeResult → ReceivedCode
  | .digits n => .digits n
  | .invalid => .invalid
  | .missing => .missing

/-- The verification outcome of a code against an entry, and the sticky flag the check sets (R68).
`callback` says that the call is a CALLBACK call, which is not subject to check 2. -/
def verify (e : Entry) (code : ReceivedCode) (callback : Bool) : Verification × Option StickyFlag :=
  match e.named with
  | none => (.unnamed, none)
  | some f =>
    if callback then (.notChecked, none)
    else
      match code with
      | .absent => (.noCode, none)
      | .missing | .invalid => (.noCode, if f.expected = none then none else some .codeMissing)
      | .digits n =>
        if 9000 ≤ n.val then (.maintenance, none)
        else
          match f.expected with
          | none => (.notChecked, none)
          | some x => if n.val = x then (.matched, none) else (.mismatch, some .codeMismatch)

/-- The kind of a call (R69). -/
def kindOf (code : ReceivedCode) (callback : Bool) : CallKind :=
  if callback then .callback
  else
    match code with
    | .digits n => if 9000 ≤ n.val then .maintenance else .emergency
    | _ => .emergency

/-- The base class of a call (R69). -/
def baseClassOf (kind : CallKind) (naming : Option Naming) : Nat :=
  if kind = .maintenance then 3
  else
    match naming with
    | none => 0
    | some n =>
      match n.zone with
      | .tunnel => 0
      | .structure_ => 1
      | .open_ => 2
      | .depot => 2

/-- The snapshot, kind and classes composed for a call on line `l` from its working entry (R66–R69). -/
def composeIdentity (e : Entry) (l : LineNo) (code : ReceivedCode) (callback : Bool) : CallIdentity :=
  let naming := e.named.map NamedFields.naming
  let kind := kindOf code callback
  let base := baseClassOf kind naming
  ⟨⟨l, naming, e.waitingChain, code, (verify e code callback).1⟩, kind, base, base⟩

/-- The sticky flag that the verification of a code sets on the line, with its report (R41, R68). -/
def State.flagCode (s : State) (l : LineNo) (code : ReceivedCode) (callback : Bool) : State :=
  match (verify (s.dir.working.get l) code callback).2 with
  | some f => s.setFlag l f
  | none => s

end Sys2Proof.Machine
end

