-- ==== Sys2Proof/Machine/Players.lean ====
section
/-! DEFINITION. The player channels (sections 7.2 to 7.4): selecting a chain, stopping, sounding one block
and advancing, and what is in use. -/

namespace Sys2Proof.Machine

open Sys2Proof

/-- The number of the first play of a step (R153). -/
def StepMode.firstPlay : StepMode → PlayNumber
  | .once => .nth 1
  | .times _ => .nth 1
  | .loop => .first

/-- The start of step `k` of a chain, counted from 1; none past its end, where the chain has ended (R152). -/
def startStep (chain : List ChainStep) (k : Nat) : Option Playing :=
  (chain[k - 1]?).map fun step => ⟨k, step.mode.firstPlay, .clip, 0⟩

/-- The CC selects chain `ch` from step 1 for the channel of place `p` (R153). -/
def State.selectChain (s : State) (p : LineNo) (ch : Fin 16) : State :=
  s.setPlayer p (.active ch (startStep (s.ap.chains.get ch) 1))

/-- The CC stops the channel of place `p` (R153). -/
def State.stopPlayer (s : State) (p : LineNo) : State := s.setPlayer p .inactive

/-- The blocks of one play of a clip entry; an empty entry plays one silence block (R150). -/
def clipLength : Option Clip → Nat
  | some c => c.length
  | none => 1

/-- The position at which a repetition of a LOOP step begins (R150, R152). -/
def repeatFrom : Option Clip → Nat
  | some c => c.length - c.window.blocks c.length
  | none => 0

/-- What follows a play and its gap (R152): the next play, the next step, or the end of the chain. -/
def afterPlay (clips : Table 32 (Option Clip)) (chain : List ChainStep) (step : ChainStep) (at_ : Playing) :
    Option Playing :=
  match step.mode with
  | .once => startStep chain (at_.step + 1)
  | .times n =>
    match at_.play with
    | .nth k => if k < n then some { at_ with play := .nth (k + 1), phase := .clip, position := 0 }
                else startStep chain (at_.step + 1)
    | _ => startStep chain (at_.step + 1)
  | .loop =>
    some { at_ with play := .again, phase := .clip, position := repeatFrom (clips.get step.clip) }

/-- One advance of a channel that has sounded a block (R153). -/
def advance (clips : Table 32 (Option Clip)) (chain : List ChainStep) (at_ : Playing) : Option Playing :=
  match chain[at_.step - 1]? with
  | none => none
  | some step =>
    match at_.phase with
    | .clip =>
      if at_.position + 1 < clipLength (clips.get step.clip) then
        some { at_ with position := at_.position + 1 }
      else if 0 < step.gap then some { at_ with phase := .gap, position := 0 }
      else afterPlay clips chain step at_
    | .gap =>
      if at_.position + 1 < step.gap then some { at_ with position := at_.position + 1 }
      else afterPlay clips chain step at_

/-- The block a channel sounds where it stands (R148, R150, R153). -/
def AudioPlayer.sounding (a : AudioPlayer) (ch : Fin 16) (at_ : Playing) : Block :=
  match at_.phase with
  | .gap => Config.silenceBlock
  | .clip =>
    match (a.chains.get ch)[at_.step - 1]? with
    | none => Config.silenceBlock
    | some step =>
      match a.clips.get step.clip with
      | some c => a.prompt.block (c.start + at_.position)
      | none => Config.silenceBlock

/-- The block the channel of a place sounds in this 20 ms; none while INACTIVE (R153). -/
def AudioPlayer.blockOf (a : AudioPlayer) (p : LineNo) : Option Block :=
  match a.players.get p with
  | .inactive => none
  | .active _ none => some Config.silenceBlock
  | .active ch (some at_) => some (a.sounding ch at_)

/-- A channel after it has sounded its block of this 20 ms (R153). -/
def AudioPlayer.advanced (a : AudioPlayer) : Player → Player
  | .inactive => .inactive
  | .active ch none => .active ch none
  | .active ch (some at_) => .active ch (advance a.clips (a.chains.get ch) at_)

/-- Whether a channel's phase is CLIP (R157). -/
def Player.speaking : Player → Bool
  | .active _ (some at_) => at_.phase = .clip
  | _ => false

/-- Whether a channel is ACTIVE (R153). -/
def Player.isActive : Player → Bool
  | .inactive => false
  | .active _ _ => true

/-- Whether some ACTIVE channel has a chain selected (R156). -/
def AudioPlayer.chainInUse (a : AudioPlayer) (ch : Fin 16) : Bool :=
  a.players.cells.any fun
    | .active c _ => c = ch
    | .inactive => false

/-- Whether some step of a chain in use names a clip (R156). -/
def AudioPlayer.clipInUse (a : AudioPlayer) (c : Fin 32) : Bool :=
  (List.finRange 16).any fun ch => a.chainInUse ch && (a.chains.get ch).any fun step => step.clip = c

end Sys2Proof.Machine
end

