-- ==== Sys2Proof/Machine/CallControl.lean ====
section
/-! DEFINITION. The operations of the Call Controller and of the trunk records that every family of calls
shares: the waiting queue, allocation, preemption, entering and leaving WAITING, connecting, and the
call-end procedure (chapters 4 to 6). -/

namespace Sys2Proof.Machine

open Sys2Proof

/-! ### Calls -/

/-- The effective class of a call; 0 before its snapshot. -/
def Call.effective (c : Call) : Nat := (c.identity.map CallIdentity.effectiveClass).getD 0

/-- Whether a call has kind `k`. -/
def Call.isKind (c : Call) (k : CallKind) : Bool := (c.identity.map CallIdentity.kind) == some k

/-- Whether the key of `c` comes before that of `d` (R79). -/
def Call.before (c d : Call) : Bool :=
  c.effective < d.effective || (c.effective = d.effective && c.sequence.toNat < d.sequence.toNat)

/-- Whole seconds of running time from creation to the first connection, or to now (R92). -/
def State.secondsWaited (s : State) (c : Call) : Nat :=
  match c.firstConnectedAt with
  | some f => (f - c.createdAt).toNat / 1000
  | none => s.age c.createdAt / 1000

/-- The identity record of a call, once it has a snapshot (section 10.4). -/
def Call.record (c : Call) : Option IdentityRecord := c.identity.map fun i => ⟨c.ref, i.snapshot⟩

/-! ### The no-trunk condition (R121) -/

/-- Whether a trunk is IN SERVICE with its link UP. -/
def Trunk.reachable (x : Trunk) : Bool := x.service = .inService && x.link = .up

/-- The no-trunk condition is judged afresh (R121). -/
def State.judgeNoTrunk (s : State) : State :=
  let reachable := s.ti.trunks.cells.any Trunk.reachable
  let holds := !s.cc.queue.isEmpty && !reachable
  if holds && !s.ti.noTrunk then
    { s with ti := { s.ti with noTrunk := true } }.report (.noTrunk s.cc.queue.length)
  else if !holds && s.ti.noTrunk then
    { s with ti := { s.ti with noTrunk := false } }.report (.trunksRestored reachable)
  else s

/-! ### The waiting queue (R79) -/

/-- A call inserted at the position its key gives; `look` finds the calls queued (R79). -/
def insertByKey (look : CallRef → Option Call) (c : Call) : List CallRef → List CallRef
  | [] => [c.ref]
  | r :: rs =>
    match look r with
    | some d => if c.before d then c.ref :: r :: rs else r :: insertByKey look c rs
    | none => r :: insertByKey look c rs

/-- The call in place `p` joins the waiting queue at its key position (R80). -/
def State.enqueue (s : State) (p : LineNo) : State :=
  match s.cc.calls.get p with
  | some c => s.setQueue (insertByKey s.callOfRef c s.cc.queue)
  | none => s

/-- The position of a reference in a list, counted from 1 (R94, R95). -/
def positionIn (q : List CallRef) (r : CallRef) : Option Nat := (firstIndex (· == r) q).map (· + 1)

/-! ### Trunk states (R97) -/

/-- The trunk enters IDLE, its idle-since field taking the running time (R97). -/
def State.enterIdle (s : State) (t : TrunkNo) : State :=
  s.mapTrunk t fun x =>
    { x with state := .idle, current := none, offerTimer := none, guardTimer := none, idleSince := some s.cc.now }

/-- A call has left the trunk: it enters GUARD and the guard timer starts (R115). -/
def State.enterGuard (s : State) (t : TrunkNo) : State :=
  s.mapTrunk t fun x =>
    { x with
      state := .guard_, current := none, offerTimer := none, guardTimer := some s.ti.guardTime
      idleSince := none }

/-- The trunk is CONNECTED to a call (R109, R127, R134, R136). -/
def State.connectTrunk (s : State) (t : TrunkNo) (r : CallRef) : State :=
  s.mapTrunk t fun x =>
    { x with
      state := .connected, current := some r, offerTimer := none, guardTimer := none, idleSince := none }

/-- Whether a trunk is eligible-idle (R84, R97); not while it drains after a soft reset (R123). -/
def Trunk.eligible (x : Trunk) : Bool := x.reachable && x.state = .idle && !x.draining

/-- Whether trunk `a` comes before `b` in the idle order: longest idle first, then lowest number (R84). -/
def State.idleBefore (s : State) (a b : TrunkNo) : Bool :=
  let age (t : TrunkNo) : Nat := (((s.trunk t).idleSince).map s.age).getD 0
  age b < age a || (age a = age b && a.val ≤ b.val)

/-- The eligible-idle trunks of a group in idle order (R84). -/
def State.eligibleTrunks (s : State) (g : TrunkGroup) : List TrunkNo :=
  ((List.finRange 8).filter fun t => (s.trunk t).eligible && (s.trunk t).group = g).insertionSort
    fun a b => s.idleBefore a b = true

/-! ### Allocation (R84–R87, R108) -/

/-- The call in place `p`, which is WAITING as every queued call is (R79), is offered on trunk `t` (R87,
R108; DESIGN CHOICE, log entry 27). -/
def State.offer (s : State) (t : TrunkNo) (p : LineNo) : State :=
  match s.cc.calls.get p with
  | none => s
  | some c =>
    if c.state = .waiting then
      let s := (s.setQueue (s.cc.queue.erase c.ref)).setCall p
        (some { c with
          state := .offered, trunk := some t, lastTrunk := some t, queueEntry := none, agingMark := none })
      let s := s.mapTrunk t fun x =>
        { x with
          state := .offering, current := some c.ref, offerTimer := some (s.ti.offerTime * 1000)
          guardTimer := none, idleSince := none }
      match c.record with
      | some i => s.sendDesk t (.offer c.ref c.effective (capSeconds (s.age c.createdAt / 1000)) i)
      | none => s
    else s

/-- The primary step for one trunk: the head of the queue is offered on it (R85). -/
def State.offerHead (s : State) (t : TrunkNo) : State :=
  match s.cc.queue.head?.bind s.placeOfRef with
  | some p => s.offer t p
  | none => s

/-- Whether no primary trunk is both in service and link up (R86). -/
def State.noPrimary (s : State) : Bool :=
  s.ti.trunks.cells.all fun x => !(x.group = .primary && x.reachable)

/-- Whether a queued call qualifies for an overflow trunk (R86). -/
def State.qualifies (s : State) (c : Call) : Bool :=
  (c.isKind .emergency || c.isKind .callback) && (s.noPrimary || s.cc.escalation ≤ c.offerCount)

/-- The overflow step for one trunk: the first queued call that qualifies is offered on it (R86). -/
def State.offerQualified (s : State) (t : TrunkNo) : State :=
  match (s.cc.queue.find? fun r => (s.callOfRef r).any s.qualifies).bind s.placeOfRef with
  | some p => s.offer t p
  | none => s

/-! ### Preemption (R139–R141) -/

/-- Whether a connected call has served its minimum hold (R139). -/
def State.served (s : State) (c : Call) : Bool :=
  match c.connectedMark with
  | some m => s.cc.minimumHold * 1000 ≤ s.age m
  | none => false

/-- The call by which a trunk meets condition 3 of R140, with its place. -/
def State.candidate (s : State) (t : TrunkNo) : Option LineNo :=
  let x := s.trunk t
  if x.group = .primary ∧ x.state = .connected then
    match x.current.bind s.placeOfRef with
    | some p =>
      if (s.cc.calls.get p).any fun c => c.isKind .maintenance && c.state = .connected && s.served c then some p
      else none
    | none => none
  else none

/-- Whether the call in place `p` is chosen before that in `q`: earliest connected mark, then lowest
origination sequence (R140). -/
def State.chosenBefore (s : State) (p q : LineNo) : Bool :=
  match s.cc.calls.get p, s.cc.calls.get q with
  | some c, some d =>
    let age (x : Call) : Nat := (x.connectedMark.map s.age).getD 0
    age d < age c || (age c = age d && c.sequence.toNat ≤ d.sequence.toNat)
  | _, _ => true

/-- The place of the call that a preemption starting now would clear, if the four conditions hold (R140). -/
def State.preemptionChoice (s : State) : Option LineNo :=
  let waiting := s.cc.queue.any fun r =>
    (s.callOfRef r).any fun c => c.isKind .emergency || c.isKind .callback
  let primaryIdle := (List.finRange 8).any fun t => (s.trunk t).eligible && (s.trunk t).group = .primary
  let preempting := s.liveCalls.any fun c => c.state = .preempting
  if waiting && !primaryIdle && !preempting then
    (((List.finRange 8).filterMap s.candidate).insertionSort fun p q => s.chosenBefore p q = true).head?
  else none

/-- The start of a preemption of the call in place `p` (R141). -/
def State.startPreemption (s : State) (p : LineNo) : State :=
  match s.cc.calls.get p with
  | none => s
  | some c =>
    let s := s.setCall p
      (some { c with
        state := .preempting, connectedMark := none, preemptionTimer := some Config.preemptionTime })
    let s := s.selectChain p s.ap.warningChain
    match c.trunk with
    | some t => s.sendDesk t (.preemptWarn c.ref (Config.preemptionTime / 1000))
    | none => s

/-- The CC examines the conditions for preemption (R140). -/
def State.examine (s : State) : State :=
  match s.preemptionChoice with
  | some p => s.startPreemption p
  | none => s

/-- An allocation pass: the primary step, the overflow step, then the examination (R84–R86, R140). -/
def State.pass (s : State) : State :=
  let s := (s.eligibleTrunks .primary).foldl State.offerHead s
  let s := (s.eligibleTrunks .overflow).foldl State.offerQualified s
  s.judgeNoTrunk.examine

/-- The waiting queue has changed, or a trunk's service, group or link status: the no-trunk condition is
judged and an allocation pass follows (R84, R121). -/
def State.changed (s : State) : State := s.judgeNoTrunk.pass

/-! ### Creation and identity (R72–R76) -/

/-- The reference after `r`; 1 follows 65535 (R73). -/
def refAfter (r : CallRef) : CallRef := if r.toNat = 65535 then 1 else r + 1

/-- The first reference from `r` on that no live call holds, searched for in at most `n` steps (R73). -/
def freshRef (live : CallRef → Bool) : Nat → CallRef → CallRef
  | 0, r => r
  | n + 1, r => if live r then freshRef live n (refAfter r) else r

/-- The record of a call created now on line `l` in state `st` (R73, R74, R75). -/
def State.newCall (s : State) (l : LineNo) (st : CallState) : Call where
  ref := freshRef (fun r => s.liveCalls.any fun c => c.ref == r) 48 s.cc.nextRef
  line := l
  state := st
  sequence := s.cc.lastSequence + 1
  origin := s.stamp
  identity := none
  offerCount := 0
  rescued := false
  trunk := none
  queueEntry := none
  agingMark := none
  connectTime := none
  holdCount := 0
  createdAt := s.cc.now
  firstConnectedAt := none
  lastTrunk := none
  connectedMark := none
  heldAt := none
  reminderIn := none
  preemptionTimer := none
  ringingTimer := none

/-- A free place of the call table: the first (R72; which one is a DESIGN CHOICE, log entry 7). -/
def State.freePlace (s : State) : Option LineNo := s.placeWhere Option.isNone

/-- The record of a new call takes place `p`; the counters move on (R72–R74). -/
def State.addCall (s : State) (p : LineNo) (c : Call) : State :=
  { s with
    cc := { s.cc with
      calls := s.cc.calls.set p (some c)
      nextRef := refAfter c.ref
      lastSequence := c.sequence } }

/-- The snapshot of the call in place `p` is composed with `code` and written with its kind and classes
(R66–R69, R76). -/
def State.identify (s : State) (p : LineNo) (code : ReceivedCode) (callback : Bool) : State :=
  match s.cc.calls.get p with
  | some c =>
    (s.flagCode c.line code callback).setCall p
      (some { c with identity := some (composeIdentity (s.dir.working.get c.line) c.line code callback) })
  | none => s

/-! ### Entering WAITING (R80) -/

/-- A call as it stands in WAITING from `now` on (R80); what other states keep for it is removed. -/
def Call.toWaiting (c : Call) (now : Word32) : Call :=
  { c with
    state := .waiting
    trunk := none
    queueEntry := some now
    agingMark := some now
    connectedMark := none
    heldAt := none
    reminderIn := none
    preemptionTimer := none }

/-- The call in place `p` enters WAITING: at its key position, on its waiting chain from step 1 unless it
comes from OFFERED (R80, R154). The allocation pass is the caller's. -/
def State.enterWaiting (s : State) (p : LineNo) : State :=
  match s.cc.calls.get p with
  | none => s
  | some c =>
    let s' := (s.setCall p (some (c.toWaiting s.cc.now))).enqueue p
    if c.state = .offered then s'
    else
      match c.identity with
      | some i => s'.selectChain p i.snapshot.waitingChain
      | none => s'

/-- The class of a call rescued after it was answered: 0, or kept for MAINTENANCE (R81). -/
def CallIdentity.rescuedClass (i : CallIdentity) : CallIdentity :=
  if i.kind = .maintenance then i else { i with effectiveClass := 0 }

/-! ### Connecting (R88, R127, R134, R137, R139) -/

/-- A call connected on trunk `t` at running time `now` and time `stamp`: the connect time is that of the
first connection, the connected mark that of this one. -/
def Call.connected (c : Call) (t : TrunkNo) (now : Word32) (stamp : Stamp) : Call :=
  { c with
    state := .connected
    trunk := some t
    lastTrunk := some t
    queueEntry := none
    agingMark := none
    connectTime := some (c.connectTime.getD stamp)
    firstConnectedAt := some (c.firstConnectedAt.getD now)
    connectedMark := some now
    heldAt := none
    reminderIn := none
    preemptionTimer := none
    ringingTimer := none }

/-- The call in place `p` is connected to trunk `t`: its channel stops, and line and trunk are joined. -/
def State.connect (s : State) (p : LineNo) (t : TrunkNo) : State :=
  (s.mapCall p fun c => c.connected t s.cc.now s.stamp).stopPlayer p

/-! ### Ending a call (R90–R92) -/

/-- The desk message of a call's end (R91). -/
def State.endMessage (s : State) (c : Call) (cause : Cause) : State :=
  match c.state, c.trunk with
  | .offered, some t => s.sendDesk t (.withdraw c.ref cause)
  | .held, some t => s.sendDesk t (.heldCleared c.ref cause)
  | .connected, some t => if cause = .deskRelease then s else s.sendDesk t (.clear c.ref cause)
  | .preempting, some t => if cause = .deskRelease then s else s.sendDesk t (.clear c.ref cause)
  | .ringing, some t => if cause = .deskRelease then s else s.sendDesk t (.clear c.ref cause)
  | _, _ => s

/-- The call leaves the queue or the hold stack it stands in (R90, step 2). -/
def State.removeCall (s : State) (c : Call) : State :=
  match c.state, c.trunk with
  | .waiting, _ => s.setQueue (s.cc.queue.erase c.ref)
  | .held, some t => s.mapTrunk t fun x => { x with stack := x.stack.erase c.ref }
  | _, _ => s

/-- The trunk of an ended call enters GUARD; a HELD call's trunk, and one that the call has already left,
stay as they are (R90, step 5; R101). -/
def State.freeTrunk (s : State) (c : Call) : State :=
  match c.trunk with
  | some t => if c.state ≠ .held ∧ (s.trunk t).current = some c.ref then s.enterGuard t else s
  | none => s

/-- The CALL END fields of a call that ends now (R92). -/
def State.callEndOf (s : State) (c : Call) (cause : Cause) : CallEnd where
  call := c.ref
  line := c.line
  identity := c.identity
  origin := c.origin
  secondsWaited := capSeconds (s.secondsWaited c)
  trunk := c.lastTrunk
  offerCount := c.offerCount
  holdCount := c.holdCount
  connectedSeconds := c.firstConnectedAt.map fun f => capSeconds (s.age f / 1000)
  rescued := c.rescued
  cause := cause

/-- The call-end procedure for the call in place `p` (R90): removal, desk message, trunk, player, CALL
ENDED, journal record, report, place freed; then the pass after a WAITING call's removal and the
examination after a preemption (R90, R140; DESIGN CHOICE for their place, log entry 9). -/
def State.endCall (s : State) (p : LineNo) (cause : Cause) : State :=
  match s.cc.calls.get p with
  | none => s
  | some c =>
    let s := (((s.removeCall c).endMessage c cause).freeTrunk c).stopPlayer p
    let s := { s with callEnds := s.callEnds ++ [c.line] }
    let number := s.journal.nextNumber
    let s := s.record (.callEnd (s.callEndOf c cause))
    let s := s.report
      (.callEvent c.ref c.line (c.identity.map CallIdentity.kind) c.state cause number)
    let s := s.setCall p none
    let s := if c.state = .waiting then s.changed else s
    if c.state = .preempting then s.examine else s

end Sys2Proof.Machine
end

