-- ==== Sys2Proof/Machine/Calls.lean ====
section
/-! DEFINITION. The line events the Call Controller takes (sections 4.3, 6.2), and the moments its own
running count brings: aging, hold reminders, minimum holds, preemption and ringing timeouts. -/

namespace Sys2Proof.Machine

open Sys2Proof

/-! ### Origination (R75–R77) -/

/-- A call is created on line `l` and completed at once with code ABSENT (R77). -/
def State.openWaiting (s : State) (l : LineNo) : State :=
  match s.placeOfLine l, s.freePlace with
  | none, some p =>
    (((s.addCall p (s.newCall l .waiting)).identify p .absent false).enterWaiting p).changed
  | _, _ => s

/-- SEIZURE (R75). -/
def execSeizure (l : LineNo) (s : State) : Host.Outcome State Fault Refusal :=
  s.running fun s => s.takeEvent (.seizure l) fun s =>
    match s.placeOfLine l, s.freePlace with
    | none, some p => s.addCall p (s.newCall l .originating)
    | _, _ => s

/-- CODE_RESULT (R76). -/
def execCodeResult (l : LineNo) (code : CodeResult) (s : State) : Host.Outcome State Fault Refusal :=
  s.running fun s => s.takeEvent (.codeResult l code) fun s =>
    match s.placeOfLine l with
    | some p =>
      if (s.cc.calls.get p).any fun c => c.state = .originating then
        ((s.identify p (receivedOf code) false).enterWaiting p).changed
      else s
    | none => s

/-- OFF_HOOK_AT_START (R77). -/
def execOffHookAtStart (l : LineNo) (s : State) : Host.Outcome State Fault Refusal :=
  s.running fun s => s.takeEvent (.offHookAtStart l) fun s => s.openWaiting l

/-- LOCKOUT_EXPIRY (R77). -/
def execLockoutExpiry (l : LineNo) (s : State) : Host.Outcome State Fault Refusal :=
  s.running fun s => s.takeEvent (.lockoutExpiry l) fun s => s.openWaiting l

/-! ### Ends from the line (R78) -/

/-- The cause with which HANG-UP ends a call in a given state; the table of R78 has no row for RINGING (DESIGN CHOICE,
log entry 8). -/
def hangUpCause : CallState → Option Cause
  | .originating => some .abandoned
  | .waiting => some .abandoned
  | .offered => some .abandoned
  | .connected => some .hungUp
  | .held => some .hungUp
  | .preempting => some .hungUp
  | .ringing => none

/-- HANG_UP (R78). -/
def execHangUp (l : LineNo) (s : State) : Host.Outcome State Fault Refusal :=
  s.running fun s => s.takeEvent (.hangUp l) fun s =>
    match s.placeOfLine l with
    | some p =>
      match (s.cc.calls.get p).bind fun c => hangUpCause c.state with
      | some cause => s.endCall p cause
      | none => s
    | none => s

/-- LINE_LOST (R78). -/
def execLineLost (l : LineNo) (s : State) : Host.Outcome State Fault Refusal :=
  s.running fun s => s.takeEvent (.lineLost l) fun s =>
    match s.placeOfLine l with
    | some p => s.endCall p .lineLost
    | none => s

/-- LINE_FAULT (R78). -/
def execLineFault (l : LineNo) (kind : FaultKind) (s : State) : Host.Outcome State Fault Refusal :=
  s.running fun s => s.takeEvent (.lineFault l kind) fun s =>
    match s.placeOfLine l with
    | some p => s.endCall p .lineFault
    | none => s

/-- ANSWERED: a RINGING callback is connected (R137). With a live call in another state on the line, for which
R78 and R137 give nothing, it has no effect (DESIGN CHOICE, log entry 33). -/
def execAnswered (l : LineNo) (s : State) : Host.Outcome State Fault Refusal :=
  s.running fun s => s.takeEvent (.answered l) fun s =>
    match s.placeOfLine l with
    | some p =>
      match s.cc.calls.get p with
      | some c =>
        match c.state, c.trunk with
        | .ringing, some t => s.connect p t
        | _, _ => s
      | none => s
    | none => s

/-! ### Aging (R82) -/

/-- Whether a call ages now under an aging period of `period` seconds: it is WAITING, not MAINTENANCE,
and its mark lies one period or more in the past (R82, R83). -/
def State.agingDue (s : State) (period : Nat) (c : Call) : Bool :=
  period ≠ 0 && c.state = .waiting && !c.isKind .maintenance &&
    match c.agingMark with
    | some m => period * 1000 ≤ s.age m
    | none => false

/-- A call aged at running time `now`: its class falls by one, not below 0, and its mark is renewed (R82). -/
def Call.aged (c : Call) (now : Word32) : Call :=
  { c with
    identity := c.identity.map fun i => { i with effectiveClass := i.effectiveClass - 1 }
    agingMark := some now }

/-- The call in place `p` ages; if its class changed it moves to its new key position (R82). -/
def State.ageCall (s : State) (p : LineNo) : State :=
  match s.cc.calls.get p with
  | none => s
  | some c =>
    let s' := s.setCall p (some (c.aged s.cc.now))
    if c.effective = 0 then s' else (s'.setQueue (s'.cc.queue.erase c.ref)).enqueue p

/-- AGING of the call with reference `r`: its period has passed, it ages, and a move is followed by an
allocation pass (R82). -/
def execAging (r : CallRef) (s : State) : Host.Outcome State Fault Refusal :=
  s.running fun s =>
    match s.placeOfRef r with
    | some p =>
      match s.cc.calls.get p with
      | some c =>
        if s.agingDue s.cc.agingPeriod c then
          if c.effective = 0 then s.ageCall p else (s.ageCall p).changed
        else s
      | none => s
    | none => s

/-! ### Timers of a call -/

/-- HOLD_REMINDER of the held call with reference `r`: its due time come, it places HOLD REMINDER with the whole
seconds held, and the due time is set 30 s later (R131). -/
def execHoldReminder (r : CallRef) (s : State) : Host.Outcome State Fault Refusal :=
  s.running fun s =>
    match s.placeOfRef r with
    | some p =>
      match s.cc.calls.get p with
      | some c =>
        match c.state, c.trunk, c.heldAt, c.reminderIn with
        | .held, some t, some h, some due =>
          if due ≤ 0 then
            (s.setCall p (some { c with reminderIn := some (due + Config.nextReminder) })).sendDesk t
              (.holdReminder r (capSeconds (s.age h / 1000)))
          else s
        | _, _, _, _ => s
      | none => s
    | none => s

/-- MINIMUM_HOLD_SERVED by the connected maintenance call with reference `r` on a primary trunk:
preemption is examined (R140). -/
def execMinimumHoldServed (r : CallRef) (s : State) : Host.Outcome State Fault Refusal :=
  s.running fun s =>
    match s.callOfRef r with
    | some c =>
      match c.trunk with
      | some t =>
        if c.isKind .maintenance ∧ c.state = .connected ∧ (s.trunk t).group = .primary ∧ s.served c then s.examine
        else s
      | none => s
    | none => s

/-- PREEMPTION_TIMER_EXPIRY of the call with reference `r`: it ends PREEMPTED, and preemption is examined
again (R142). -/
def execPreemptionTimerExpiry (r : CallRef) (s : State) : Host.Outcome State Fault Refusal :=
  s.running fun s =>
    match s.placeOfRef r with
    | some p =>
      if (s.cc.calls.get p).any fun c => c.state = .preempting && c.preemptionTimer = some 0 then
        s.endCall p .preempted
      else s
    | none => s

/-- RINGING_TIMEOUT of the callback with reference `r`: it ends NO ANSWER (R138). -/
def execRingingTimeout (r : CallRef) (s : State) : Host.Outcome State Fault Refusal :=
  s.running fun s =>
    match s.placeOfRef r with
    | some p =>
      if (s.cc.calls.get p).any fun c => c.state = .ringing && c.ringingTimer = some 0 then
        s.endCall p .noAnswer
      else s
    | none => s

end Sys2Proof.Machine
end

