-- ==== Sys2Proof/Machine/Layouts.lean ====
section
/-! DEFINITION. The octets of chapter 10: enumerations, identity records, desk messages, journal records,
replies and reports, and the reading of a desk message's octets. -/

namespace Sys2Proof.Machine

open Sys2Proof

/-! ### Enumerations, numbered from 0 in the order of their rules (R191) -/

def Band.number : Band → Nat
  | .foreign => 0
  | .opened => 1
  | .present => 2
  | .loop => 3
  | .short => 4

/-- FOREIGN to SHORT as bands, then UNCLEAR (R17). -/
def BandResult.number : BandResult → Nat
  | .band b => b.number
  | .unclear => 5

def faultNumber : FaultKind → Nat
  | .opened => 0
  | .short => 1
  | .foreign => 2

def LineState.number : LineState → Nat
  | .unequipped => 0
  | .outOfService => 1
  | .settling => 2
  | .idle => 3
  | .collecting => 4
  | .active => 5
  | .ringing => 6
  | .lockout => 7
  | .fault => 8

def Carriageway.number : Carriageway → Nat
  | .a => 0
  | .b => 1
  | .link => 2

def Zone.number : Zone → Nat
  | .tunnel => 0
  | .structure_ => 1
  | .open_ => 2
  | .depot => 3

def SetChoice.number : SetChoice → Nat
  | .a => 0
  | .b => 1

def EntryService.number : EntryService → Nat
  | .unequipped => 0
  | .inService => 1

def StoreKind.number : StoreKind → Nat
  | .commit => 0
  | .lock => 1
  | .erase => 2

def CallState.number : CallState → Nat
  | .originating => 0
  | .waiting => 1
  | .offered => 2
  | .connected => 3
  | .held => 4
  | .preempting => 5
  | .ringing => 6

def CallKind.number : CallKind → Nat
  | .emergency => 0
  | .maintenance => 1
  | .callback => 2

def Verification.number : Verification → Nat
  | .unnamed => 0
  | .noCode => 1
  | .maintenance => 2
  | .notChecked => 3
  | .matched => 4
  | .mismatch => 5

def TrunkState.number : TrunkState → Nat
  | .outOfService => 0
  | .linkDown => 1
  | .idle => 2
  | .guard_ => 3
  | .offering => 4
  | .connected => 5

def TrunkService.number : TrunkService → Nat
  | .inService => 0
  | .outOfService => 1

def TrunkGroup.number : TrunkGroup → Nat
  | .primary => 0
  | .overflow => 1

def LinkStatus.number : LinkStatus → Nat
  | .up => 0
  | .down => 1

def TimeState.number : TimeState → Nat
  | .unset => 0
  | .free => 1
  | .locked => 2
  | .holdover => 3

def ResetKind.number : ResetKind → Nat
  | .powerOn => 0
  | .soft => 1

/-- The values of causes, from 1 (section 10.3). -/
def Cause.number : Cause → Nat
  | .hungUp => 1
  | .abandoned => 2
  | .deskRelease => 3
  | .lineLost => 4
  | .lineFault => 5
  | .preempted => 6
  | .forced => 7
  | .noAnswer => 8
  | .trunkLost => 9
  | .reset => 10
  | .declined => 11
  | .timeout => 12
  | .retrieve => 13
  | .taken => 14
  | .outOfService => 15

/-- The values of refusal reasons, from 1 (section 10.3). -/
def Reason.number : Reason → Nat
  | .stale => 1
  | .busy => 2
  | .state => 3
  | .full => 4
  | .unknownRef => 5
  | .lineUnavailable => 6
  | .lineBusy => 7

/-- The values of result codes (section 10.2). -/
def Result.number : Result → Nat
  | .done => 0
  | .accepted => 1
  | .busy => 2
  | .range => 3
  | .locked => 4
  | .state => 5
  | .notEnabled => 6
  | .inUse => 8
  | .unknown => 9
  | .endOfLines => 10

/-! ### Common fields (R191) -/

/-- A call reference, 0 when absent. -/
def refOctets (r : Option CallRef) : List Octet := octets 2 ((r.map BitVec.toNat).getD 0)

/-- A received code (R191). -/
def ReceivedCode.octets : ReceivedCode → List Octet
  | .digits n => Machine.octets 2 n.val
  | .invalid => Machine.octets 2 0xFFFD
  | .missing => Machine.octets 2 0xFFFE
  | .absent => Machine.octets 2 0xFFFF

/-- A post number in eight octets, padded with 0x00 (R191). -/
def postOctets (text : List Octet) : List Octet := (text ++ List.replicate 8 0).take 8

/-- The seconds count and phase of a stamp in six octets; all ones when absent. Its time state has an octet in
a journal record's header only (R71, R171, section 10.5). -/
def stampOctets : Option Stamp → List Octet
  | some t => octets 4 t.seconds.toNat ++ octets 2 t.phase
  | none => List.replicate 6 0xFF

/-- The naming fields from the carriageway to the bore. -/
def namingOctets (n : Option Naming) : List Octet :=
  [small (n.map fun n => n.carriageway.number)] ++ octetsOrOnes 3 (n.map Naming.chainage) ++
    [small (n.map fun n => n.zone.number), BitVec.ofNat 8 ((n.bind Naming.bore).getD 0)]

/-- The eight octets of a post number, zeros when absent. -/
def postField (n : Option Naming) : List Octet := postOctets ((n.map Naming.post).getD [])

/-- The 22 octets of an identity record (section 10.4). -/
def IdentityRecord.octets (i : IdentityRecord) : List Octet :=
  let n := i.snapshot.naming
  let counted := refOctets (some i.call) ++ [BitVec.ofNat 8 i.snapshot.line.val] ++ postField n ++
    namingOctets n ++ [BitVec.ofNat 8 i.snapshot.outcome.number] ++ i.snapshot.code.octets
  counted ++ Machine.octets 2 (sumCheck counted)

/-! ### Desk messages (section 10.3) -/

/-- The code of a desk request (section 10.3). -/
def DeskRequest.code : DeskRequest → Octet
  | .accept _ => 0x01
  | .decline _ => 0x02
  | .release _ => 0x03
  | .hold _ => 0x04
  | .retrieve => 0x05
  | .identRequest _ => 0x06
  | .callback _ => 0x07

/-- The reference or line a request carried, as CONFIRM and REFUSE repeat it; 0 for RETRIEVE, which
carries neither (section 10.3; DEDUCED, log entry 14). -/
def DeskRequest.subject : DeskRequest → List Octet
  | .accept r => refOctets (some r)
  | .decline r => refOctets (some r)
  | .release r => refOctets (some r)
  | .hold r => refOctets (some r)
  | .retrieve => refOctets none
  | .identRequest r => refOctets (some r)
  | .callback l => [0, l]

/-- The code and body of a message to a desk (section 10.3). -/
def DeskMessage.content : DeskMessage → Octet × List Octet
  | .offer r cls secs i => (0x41, refOctets (some r) ++ [BitVec.ofNat 8 cls] ++ octets 2 secs ++ i.octets)
  | .withdraw r c => (0x42, refOctets (some r) ++ [BitVec.ofNat 8 c.number])
  | .ident i => (0x43, i.octets)
  | .clear r c => (0x44, refOctets (some r) ++ [BitVec.ofNat 8 c.number])
  | .heldCleared r c => (0x45, refOctets (some r) ++ [BitVec.ofNat 8 c.number])
  | .holdReminder r secs => (0x46, refOctets (some r) ++ octets 2 secs)
  | .preemptWarn r secs => (0x47, refOctets (some r) ++ [BitVec.ofNat 8 secs])
  | .confirm q => (0x48, q.code :: q.subject)
  | .refuse q reason => (0x49, q.code :: q.subject ++ [BitVec.ofNat 8 reason.number])

/-- The octets of a message to a desk (section 10.3). -/
def DeskMessage.octets (m : DeskMessage) : List Octet :=
  enclose Config.messageStart m.content.1 m.content.2

/-- The length octet the receiver accepts for a code from the desk (R193). -/
def deskLength (code : Octet) : Option Nat :=
  match code.toNat with
  | 1 => some 3
  | 2 => some 3
  | 3 => some 3
  | 4 => some 3
  | 5 => some 1
  | 6 => some 3
  | 7 => some 2
  | _ => none

/-- The desk request of a code and a body of its length (section 10.3). -/
def deskRequestOf (code : Octet) (body : List Octet) : Option DeskRequest :=
  match code.toNat, body with
  | 1, [hi, lo] => some (.accept (refOf hi lo))
  | 2, [hi, lo] => some (.decline (refOf hi lo))
  | 3, [hi, lo] => some (.release (refOf hi lo))
  | 4, [hi, lo] => some (.hold (refOf hi lo))
  | 5, [] => some .retrieve
  | 6, [hi, lo] => some (.identRequest (refOf hi lo))
  | 7, [l] => some (.callback l)
  | _, _ => none

/-! ### Journal records (section 10.5) -/

/-- The number of a record kind (R171). -/
def RecordKind.number : RecordKind → Nat
  | .callEnd _ => 0
  | .lineFault _ _ _ => 1
  | .trunk _ _ => 2
  | .store _ _ _ => 3
  | .reset _ => 4

/-- The kind fields of a journal record (section 10.5). -/
def RecordKind.octets : RecordKind → List Octet
  | .callEnd f =>
    let n := f.identity.bind fun i => i.snapshot.naming
    refOctets (some f.call) ++
      [BitVec.ofNat 8 f.line.val, small (f.identity.map fun i => i.kind.number)] ++ postField n ++
      [small (f.identity.map fun i => i.snapshot.outcome.number),
       small (f.identity.map CallIdentity.baseClass), small (f.identity.map CallIdentity.effectiveClass)] ++
      stampOctets (some f.origin) ++ Machine.octets 2 f.secondsWaited ++
      [small (f.trunk.map Fin.val), BitVec.ofNat 8 f.offerCount, BitVec.ofNat 8 f.holdCount] ++
      octetsOrOnes 2 f.connectedSeconds ++ [flagOctet f.rescued, BitVec.ofNat 8 f.cause.number]
  | .lineFault l k declared => [BitVec.ofNat 8 l.val, BitVec.ofNat 8 (faultNumber k), if declared then 0 else 1]
  | .trunk t loss => [BitVec.ofNat 8 t.val, if loss then 0 else 1]
  | .store b k done =>
    [BitVec.ofNat 8 b.val, BitVec.ofNat 8 k.number, if done then 0 else 1]
  | .reset k => [BitVec.ofNat 8 k.number]

/-- A journal record: its 12-octet header and its kind fields (section 10.5). -/
def Record.octets (r : Record) : List Octet :=
  Machine.octets 4 r.sequence ++ stampOctets (some r.stamp) ++
    [BitVec.ofNat 8 r.stamp.state.number, BitVec.ofNat 8 r.kind.number] ++ r.kind.octets

/-! ### Replies (section 10.2) -/

/-- The eight limits of a threshold set, two octets each (R12; DEDUCED for their order, log entry 31). -/
def Thresholds.octets (t : Thresholds) : List Octet :=
  [t.foreignMax, t.openMin, t.openMax, t.presentMin, t.presentMax, t.loopMin, t.loopMax, t.shortMin].flatMap
    fun x => signedOctets (some x)

/-- A measurement snapshot, in the order in which the example of chapter 1 reads it back (R18, R45; DEDUCED, log entry 13). -/
def MeasurementValues.octets (m : MeasurementValues) : List Octet :=
  signedOctets m.loopB ++ signedOctets m.groundB ++ signedOctets m.loopC ++ signedOctets m.groundC ++
    [small (m.bandResult.map BandResult.number),
     match m.leak with
     | some b => flagOctet b
     | none => Config.absentLeakOctet]

/-- The calibration of one channel. -/
def Calibration.octets (c : Calibration) : List Octet := Machine.octets 2 c.gain ++ signedOctets (some c.offset)

/-- The 27-octet entry image of an entry (section 10.2). -/
def Entry.octets (e : Entry) : List Octet :=
  let n := e.named.map NamedFields.naming
  [if e.named = none then 0 else 1] ++ postField n ++
    octetsOrOnes 2 (e.named.bind NamedFields.expected) ++ namingOctets n ++
    [BitVec.ofNat 8 e.waitingChain.val, BitVec.ofNat 8 e.thresholdSet.number] ++
    e.loopCal.octets ++ e.groundCal.octets

/-- One entry of a CALL LIST reply (R94). -/
def CallListEntry.octets (e : CallListEntry) : List Octet :=
  refOctets (some e.call) ++
    [BitVec.ofNat 8 e.line.val, BitVec.ofNat 8 e.state.number, small (e.kind.map CallKind.number),
     small e.effectiveClass, small (e.trunk.map Fin.val), small e.position]

/-- An identity snapshot, in the order of R67; every field absent before it is composed. -/
def snapshotOctets : Option Snapshot → List Octet
  | some n =>
    [BitVec.ofNat 8 n.line.val] ++ postField n.naming ++ namingOctets n.naming ++
      [BitVec.ofNat 8 n.waitingChain.val] ++ n.code.octets ++ [BitVec.ofNat 8 n.outcome.number]
  | none =>
    [0xFF] ++ postField none ++ namingOctets none ++ [0xFF] ++ ReceivedCode.absent.octets ++ [0xFF]

/-- The fields of a call record, in the order of R71, then its positions and its age (R95; DEDUCED, log entry
13). The age's two octets, capped at 65535, are the model's choice (DESIGN CHOICE, log entry 32). -/
def callOctets (c : Call) (queuePosition stackPosition : Option Nat) (age : Nat) : List Octet :=
  let i := c.identity
  refOctets (some c.ref) ++ [BitVec.ofNat 8 c.line.val, BitVec.ofNat 8 c.state.number] ++
    octets 4 c.sequence.toNat ++ stampOctets (some c.origin) ++
    [small (i.map fun i => i.kind.number), small (i.map CallIdentity.baseClass),
     small (i.map CallIdentity.effectiveClass)] ++
    ((i.map fun (i : CallIdentity) => i.snapshot.code).getD .absent).octets ++ snapshotOctets (i.map CallIdentity.snapshot) ++
    [BitVec.ofNat 8 c.offerCount, flagOctet c.rescued, small (c.trunk.map Fin.val)] ++
    octetsOrOnes 4 (c.queueEntry.map BitVec.toNat) ++ octetsOrOnes 4 (c.agingMark.map BitVec.toNat) ++
    stampOctets c.connectTime ++ [BitVec.ofNat 8 c.holdCount, small queuePosition, small stackPosition] ++
    octets 2 (capSeconds age)

/-- The values of a STATUS reply, in the order of R182, the number of journal records held in two octets
(DEDUCED, log entry 13). -/
def StatusValues.octets (v : StatusValues) : List Octet :=
  [BitVec.ofNat 8 v.lastReset.number, BitVec.ofNat 8 (packFlags [v.linkError, v.reportLoss])] ++
    ((List.finRange 3).map fun b => BitVec.ofNat 8 (packFlags [v.locks.get b, v.faults.get b])) ++
    [flagOctet v.latch, small (v.operation.map fun o => o.bank.val),
     small (v.operation.map fun o => o.kind.number)] ++
    octetsOrOnes 2 (v.operation.map StoreOp.remaining) ++ Machine.octets 2 v.journalHeld ++
    [flagOctet v.exhausted, BitVec.ofNat 8 v.timeState.number, BitVec.ofNat 8 v.liveCalls,
     BitVec.ofNat 8 v.queued, flagOctet v.noTrunk]

/-- The values of a PARAM QUERY reply, in the order of section 9.6, each by its kind: a count up to 255 and a
chain in one octet, the others in two (R187, R191; DEDUCED for the guard time and the journal threshold, log
entry 13). -/
def ParameterValues.octets (v : ParameterValues) : List Octet :=
  v.setA.octets ++ v.setB.octets ++ Machine.octets 2 v.agingPeriod ++ [BitVec.ofNat 8 v.escalation] ++
    Machine.octets 2 v.offerTime ++ Machine.octets 2 v.guardTime ++ Machine.octets 2 v.minimumHold ++
    [BitVec.ofNat 8 v.holdChain.val, BitVec.ofNat 8 v.warningChain.val] ++ Machine.octets 2 v.journalThreshold

/-- The values of a TRUNK QUERY reply (R104). -/
def trunkOctets (x : Trunk) (slips : Nat) : List Octet :=
  [BitVec.ofNat 8 x.state.number, BitVec.ofNat 8 x.service.number, BitVec.ofNat 8 x.group.number,
   BitVec.ofNat 8 x.link.number] ++ refOctets x.current ++
    octetsOrOnes 2 (x.offerTimer.or x.guardTimer) ++ [BitVec.ofNat 8 x.stack.length] ++
    (x.stack.flatMap fun r => refOctets (some r)) ++ octets 2 slips ++ octets 2 x.frameErrors ++
    octets 2 x.messageErrors ++ octets 2 x.overruns

/-- The values of a TIME QUERY reply (R166). -/
def TimeBase.octets (t : TimeBase) : List Octet :=
  Machine.octets 4 t.seconds.toNat ++ Machine.octets 2 t.phase ++ [BitVec.ofNat 8 t.state.number] ++
    octetsOrOnes 4 (t.pendingLoad.map BitVec.toNat) ++
    [BitVec.ofNat 8 t.goodRun, BitVec.ofNat 8 t.badRun] ++ signedOctets t.lastOffset

/-- The values of a reply, after its result and its line. -/
def ReplyValues.octets : ReplyValues → List Octet
  | .nothing => []
  | .status v => v.octets
  | .parameters v => v.octets
  | .line st k flags m =>
    [BitVec.ofNat 8 st.number, small (k.map faultNumber), flags.octet] ++ m.octets
  | .measurement m => m.octets
  | .entry e locked => e.octets ++ [BitVec.ofNat 8 e.service.number, flagOctet locked]
  | .callList live entries =>
    [BitVec.ofNat 8 live, BitVec.ofNat 8 entries.length] ++ entries.flatMap CallListEntry.octets
  | .call c q k age => callOctets c q k age
  | .trunk t slips => trunkOctets t slips
  | .journal records left => [BitVec.ofNat 8 records.length] ++ Machine.octets 2 left
  | .timeState st => [BitVec.ofNat 8 st.number]
  | .time t => t.octets

/-- The record frames that follow a JOURNAL READ reply (R192). -/
def ReplyValues.recordFrames : ReplyValues → List Octet
  | .journal records _ => records.flatMap fun r => enclose Config.frameStart 0xF0 r.octets
  | _ => []

/-- The line field of a reply to a repeatable request (section 10.2). -/
def lineField : Option (Option Octet) → List Octet
  | none => []
  | some none => [0xFF]
  | some (some l) => [l]

/-- The octets of a reply: its frame, and the record frames sent with it (section 10.2, R192). -/
def Reply.octets (r : Reply) : List Octet :=
  enclose Config.frameStart (r.request + 0x80)
    (BitVec.ofNat 8 r.result.number :: lineField r.line ++ r.values.octets) ++ r.values.recordFrames

/-! ### Reports (section 10.2) -/

/-- The code of a report (section 10.2). -/
def Report.code : Report → Octet
  | .ready _ _ _ _ => 0xC0
  | .callEvent _ _ _ _ _ _ => 0xC1
  | .lineFault _ _ _ => 0xC2
  | .trunkState _ _ _ => 0xC3
  | .noTrunk _ => 0xC4
  | .trunksRestored _ => 0xC5
  | .storeDone _ _ _ => 0xC6
  | .journalLevel _ _ _ => 0xC7
  | .timeState _ _ _ => 0xC8

/-- The number of a LINE FAULT report's state: DECLARED, CLEARED or SET (section 10.2). -/
def FaultReportState.number : FaultReportState → Nat
  | .declared => 0
  | .cleared => 1
  | .set => 2

/-- LOSS, RESTORE, SERVICE (R100, R102, R103; DEDUCED, log entry 13). -/
def TrunkReportCause.number : TrunkReportCause → Nat
  | .loss => 0
  | .restore => 1
  | .service => 2

/-- The body of a report: the values its owning rule lists, in order (R191). -/
def Report.body : Report → List Octet
  | .ready k checks locks sequence =>
    [BitVec.ofNat 8 k.number] ++
      ((List.finRange 3).map fun b => BitVec.ofNat 8 (packFlags [checks.get b, locks.get b])) ++
      Machine.octets 4 sequence
  | .callEvent r l k final cause sequence =>
    refOctets (some r) ++
      [BitVec.ofNat 8 l.val, small (k.map CallKind.number), BitVec.ofNat 8 final.number,
       BitVec.ofNat 8 cause.number] ++ Machine.octets 4 sequence
  | .lineFault l f st => [BitVec.ofNat 8 l.val, BitVec.ofNat 8 f.number, BitVec.ofNat 8 st.number]
  | .trunkState t st cause => [BitVec.ofNat 8 t.val, BitVec.ofNat 8 st.number, BitVec.ofNat 8 cause.number]
  | .noTrunk n => [BitVec.ofNat 8 n]
  | .trunksRestored available => [if available then 0 else 1]
  | .storeDone b k done =>
    [BitVec.ofNat 8 b.val, BitVec.ofNat 8 k.number, if done then 0 else 1]
  | .journalLevel held oldest newest => Machine.octets 2 held ++ Machine.octets 4 oldest ++ Machine.octets 4 newest
  | .timeState new previous t =>
    [BitVec.ofNat 8 new.number, BitVec.ofNat 8 previous.number] ++ stampOctets (some t)

/-- The octets of a report frame (section 10.2). -/
def Report.octets (r : Report) : List Octet := enclose Config.frameStart r.code r.body

end Sys2Proof.Machine
end

