-- ==== Sys2Proof/Machine/Trunks.lean ====
section
/-! DEFINITION. The trunk channels (sections 5.2, 7.6): elastic buffers, frames in both directions, the
message receiver, link loss and recovery with the rescue of calls, and the two trunk timers. -/

namespace Sys2Proof.Machine

open Sys2Proof

/-! ### Elastic buffers (R159–R161) -/

/-- A block appended to a buffer, and whether the append is a slip (R159, R161). -/
def Buffer.append (b : Buffer) (x : Block) : Buffer × Bool :=
  if b.blocks.length < Config.bufferBlocks then ({ b with blocks := b.blocks ++ [x] }, false)
  else ({ b with blocks := b.blocks.tail ++ [x] }, true)

/-- A block taken from a buffer, the buffer after it, and whether the taking is a slip (R159, R160). -/
def Buffer.take (b : Buffer) : Block × Buffer × Bool :=
  match b.blocks with
  | x :: rest => (x, ⟨rest, false, some x⟩, false)
  | [] =>
    match b.last with
    | none => (Config.silenceBlock, b, false)
    | some x => if b.repeated then (Config.silenceBlock, b, false) else (x, { b with repeated := true }, true)

/-- A slip count raised by one slip, if there was one (R161). -/
def slipped (n : Nat) (slip : Bool) : Nat := if slip then cap16 (n + 1) else n

/-- The audio block of a valid frame joins the trunk's receive buffer (R159). -/
def State.pushReceive (s : State) (t : TrunkNo) (x : Block) : State :=
  let (b, slip) := (s.ap.receive.get t).append x
  { s with
    ap := { s.ap with
      receive := s.ap.receive.set t b
      slips := s.ap.slips.modify t fun n => slipped n slip } }

/-! ### The message receiver (R105, R193) -/

/-- A message is discarded and counted; the receiver goes on in state `r` (R105). -/
def Trunk.discard (x : Trunk) (r : MessageReceiver) : Trunk :=
  { x with receiver := r, messageErrors := min (x.messageErrors + 1) 255 }

/-- A message of length `len` with its code and everything after it: judged whole (R105). -/
def Trunk.complete (x : Trunk) (len code : Octet) (rest : List Octet) : Trunk :=
  let body := rest.take (len.toNat - 1)
  match rest.drop (len.toNat - 1), deskRequestOf code body with
  | [hi, lo], some q =>
    if sumCheck (len :: code :: body) = be16 hi lo then
      { x with receiver := .between, requests := x.requests ++ [q] }
    else x.discard .between
  | _, _ => x.discard .between

/-- One signalling octet taken by the receiver of a trunk (R105, R193). -/
def Trunk.takeOctet (x : Trunk) (o : Octet) : Trunk :=
  match x.receiver with
  | .between => if o = Config.messageStart then { x with receiver := .inside [] } else x
  | .passing left => { x with receiver := if left ≤ 1 then .between else .passing (left - 1) }
  | .inside [] => if o = 0 then x.discard .between else { x with receiver := .inside [o] }
  | .inside [len] =>
    if deskLength o = some len.toNat then { x with receiver := .inside [len, o] }
    else x.discard (.passing (len.toNat + 1))
  | .inside (len :: code :: rest) =>
    if rest.length < len.toNat then { x with receiver := .inside (len :: code :: (rest ++ [o])) }
    else x.complete len code (rest ++ [o])

/-- The receive state emptied by a bad frame: a message in part is discarded and counted (R98, R105). -/
def Trunk.cutShort (x : Trunk) : Trunk :=
  match x.receiver with
  | .inside _ => x.discard .between
  | _ => { x with receiver := .between }

/-! ### Rescue (R81, R101) -/

/-- A call of a lost trunk is re-inserted with its rescue flag set, or ended TRUNK LOST if RINGING (R101). -/
def State.rescue (s : State) (r : CallRef) : State :=
  match s.placeOfRef r with
  | none => s
  | some p =>
    match (s.cc.calls.get p).map Call.state with
    | some .offered => ((s.mapCall p fun c => { c with rescued := true }).enterWaiting p).changed
    | some .connected | some .preempting | some .held =>
      ((s.mapCall p fun c =>
        { c with rescued := true, identity := c.identity.map CallIdentity.rescuedClass }).enterWaiting p).changed
    | some .ringing => s.endCall p .trunkLost
    | _ => s

/-! ### Link loss and recovery (R99–R102) -/

/-- The link of a trunk goes DOWN (R100, R101; DESIGN CHOICE for the order, log entries 10 and 18). -/
def State.linkLoss (s : State) (t : TrunkNo) : State :=
  let x := s.trunk t
  if x.state = .outOfService then
    (s.setTrunk t { x with link := .down, transmit := [], sentOctets := 0, receiver := .between, requests := [] }).changed
  else
    let s := s.setTrunk t
      { x with
        link := .down, state := .linkDown, current := none, offerTimer := none, guardTimer := none
        idleSince := none, stack := [], transmit := [], sentOctets := 0, receiver := .between, requests := [] }
    let s := ((s.record (.trunk t true)).report (.trunkState t .linkDown .loss)).judgeNoTrunk
    ((x.current.toList ++ x.stack).foldl State.rescue s).changed

/-- The link of a trunk comes UP (R102). -/
def State.linkUp (s : State) (t : TrunkNo) : State :=
  let s := s.mapTrunk t fun x => { x with link := .up, receiver := .between }
  if (s.trunk t).state = .linkDown then
    (((s.enterIdle t).record (.trunk t false)).report (.trunkState t .idle .restore)).changed
  else s.changed

/-- A bad frame: no audio, no signalling, counted; the third in a row takes the link DOWN (R98, R99). -/
def State.badFrame (s : State) (t : TrunkNo) : State :=
  let x := (s.trunk t).cutShort
  let x := { x with
    frameErrors := cap16 (x.frameErrors + 1), goodRun := 0, badRun := min (x.badRun + 1) 3 }
  let s := s.setTrunk t x
  if x.link = .up ∧ x.badRun = 3 then s.linkLoss t else s

/-- A valid frame: audio to the receive buffer, signalling to the receiver while the link is UP; the tenth
in a row brings the link UP (R98, R99, R102). A trunk being reset discards its signalling (R123). -/
def State.goodFrame (s : State) (t : TrunkNo) (f : TrunkFrame) : State :=
  let s := s.pushReceive t f.audio
  let x := s.trunk t
  let x := { x with goodRun := min (x.goodRun + 1) 10, badRun := 0 }
  if x.link = .up then
    s.setTrunk t (if x.draining then x else f.signalling.cells.foldl Trunk.takeOctet x)
  else
    let s := s.setTrunk t x
    if x.goodRun = 10 then s.linkUp t else s

/-- TRUNK_FRAME_RECEIVED: the receive slot of a trunk is judged (R98–R102, R105, R161, R193). -/
def execTrunkFrameReceived (t : TrunkNo) (frame : Option TrunkFrame) (s : State) :
    Host.Outcome State Fault Refusal :=
  s.running fun s =>
    match frame with
    | some f => if f.marker = Config.trunkMarker then s.goodFrame t f else s.badFrame t
    | none => s.badFrame t

/-! ### Sending frames (R98, R106, R160) -/

/-- At most `room` octets of a transmit list of which `sent` octets have gone: the octets, the list and the
octets of its oldest message that have gone after them (R106). -/
def drain : List DeskMessage → Nat → Nat → List Octet × List DeskMessage × Nat
  | [], _, _ => ([], [], 0)
  | m :: ms, sent, room =>
    let os := m.octets.drop sent
    if os.length ≤ room then
      let (more, left, gone) := drain ms 0 (room - os.length)
      (os ++ more, left, gone)
    else (os.take room, m :: ms, sent + room)

/-- TRUNK_FRAME_SENT: a frame with a block from the send buffer and sixteen signalling octets, those of
the transmit list and then fill (R98, R106, R159, R160). -/
def execTrunkFrameSent (t : TrunkNo) (s : State) : Host.Outcome State Fault Refusal :=
  s.running fun s =>
    let (block, buffer, slip) := (s.ap.send.get t).take
    let x := s.trunk t
    let (os, left, gone) := drain x.transmit x.sentOctets 16
    let frame : TrunkFrame := ⟨Config.trunkMarker, block, Table.ofFn fun i => os.getD i.val 0⟩
    { s with
      ap := { s.ap with
        send := s.ap.send.set t buffer
        slips := s.ap.slips.modify t fun n => slipped n slip } }.setTrunk t
      { x with transmit := left, sentOctets := gone, lastFrame := some frame }

/-! ### Offers that end without acceptance, and the trunk timers (R110–R112, R115) -/

/-- The call offered on a trunk goes back to the queue: its offer count raised if `counted` (R81). -/
def State.handBack (s : State) (r : CallRef) (counted : Bool) : State :=
  match s.placeOfRef r with
  | some p =>
    (s.mapCall p fun c =>
      { c with offerCount := if counted then min (c.offerCount + 1) 255 else c.offerCount }).enterWaiting p
  | none => s

/-- A trunk's offer is withdrawn with `cause`, the trunk enters GUARD and the call is re-inserted with its
offer count raised (R110, R111). -/
def State.endOffer (s : State) (t : TrunkNo) (r : CallRef) (cause : Cause) : State :=
  (((s.sendDesk t (.withdraw r cause)).enterGuard t).handBack r true).changed

/-- OFFER_TIMER_EXPIRY (R111). -/
def execOfferTimerExpiry (t : TrunkNo) (s : State) : Host.Outcome State Fault Refusal :=
  s.running fun s =>
    let x := s.trunk t
    match x.current with
    | some r => if x.state = .offering ∧ x.offerTimer = some 0 then s.endOffer t r .timeout else s
    | none => s

/-- GUARD_TIMER_EXPIRY (R115). -/
def execGuardTimerExpiry (t : TrunkNo) (s : State) : Host.Outcome State Fault Refusal :=
  s.running fun s =>
    let x := s.trunk t
    if x.state = .guard_ ∧ x.guardTimer = some 0 then (s.enterIdle t).changed else s

/-- A trunk that is being reset and has nothing left to send takes its reset values, its buffers emptied (R122,
R123, R163); what a TRUNK SET taken while it drained has set is undone with the rest (DEDUCED, log entry 17). -/
def State.resetDrained (s : State) (t : TrunkNo) : State :=
  let x := s.trunk t
  if x.draining ∧ x.transmit = [] then
    { s with
      ap := { s.ap with
        receive := s.ap.receive.set t Buffer.empty
        send := s.ap.send.set t Buffer.empty
        slips := s.ap.slips.set t 0 } }.setTrunk t
      { Trunk.initial (Trunk.defaultGroup t) with lastFrame := x.lastFrame }
  else s

/-- TRUNK_RESET_AFTER_DRAIN: a trunk that has sent out its transmit list after a soft reset takes its reset
values; its link and service have changed, so a judgement and a pass follow (R84, R121–R123, R163; DEDUCED, log
entry 17). -/
def execTrunkResetAfterDrain (t : TrunkNo) (s : State) : Host.Outcome State Fault Refusal :=
  s.running fun s =>
    if (s.trunk t).draining ∧ (s.trunk t).transmit = [] then (s.resetDrained t).changed else s

end Sys2Proof.Machine
end

