-- ==== Sys2Proof/Machine/DeskRequests.lean ====
section
/-! DEFINITION. The seven desk requests (chapters 5 and 6), each taken by the state of its trunk. -/

namespace Sys2Proof.Machine

open Sys2Proof

/-- A desk request is taken on trunk `t` and served by `f`. Requests of one trunk are taken in the order in
which their messages were completed (R105): while an earlier one waits, `q` cannot be taken. A request
that is not waiting is received and taken in one. None is taken with the link DOWN (R107) or while the
trunk drains after a soft reset (R123; DESIGN CHOICE, log entry 4). -/
def State.takeDesk (s : State) (t : TrunkNo) (q : DeskRequest) (f : State → State) : State :=
  let x := s.trunk t
  if x.link = .up ∧ x.draining = false then
    match x.requests with
    | [] => f s
    | q' :: rest => if q' = q then f (s.setTrunk t { x with requests := rest }) else s
  else s

/-- The request is answered CONFIRM (R107). -/
def State.confirm (s : State) (t : TrunkNo) (q : DeskRequest) : State := s.sendDesk t (.confirm q)

/-- The request is answered REFUSE with a reason (R107). -/
def State.refuse (s : State) (t : TrunkNo) (q : DeskRequest) (r : Reason) : State := s.sendDesk t (.refuse q r)

/-- IDENT with the identity record of the call in place `p` is placed on the transmit list (R120). -/
def State.sendIdent (s : State) (t : TrunkNo) (p : LineNo) : State :=
  match (s.cc.calls.get p).bind Call.record with
  | some i => s.sendDesk t (.ident i)
  | none => s

/-- ACCEPT (R88, R109). -/
def execAccept (t : TrunkNo) (r : CallRef) (s : State) : Host.Outcome State Fault Refusal :=
  s.running fun s => s.takeDesk t (.accept r) fun s =>
    let x := s.trunk t
    match s.placeOfRef r with
    | some p =>
      if x.state = .offering ∧ x.current = some r then
        ((s.connectTrunk t r).connect p t).confirm t (.accept r)
      else s.refuse t (.accept r) .stale
    | none => s.refuse t (.accept r) .stale

/-- DECLINE (R110): WITHDRAW of cause DECLINED is its answer. -/
def execDecline (t : TrunkNo) (r : CallRef) (s : State) : Host.Outcome State Fault Refusal :=
  s.running fun s => s.takeDesk t (.decline r) fun s =>
    let x := s.trunk t
    if x.state = .offering ∧ x.current = some r then s.endOffer t r .declined
    else s.refuse t (.decline r) .stale

/-- RELEASE (R119). -/
def execRelease (t : TrunkNo) (r : CallRef) (s : State) : Host.Outcome State Fault Refusal :=
  s.running fun s => s.takeDesk t (.release r) fun s =>
    let x := s.trunk t
    match s.placeOfRef r with
    | some p =>
      if x.state = .connected ∧ x.current = some r then (s.confirm t (.release r)).endCall p .deskRelease
      else s.refuse t (.release r) .stale
    | none => s.refuse t (.release r) .stale

/-- A call put on hold at running time `now` (R125, R131). -/
def Call.onHold (c : Call) (now : Word32) : Call :=
  { c with
    state := .held
    holdCount := min (c.holdCount + 1) 255
    connectedMark := none
    heldAt := some now
    reminderIn := some Config.firstReminder }

/-- The reason for which a HOLD is refused, in the order of R126; none if it is carried out (R125). -/
def State.holdRefusal (s : State) (t : TrunkNo) (r : CallRef) : Option Reason :=
  let x := s.trunk t
  if x.state ≠ .connected ∨ x.current ≠ some r then some .stale
  else
    match (s.callOfRef r).map Call.state with
    | some .connected => if Config.holdStackDepth ≤ x.stack.length then some .full else none
    | some _ => some .state
    | none => some .stale

/-- HOLD (R125, R126). -/
def execHold (t : TrunkNo) (r : CallRef) (s : State) : Host.Outcome State Fault Refusal :=
  s.running fun s => s.takeDesk t (.hold r) fun s =>
    match s.holdRefusal t r, s.placeOfRef r with
    | some reason, _ => s.refuse t (.hold r) reason
    | none, none => s.refuse t (.hold r) .stale
    | none, some p =>
      let s := (s.mapCall p fun c => c.onHold s.cc.now).selectChain p s.ap.holdChain
      let s := (s.enterIdle t).mapTrunk t fun x => { x with stack := r :: x.stack }
      (s.confirm t (.hold r)).changed

/-- The top call of a trunk's hold stack is connected and its identity sent (R127, steps 2 to 5). -/
def State.retrieveTop (s : State) (t : TrunkNo) (r : CallRef) : State :=
  match s.placeOfRef r with
  | some p =>
    ((((s.mapTrunk t fun x => { x with stack := x.stack.tail }).connectTrunk t r).connect p t).sendIdent t p)
  | none => s

/-- RETRIEVE (R127–R129). -/
def execRetrieve (t : TrunkNo) (s : State) : Host.Outcome State Fault Refusal :=
  s.running fun s => s.takeDesk t .retrieve fun s =>
    let x := s.trunk t
    match x.state, x.stack with
    | .connected, _ => s.refuse t .retrieve .busy
    | .idle, top :: _ => s.retrieveTop t top
    | .guard_, top :: _ => s.retrieveTop t top
    | .offering, top :: _ =>
      match x.current with
      | some r => (((s.sendDesk t (.withdraw r .retrieve)).handBack r false).retrieveTop t top).changed
      | none => s.retrieveTop t top
    | _, _ => s.refuse t .retrieve .state

/-- IDENT_REQUEST (R120). -/
def execIdentRequest (t : TrunkNo) (r : CallRef) (s : State) : Host.Outcome State Fault Refusal :=
  s.running fun s => s.takeDesk t (.identRequest r) fun s =>
    let x := s.trunk t
    match s.placeOfRef r with
    | some p =>
      if x.current = some r ∨ r ∈ x.stack then s.sendIdent t p else s.refuse t (.identRequest r) .unknownRef
    | none => s.refuse t (.identRequest r) .unknownRef

/-- The call in place `p` is connected to the asking trunk and identified to its desk (R134, steps 2 to 5). -/
def State.takeCall (s : State) (t : TrunkNo) (p : LineNo) (r : CallRef) : State :=
  ((s.connectTrunk t r).connect p t).sendIdent t p

/-- A callback rings an idle post, in one command (R136; DEDUCED, log entry 28). -/
def State.ringPost (s : State) (t : TrunkNo) (l : LineNo) : State :=
  match s.freePlace with
  | none => s
  | some p =>
    let c := s.newCall l .ringing
    let s := ((s.startRinging l).addCall p
      { c with
        trunk := some t, lastTrunk := some t, ringingTimer := some Config.ringingTimeout }).identify p .absent true
    (s.connectTrunk t c.ref).sendIdent t p

/-- A callback to line `l` on an IDLE trunk, by the line's state and the live call that names it: the rows
of R133 in order. A RINGING line that no live call names, whose callback has ended and whose CALL ENDED the
LSC has not taken, has no row: it is refused BUSY (DESIGN CHOICE, log entry 34). -/
def State.callBack (s : State) (t : TrunkNo) (l : LineNo) (q : DeskRequest) : State :=
  match (s.lines.get l).state with
  | .unequipped | .outOfService | .settling | .fault => s.refuse t q .lineUnavailable
  | lineState =>
    match s.placeOfLine l with
    | some p =>
      match s.cc.calls.get p with
      | none => s
      | some c =>
        match c.state, c.trunk with
        | .waiting, _ => ((s.setQueue (s.cc.queue.erase c.ref)).takeCall t p c.ref).changed
        | .offered, some o => (((s.sendDesk o (.withdraw c.ref .taken)).enterGuard o).takeCall t p c.ref)
        | .originating, _ => s.refuse t q .busy
        | _, _ => s.refuse t q .lineBusy
    | none => if lineState = .idle then s.ringPost t l else s.refuse t q .busy

/-- CALLBACK (R107, R133–R136). -/
def execCallback (t : TrunkNo) (line : Octet) (s : State) : Host.Outcome State Fault Refusal :=
  s.running fun s => s.takeDesk t (.callback line) fun s =>
    match lineOf line with
    | none => s.refuse t (.callback line) .lineUnavailable
    | some l =>
      if (s.trunk t).state = .idle then s.callBack t l (.callback line)
      else s.refuse t (.callback line) .busy

end Sys2Proof.Machine
end

