-- ==== Sys2Proof/Machine/Audio.lean ====
section
/-! DEFINITION. The 20 ms audio tick (section 7.5, R153, R157–R161). -/

namespace Sys2Proof.Machine

open Sys2Proof

/-- The block sent toward the post of line `l`, given the block taken from each receive buffer (R157). -/
def State.lineBlock (s : State) (taken : TrunkNo → Block) (l : LineNo) : Option Block :=
  if (s.lines.get l).state = .unequipped then none
  else
    match s.placeOfLine l with
    | none => some Config.silenceBlock
    | some p =>
      match s.cc.calls.get p with
      | none => some Config.silenceBlock
      | some c =>
        let desk := ((c.trunk).map taken).getD Config.silenceBlock
        let player := (s.ap.blockOf p).getD Config.silenceBlock
        match c.state with
        | .originating => some Config.silenceBlock
        | .waiting => some player
        | .offered => some player
        | .held => some player
        | .connected => some desk
        | .preempting => some (if (s.ap.players.get p).speaking then player else desk)
        | .ringing => none

/-- The block placed in the send buffer of trunk `t`, given the block received from each line (R158). For a RINGING
call whose line has no ring phase it is silence (DESIGN CHOICE, log entry 36). -/
def State.deskBlock (s : State) (fromLines : Table 48 Block) (t : TrunkNo) : Block :=
  let x := s.trunk t
  if x.state = .connected then
    match x.current.bind s.callOfRef with
    | some c =>
      match c.state with
      | .connected => fromLines.get c.line
      | .preempting => fromLines.get c.line
      | .ringing =>
        if (s.lines.get c.line).ringPhase = some .on then Config.ringbackBlock else Config.silenceBlock
      | _ => Config.silenceBlock
    | none => Config.silenceBlock
  else Config.silenceBlock

/-- AUDIO_BLOCK_TICK: every channel sounds and advances, a block goes toward each line, one is taken from
each receive buffer and one placed in each send buffer (R153, R157–R161). -/
def execAudioBlockTick (fromLines : Table 48 Block) (s : State) : Host.Outcome State Fault Refusal :=
  s.running fun s =>
    let a := s.ap
    let taken (t : TrunkNo) : Block × Buffer × Bool := (a.receive.get t).take
    let placed (t : TrunkNo) : Buffer × Bool := (a.send.get t).append (s.deskBlock fromLines t)
    { s with
      ap := { a with
        toLines := Table.ofFn fun l => s.lineBlock (fun t => (taken t).1) l
        receive := Table.ofFn fun t => (taken t).2.1
        send := Table.ofFn fun t => (placed t).1
        slips := Table.ofFn fun t => slipped (slipped (a.slips.get t) (taken t).2.2) (placed t).2
        players := a.players.map a.advanced } }

end Sys2Proof.Machine
end

