-- ==== Sys2Proof/Machine/TimeBase.lean ====
section
/-! DEFINITION. The time base (sections 8.1 and 8.2): the second boundary, second pulses, the watchdog and
the load of the seconds count. -/

namespace Sys2Proof.Machine

open Sys2Proof

/-- The internal second boundary: phase 0, the seconds count one up, 0 after the last (R164). -/
def TimeBase.boundary (b : TimeBase) : TimeBase := { b with phase := 0, seconds := b.seconds + 1 }

/-- One millisecond of the internal clock: the phase, or the boundary, and the watchdog (R164, R168). -/
def TimeBase.tick (b : TimeBase) : TimeBase :=
  let b := { b with watchdog := b.watchdog.map (· + 1) }
  if b.phase < 999 then { b with phase := b.phase + 1 } else b.boundary

/-- The offset of a pulse at a phase (R167). -/
def pulseOffset (phase : Nat) : Int := if phase ≤ 499 then phase else (phase : Int) - 1000

/-- Whether a pulse of an offset is good (R167). -/
def goodPulse (offset : Int) : Bool := -50 ≤ offset && offset ≤ 50

/-- The pending load applied, if there is one (R168). -/
def TimeBase.applyLoad (b : TimeBase) : TimeBase :=
  match b.pendingLoad with
  | some v => { b with seconds := v, pendingLoad := none }
  | none => b

/-- A good pulse: the phase is aligned, an early pulse taking the boundary, and the runs kept (R167). -/
def TimeBase.align (b : TimeBase) (offset : Int) : TimeBase :=
  { b with
    phase := 0
    seconds := if offset < 0 then b.seconds + 1 else b.seconds
    badRun := 0
    goodRun := min (b.goodRun + 1) 2 }

/-- What a good pulse does besides, by time state (R168). -/
def TimeBase.afterGood (b : TimeBase) : TimeBase :=
  match b.state with
  | .unset => b
  | .free => if b.goodRun = 2 then { b with state := .locked } else b
  | .locked => b.applyLoad
  | .holdover => { b with state := .locked }.applyLoad

/-- A bad pulse, its runs kept: FREE on the third in LOCKED or HOLDOVER, where a load is applied (R167, R168). -/
def TimeBase.afterBad (b : TimeBase) : TimeBase :=
  let b := { b with goodRun := 0, badRun := min (b.badRun + 1) 3 }
  match b.state with
  | .locked => if b.badRun = 3 then { b with state := .free }.applyLoad else b
  | .holdover => if b.badRun = 3 then { b with state := .free }.applyLoad else b
  | .unset => b
  | .free => b

/-- A second pulse (R167, R168). -/
def TimeBase.pulse (b : TimeBase) : TimeBase :=
  let offset := pulseOffset b.phase
  let b := { b with lastOffset := some offset, watchdog := some 0 }
  if goodPulse offset then (b.align offset).afterGood else b.afterBad

/-- The time base becomes `b`; a change of the time state is reported (R169). -/
def State.setTime (s : State) (b : TimeBase) : State :=
  let s' := { s with time := b }
  if b.state = s.time.state then s' else s'.report (.timeState b.state s.time.state s'.stamp)

/-- SECOND_PULSE (R167–R169). -/
def execSecondPulse (s : State) : Host.Outcome State Fault Refusal :=
  s.running fun s => s.setTime s.time.pulse

/-- PULSE_WATCHDOG_EXPIRY: in LOCKED, 3,000 ms without a pulse take the time state to HOLDOVER (R168). -/
def execPulseWatchdogExpiry (s : State) : Host.Outcome State Fault Refusal :=
  s.running fun s =>
    match s.time.state, s.time.watchdog with
    | .locked, some w =>
      if Config.watchdogTime ≤ w then s.setTime { s.time with state := .holdover } else s
    | _, _ => s

/-- INTERNAL_SECOND_BOUNDARY: the phase passes 999 (R164; DESIGN CHOICE, log entries 1 and 3). -/
def execInternalSecondBoundary (s : State) : Host.Outcome State Fault Refusal :=
  s.running fun s => if s.time.phase = 999 then { s with time := s.time.boundary } else s

/-- TIME SET taken by the time base (R165). -/
def TimeBase.load (b : TimeBase) (v : Word32) : TimeBase :=
  match b.state with
  | .unset => { b with seconds := v, pendingLoad := none, state := .free }
  | .free => { b with seconds := v, pendingLoad := none }
  | .locked => { b with pendingLoad := some v }
  | .holdover => { b with pendingLoad := some v }

end Sys2Proof.Machine
end

