-- ==== Sys2Proof/Machine/Link.lean ====
section
/-! DEFINITION. The Node Controller Link (sections 9.2 and 9.3): the receiver, the input list, taking a
request, and the repeat count. -/

namespace Sys2Proof.Machine

open Sys2Proof

/-! ### The receiver (R177–R179) -/

/-- A frame is discarded for a framing fault: back to HUNTING, the link error flag set (R178). -/
def Link.discardFrame (k : Link) : Link := { k with receiver := .hunting, linkError := true }

/-- A checked frame arrives at the input list: it joins the end, or is discarded if two frames wait (R179). -/
def Link.arrive (k : Link) (f : Frame) : Link :=
  if k.inputs.length < Config.inputFrames then { k with receiver := .hunting, inputs := k.inputs ++ [f] }
  else k.discardFrame

/-- An octet in HUNTING: a start octet opens a frame, every other octet is passed over (R178). -/
def Link.hunt (k : Link) (o : RxOctet) : Link :=
  if o.stopBit ∧ o.value = Config.frameStart then { k with receiver := .receiving [] 0 }
  else { k with receiver := .hunting }

/-- The octets after the start octet, judged as far as they go: at the length octet, at the code octet and
at the second check octet (R178). -/
def Link.judgeFrame (k : Link) (os : List Octet) : Link :=
  match os with
  | [] => { k with receiver := .receiving [] 0 }
  | [len] => if len = 0 ∨ 200 < len.toNat then k.discardFrame else { k with receiver := .receiving [len] 0 }
  | [len, code] =>
    if 0x40 ≤ code.toNat then k.discardFrame else { k with receiver := .receiving [len, code] 0 }
  | len :: code :: rest =>
    if rest.length < len.toNat + 1 then { k with receiver := .receiving (len :: code :: rest) 0 }
    else
      let body := rest.take (len.toNat - 1)
      match rest.drop (len.toNat - 1) with
      | [hi, lo] => if sumCheck (len :: code :: body) = be16 hi lo then k.arrive ⟨code, body⟩ else k.discardFrame
      | _ => k.discardFrame

/-- One octet taken by the receiver; in STARTING every octet is passed over (R178, R180). -/
def Link.takeOctet (k : Link) (o : RxOctet) : Link :=
  if k.service = .starting then { k with receiver := .hunting }
  else
    match k.receiver with
    | .hunting => k.hunt o
    | .receiving os gap =>
      if Config.octetGap < gap then k.hunt o
      else if o.stopBit then k.judgeFrame (os ++ [o.value])
      else k.discardFrame

/-- The end of a gap of more than 20 ms: a frame in part is discarded, the link error flag unchanged (R178). -/
def Link.expireGap (k : Link) : Link :=
  match k.receiver with
  | .receiving _ gap => if Config.octetGap < gap then { k with receiver := .hunting } else k
  | .hunting => k

/-- One millisecond of the gap since the latest octet (R178; DESIGN CHOICE, log entry 25). -/
def Link.tick (k : Link) : Link :=
  match k.receiver with
  | .receiving os gap => { k with receiver := .receiving os (gap + 1) }
  | .hunting => k

/-- FRAME_RECEIVED: octets arrive one after another (R177–R179). -/
def execFrameReceived (octets : List RxOctet) (s : State) : Host.Outcome State Fault Refusal :=
  s.running fun s => s.mapLink fun k => octets.foldl Link.takeOctet k

/-- START_OCTET_RECEIVED: one start octet arrives; it opens a frame in HUNTING and is data inside one (R177,
R178). -/
def execStartOctetReceived (s : State) : Host.Outcome State Fault Refusal :=
  s.running fun s => s.mapLink fun k => k.takeOctet ⟨Config.frameStart, true⟩

/-- INTER_OCTET_TIMEOUT (R178). -/
def execInterOctetTimeout (s : State) : Host.Outcome State Fault Refusal :=
  s.running fun s => s.mapLink Link.expireGap

/-! ### Taking a request (R180, R184) -/

/-- Whether frame `f` can be taken now: the NCL is WAITING, and `f` is the oldest frame of the input list,
or arrives and is taken in one with the list empty (R179, R180; DESIGN CHOICE, log entry 4). -/
def State.canTake (s : State) (f : Frame) : Bool :=
  s.link.service = .waiting &&
    match s.link.inputs with
    | [] => true
    | g :: _ => g = f

/-- Frame `f` is taken: its place in the input list is free, the NCL is SERVING, the arming is ended and the
repeat count becomes 0 (R145, R180, R184). CLEAR CALL alone is judged by the arming as it was (R146). -/
def Link.serving (k : Link) : Link :=
  { k with service := .serving, inputs := k.inputs.tail, armed := none, repeatCount := 0, repetition := none }

/-- Frame `f` is taken and served by `g`, if it can be taken now. -/
def State.serve (s : State) (f : Frame) (g : State → State) : State :=
  if s.canTake f then g (s.mapLink Link.serving) else s

/-- A request that is not repeatable: a body length that it does not allow is refused RANGE, otherwise `g`
serves it (R180, R184). -/
def State.serveOnce (s : State) (code : Octet) (allowed : Nat → Bool) (body : List Octet) (g : State → State) :
    State :=
  s.serve ⟨code, body⟩ fun s => if allowed body.length then g s else s.answer code .range

/-- The repetition of a request with `n` further runs from the line its body names (R185); none if `n` is 0
or the body names no line. -/
def repetitionOf (code : Octet) (body : List Octet) (n : Nat) : Option Repetition :=
  if n = 0 then none else (body.head?.bind lineOf).map fun l => ⟨code, body, l, n⟩

/-- A repeatable request: a body of another length than `len` is refused RANGE with the line absent;
otherwise its first run is made, as the first of a repetition where a repeat count is held (R180, R184,
R185). -/
def State.serveRuns (s : State) (code : Octet) (len : Nat) (body : List Octet)
    (run : List Octet → State → State) : State :=
  s.serve ⟨code, body⟩ fun t =>
    if body.length = len then
      run body (t.mapLink fun k => { k with repetition := repetitionOf code body s.link.repeatCount })
    else t.reply ⟨code, .range, some none, .nothing⟩

/-! ### Requests that name nothing (R180, R186) -/

/-- Whether a body length is one that the request of a code allows; none if the code names no request
(section 10.2). CHAIN SET allows 1 + 4k octets for every k. -/
def requestLength (code : Octet) : Option (Nat → Bool) :=
  match code.toNat with
  | 0x01 | 0x03 | 0x16 | 0x32 | 0x3F => some (· = 0)
  | 0x02 => some fun n => n = 3 || n = 17
  | 0x10 | 0x11 | 0x21 | 0x22 | 0x23 => some (· = 2)
  | 0x12 | 0x14 | 0x17 | 0x18 | 0x19 | 0x20 | 0x25 | 0x30 | 0x3E => some (· = 1)
  | 0x13 | 0x29 => some (· = 6)
  | 0x15 => some (· = 28)
  | 0x24 => some (· = 3)
  | 0x28 => some (· = 162)
  | 0x2A => some fun n => n % 4 = 1
  | 0x31 => some (· = 4)
  | _ => none

/-- Whether a PARAM SET body begins with the identifier of a parameter, 1–10 (R186). -/
def namesParameter (body : List Octet) : Bool :=
  match body with
  | id :: _ => 1 ≤ id.toNat && id.toNat ≤ 10
  | [] => false

/-- The result with which a frame that names nothing is refused: UNKNOWN for a code of no request; for a
PARAM SET of no parameter, RANGE if its length is no PARAM SET length, else UNKNOWN (R180, R186). None for
a frame that is another row's request. -/
def unknownResult (code : Octet) (body : List Octet) : Option Result :=
  match requestLength code with
  | none => some .unknown
  | some allowed =>
    if code = 0x02 ∧ namesParameter body = false then some (if allowed body.length then .unknown else .range)
    else none

/-- UNKNOWN_REQUEST (R180, R186). -/
def execUnknownRequest (code : Octet) (body : List Octet) (s : State) : Host.Outcome State Fault Refusal :=
  s.running fun s =>
    match unknownResult code body with
    | some r => s.serve ⟨code, body⟩ fun s => s.answer code r
    | none => s

/-- REPEAT: a count 1–47 becomes the repeat count, another is refused RANGE (R183). -/
def execRepeatPrefix (body : List Octet) (s : State) : Host.Outcome State Fault Refusal :=
  s.running fun s => s.serveOnce 0x3E (· = 1) body fun s =>
    match body with
    | [n] =>
      if 1 ≤ n.toNat ∧ n.toNat ≤ 47 then
        (s.mapLink fun k => { k with repeatCount := n.toNat }).answer 0x3E .done
      else s.answer 0x3E .range
    | _ => s.answer 0x3E .range

/-! ### STATUS (R182) -/

/-- The values of a STATUS reply as they stand (R182). -/
def State.statusValues (s : State) : StatusValues where
  lastReset := s.link.lastReset
  linkError := s.link.linkError
  reportLoss := s.link.reportLoss
  locks := s.dir.locks
  faults := s.dir.faults
  latch := s.dir.latch
  operation := s.dir.operation
  journalHeld := s.journal.records.length
  exhausted := s.journal.exhausted
  timeState := s.time.state
  liveCalls := s.liveCalls.length
  queued := s.cc.queue.length
  noTrunk := s.ti.noTrunk

/-- STATUS: the values, then the link error and report loss flags cleared (R182). -/
def execStatus (body : List Octet) (s : State) : Host.Outcome State Fault Refusal :=
  s.running fun s => s.serveOnce 0x01 (· = 0) body fun s =>
    (s.answer 0x01 .done (.status s.statusValues)).mapLink fun k => { k with linkError := false, reportLoss := false }

end Sys2Proof.Machine
end

