-- ==== Sys2Proof/Machine/Parameters.lean ====
section
/-! DEFINITION. PARAM SET and PARAM QUERY (section 9.6), each parameter applied as its owner's rule gives. -/

namespace Sys2Proof.Machine

open Sys2Proof

/-- A PARAM SET of the parameter with identifier `id`, carrying `value`: refused RANGE if `check` finds it of
another length or out of range, otherwise answered DONE and applied (R180, R186). An identifier of no parameter is UNKNOWN_REQUEST's (DEDUCED, log
entry 21). -/
def State.setParam {α : Type} (s : State) (id : Octet) (value : List Octet) (check : List Octet → Option α)
    (apply : α → State → State) : State :=
  s.serve ⟨0x02, id :: value⟩ fun s =>
    match check value with
    | some v => apply v (s.answer 0x02 .done)
    | none => s.answer 0x02 .range

/-- A value of two octets that satisfies `p` (R186). -/
def valueOf (p : Nat → Bool) : List Octet → Option Nat
  | [hi, lo] => if p (be16 hi lo) then some (be16 hi lo) else none
  | _ => none

/-- A chain number in two octets, 0–15 (R155). -/
def chainValueOf : List Octet → Option (Fin 16)
  | [hi, lo] => if h : be16 hi lo < 16 then some ⟨be16 hi lo, h⟩ else none
  | _ => none

/-- PARAM_SET_THRESHOLD_SET: the eight limits of set A or B replaced as a whole (R12, R13). -/
def execParamSetThresholdSet (setB : Bool) (value : List Octet) (s : State) : Host.Outcome State Fault Refusal :=
  s.running fun s => s.setParam (if setB then 2 else 1) value thresholdsOf fun t s =>
    { s with lmu := if setB then { s.lmu with setB := t } else { s.lmu with setA := t } }

/-- The call in place `p` ages if its mark lies one period in the past; the flag says whether it moved. -/
def State.ageIfDue (a : State × Bool) (p : LineNo) : State × Bool :=
  match a.1.cc.calls.get p with
  | some c =>
    if a.1.agingDue a.1.cc.agingPeriod c then (a.1.ageCall p, a.2 || c.effective ≠ 0) else a
  | none => a

/-- PARAM_SET_AGING_PERIOD: 0 or 5–120 s; calls whose marks already lie one new period in the past age once
now (R83; DESIGN CHOICE for the order, log entry 11). -/
def execParamSetAgingPeriod (value : List Octet) (s : State) : Host.Outcome State Fault Refusal :=
  s.running fun s => s.setParam 3 value (valueOf fun n => n = 0 || (5 ≤ n && n ≤ 120)) fun n s =>
    let s := { s with cc := { s.cc with agingPeriod := n } }
    let (s, moved) := (List.finRange 48).foldl State.ageIfDue (s, false)
    if moved then s.changed else s

/-- PARAM_SET_ESCALATION_THRESHOLD: 1–15 offers, followed by an allocation pass (R84, R86; DESIGN CHOICE for a value
that stands already, log entry 38). -/
def execParamSetEscalationThreshold (value : List Octet) (s : State) : Host.Outcome State Fault Refusal :=
  s.running fun s => s.setParam 4 value (valueOf fun n => 1 ≤ n && n ≤ 15) fun n s =>
    { s with cc := { s.cc with escalation := n } }.pass

/-- PARAM_SET_OFFER_TIME: 5–60 s, for offer timers started from now on (R117). -/
def execParamSetOfferTime (value : List Octet) (s : State) : Host.Outcome State Fault Refusal :=
  s.running fun s => s.setParam 5 value (valueOf fun n => 5 ≤ n && n ≤ 60) fun n s =>
    { s with ti := { s.ti with offerTime := n } }

/-- PARAM_SET_GUARD_TIME: 100–2000 ms, for guard timers started from now on (R117). -/
def execParamSetGuardTime (value : List Octet) (s : State) : Host.Outcome State Fault Refusal :=
  s.running fun s => s.setParam 6 value (valueOf fun n => 100 ≤ n && n ≤ 2000) fun n s =>
    { s with ti := { s.ti with guardTime := n } }

/-- PARAM_SET_MINIMUM_HOLD: 0–600 s; after an accepted value preemption is examined (R139, R140). That one refused
RANGE is followed by no examination is a DESIGN CHOICE (log entry 38). -/
def execParamSetMinimumHold (value : List Octet) (s : State) : Host.Outcome State Fault Refusal :=
  s.running fun s => s.setParam 7 value (valueOf fun n => n ≤ 600) fun n s =>
    { s with cc := { s.cc with minimumHold := n } }.examine

/-- PARAM_SET_HOLD_CHAIN: 0–15, for the next HOLD (R155). -/
def execParamSetHoldChain (value : List Octet) (s : State) : Host.Outcome State Fault Refusal :=
  s.running fun s => s.setParam 8 value chainValueOf fun ch s => { s with ap := { s.ap with holdChain := ch } }

/-- PARAM_SET_WARNING_CHAIN: 0–15, for the next preemption (R155). -/
def execParamSetWarningChain (value : List Octet) (s : State) : Host.Outcome State Fault Refusal :=
  s.running fun s => s.setParam 9 value chainValueOf fun ch s => { s with ap := { s.ap with warningChain := ch } }

/-- PARAM_SET_JOURNAL_THRESHOLD: 1–256 records (R175). -/
def execParamSetJournalThreshold (value : List Octet) (s : State) : Host.Outcome State Fault Refusal :=
  s.running fun s => s.setParam 10 value (valueOf fun n => 1 ≤ n && n ≤ 256) fun n s =>
    { s with journal := { s.journal with threshold := n } }

/-- The parameters in force (R187). -/
def State.parameterValues (s : State) : ParameterValues where
  setA := s.lmu.setA
  setB := s.lmu.setB
  agingPeriod := s.cc.agingPeriod
  escalation := s.cc.escalation
  offerTime := s.ti.offerTime
  guardTime := s.ti.guardTime
  minimumHold := s.cc.minimumHold
  holdChain := s.ap.holdChain
  warningChain := s.ap.warningChain
  journalThreshold := s.journal.threshold

/-- PARAM_QUERY (R187). -/
def execParamQuery (body : List Octet) (s : State) : Host.Outcome State Fault Refusal :=
  s.running fun s => s.serveOnce 0x03 (· = 0) body fun s =>
    s.answer 0x03 .done (.parameters s.parameterValues)

end Sys2Proof.Machine
end

