-- ==== Sys2Proof/Machine/LineRequests.lean ====
section
/-! DEFINITION. The five repeatable requests, each as one run for the line its body names: LINE QUERY,
LINE SET, LINE TEST, CAL SET and DIR READ. A body of another length never reaches a run (R180). -/

namespace Sys2Proof.Machine

open Sys2Proof

/-! ### LINE QUERY and LINE TEST (R42, R45) -/

/-- The sticky flags of line `l` cleared (R42). -/
def State.clearFlags (s : State) (l : LineNo) : State :=
  s.mapLine l fun x => { x with flags := StickyFlags.clear }

/-- The values of a LINE QUERY reply (R42). -/
def State.lineValues (s : State) (l : LineNo) : ReplyValues :=
  let x := s.lines.get l
  .line x.state x.faultKind x.flags (s.snapshotOf l)

/-- One run of LINE QUERY (R42). -/
def State.runLineQuery (body : List Octet) (s : State) : State :=
  match body with
  | [line, option] =>
    match lineOf line with
    | none => s.answerRun 0x10 line .range
    | some l =>
      let s' := s.answerRun 0x10 line .done (s.lineValues l)
      if option = 0 then s' else s'.clearFlags l
  | _ => s

/-- LINE_QUERY (R42). -/
def execLineQuery (body : List Octet) (s : State) : Host.Outcome State Fault Refusal :=
  s.running fun s => s.serveRuns 0x10 2 body State.runLineQuery

/-- One run of LINE TEST (R45). -/
def State.runLineTest (body : List Octet) (s : State) : State :=
  match body with
  | [line] =>
    match lineOf line with
    | none => s.answerRun 0x12 line .range
    | some l => s.answerRun 0x12 line .done (.measurement (s.snapshotOf l))
  | _ => s

/-- LINE_TEST (R45). -/
def execLineTest (body : List Octet) (s : State) : Host.Outcome State Fault Refusal :=
  s.running fun s => s.serveRuns 0x12 1 body State.runLineTest

/-! ### LINE SET (R43) -/

/-- The service values LINE SET may request (R43). -/
inductive LineService where
  | unequipped
  | outOfService
  | inService
deriving DecidableEq, Repr

/-- The service octet of LINE SET, numbered in its own order (R191). -/
def lineServiceOf (o : Octet) : Option LineService :=
  match o.toNat with
  | 0 => some .unequipped
  | 1 => some .outOfService
  | 2 => some .inService
  | _ => none

/-- The service field that a requested service asks for (R43). -/
def LineService.field : LineService → EntryService
  | .unequipped => .unequipped
  | .outOfService => .inService
  | .inService => .inService

/-- The reason for which a LINE SET is refused once its values are in range, by checks 2 and 3 (R43, R54). -/
def State.lineSetRefusal (s : State) (l : LineNo) (v : LineService) : Option Result :=
  match (s.lines.get l).state with
  | .collecting | .active | .ringing => some .inUse
  | _ => if v.field = (s.dir.working.get l).service then none else s.dir.editRefusal l

/-- The service field of a line's working entry written (R43). -/
def State.setService (s : State) (l : LineNo) (v : EntryService) : State :=
  s.setEntry l { s.dir.working.get l with service := v }

/-- The effect of a LINE SET that passes its checks, by the line's state (R43; DEDUCED for the fault kind,
log entry 20). -/
def State.applyLineSet (s : State) (l : LineNo) (v : LineService) : State :=
  let s := s.setService l v.field
  match v, (s.lines.get l).state with
  | .unequipped, .unequipped => s
  | .unequipped, _ => s.unequip l
  | .outOfService, .unequipped => (s.enter l .outOfService).clearMeasurement l
  | .outOfService, .outOfService => s
  | .outOfService, _ => s.mapLine l fun x => { x with state := .outOfService, faultKind := none }
  | .inService, .unequipped => s.settle l
  | .inService, .outOfService => s.settle l
  | .inService, _ => s

/-- One run of LINE SET (R43). -/
def State.runLineSet (body : List Octet) (s : State) : State :=
  match body with
  | [line, service] =>
    match lineOf line, lineServiceOf service with
    | some l, some v =>
      match s.lineSetRefusal l v with
      | some r => s.answerRun 0x11 line r
      | none => (s.answerRun 0x11 line .done).applyLineSet l v
    | _, _ => s.answerRun 0x11 line .range
  | _ => s

/-- LINE_SET (R43). -/
def execLineSet (body : List Octet) (s : State) : Host.Outcome State Fault Refusal :=
  s.running fun s => s.serveRuns 0x11 2 body State.runLineSet

/-! ### CAL SET and DIR READ (R52, R56) -/

/-- The channel of a CAL SET: loop, else ground (R56). -/
def groundChannelOf (o : Octet) : Option Bool :=
  match o.toNat with
  | 0 => some false
  | 1 => some true
  | _ => none

/-- An entry with the calibration of one channel replaced (R56). -/
def Entry.withCal (e : Entry) (ground : Bool) (c : Calibration) : Entry :=
  if ground then { e with groundCal := c } else { e with loopCal := c }

/-- One run of CAL SET (R54, R56). -/
def State.runCalSet (body : List Octet) (s : State) : State :=
  match body with
  | [line, channel, g1, g0, o1, o0] =>
    match lineOf line, groundChannelOf channel, calibrationOf g1 g0 o1 o0 with
    | some l, some ground, some c =>
      match s.dir.editRefusal l with
      | some r => s.answerRun 0x13 line r
      | none => (s.answerRun 0x13 line .done).setEntry l ((s.dir.working.get l).withCal ground c)
    | _, _, _ => s.answerRun 0x13 line .range
  | _ => s

/-- CAL_SET (R56). -/
def execCalSet (body : List Octet) (s : State) : Host.Outcome State Fault Refusal :=
  s.running fun s => s.serveRuns 0x13 6 body State.runCalSet

/-- One run of DIR READ (R52). -/
def State.runDirRead (body : List Octet) (s : State) : State :=
  match body with
  | [line] =>
    match lineOf line with
    | none => s.answerRun 0x14 line .range
    | some l => s.answerRun 0x14 line .done (.entry (s.dir.working.get l) (s.dir.locks.get (bankOf l)))
  | _ => s

/-- DIR_READ (R52). -/
def execDirRead (body : List Octet) (s : State) : Host.Outcome State Fault Refusal :=
  s.running fun s => s.serveRuns 0x14 1 body State.runDirRead

/-- One run of the repeatable request of a code (R184). -/
def State.runAgain (code : Octet) (body : List Octet) (s : State) : State :=
  match code.toNat with
  | 0x10 => s.runLineQuery body
  | 0x11 => s.runLineSet body
  | 0x12 => s.runLineTest body
  | 0x13 => s.runCalSet body
  | 0x14 => s.runDirRead body
  | _ => s

end Sys2Proof.Machine
end

