-- ==== Sys2Proof/Machine/DirectoryRequests.lean ====
section
/-! DEFINITION. The requests of the Post Directory that are not repeatable (chapter 3). -/

namespace Sys2Proof.Machine

open Sys2Proof

/-- DIR_WRITE: the whole entry but its service field, if the image passes R53 and the bank R54 (R55). -/
def execDirWrite (body : List Octet) (s : State) : Host.Outcome State Fault Refusal :=
  s.running fun s => s.serveOnce 0x15 (· = 28) body fun s =>
    match body with
    | line :: image =>
      match lineOf line with
      | none => s.answer 0x15 .range
      | some l =>
        match entryOf (s.dir.working.get l).service image with
        | none => s.answer 0x15 .range
        | some e =>
          match s.dir.editRefusal l with
          | some r => s.answer 0x15 r
          | none => (s.answer 0x15 .done).setEntry l e
    | [] => s.answer 0x15 .range

/-- DIR_ENABLE: the write enable latch is set, BUSY with an operation in flight (R57). -/
def execDirEnable (body : List Octet) (s : State) : Host.Outcome State Fault Refusal :=
  s.running fun s => s.serveOnce 0x16 (· = 0) body fun s =>
    if s.dir.operation = none then { s with dir := { s.dir with latch := true } }.answer 0x16 .done
    else s.answer 0x16 .busy

/-- A store request of a kind for the bank its body names: accepted, the operation is in flight with its
whole duration (R58). -/
def State.requestStore (s : State) (code : Octet) (kind : StoreKind) (body : List Octet) : State :=
  let bank := body.head?.bind (indexOf 3)
  match s.dir.storeRefusal kind bank, bank with
  | none, some b =>
    { s with dir := { s.dir with operation := some ⟨b, kind, kind.duration⟩ } }.answer code .accepted
  | some r, _ => s.answer code r
  | none, none => s.answer code .range

/-- DIR_COMMIT (R58, R59). -/
def execDirCommit (body : List Octet) (s : State) : Host.Outcome State Fault Refusal :=
  s.running fun s => s.serveOnce 0x17 (· = 1) body fun s => s.requestStore 0x17 .commit body

/-- DIR_LOCK (R58, R60). -/
def execDirLock (body : List Octet) (s : State) : Host.Outcome State Fault Refusal :=
  s.running fun s => s.serveOnce 0x18 (· = 1) body fun s => s.requestStore 0x18 .lock body

/-- DIR_ERASE (R58, R61). -/
def execDirErase (body : List Octet) (s : State) : Host.Outcome State Fault Refusal :=
  s.running fun s => s.serveOnce 0x19 (· = 1) body fun s => s.requestStore 0x19 .erase body

end Sys2Proof.Machine
end

