-- ==== Sys2Proof/Machine/CallRequests.lean ====
section
/-! DEFINITION. The requests about calls and trunks (chapters 4 to 6). -/

namespace Sys2Proof.Machine

open Sys2Proof

/-! ### CALL LIST and CALL QUERY (R94, R95) -/

/-- The live calls by ascending origination sequence (R93, R94). -/
def State.callsBySequence (s : State) : List Call :=
  s.liveCalls.insertionSort fun c d => c.sequence.toNat ≤ d.sequence.toNat

/-- The position of a WAITING call in the queue, counted from 1 (R94). -/
def State.queuePosition (s : State) (c : Call) : Option Nat :=
  if c.state = .waiting then positionIn s.cc.queue c.ref else none

/-- The position of a HELD call in its trunk's stack, counted from 1 at the top (R95). -/
def State.stackPosition (s : State) (c : Call) : Option Nat :=
  match c.state, c.trunk with
  | .held, some t => positionIn (s.trunk t).stack c.ref
  | _, _ => none

/-- The CALL LIST entry of a call (R94). -/
def State.listEntry (s : State) (c : Call) : CallListEntry where
  call := c.ref
  line := c.line
  state := c.state
  kind := c.identity.map CallIdentity.kind
  effectiveClass := c.identity.map CallIdentity.effectiveClass
  trunk := c.trunk
  position := s.queuePosition c

/-- CALL_LIST: up to sixteen calls from the starting position on (R94). -/
def execCallList (body : List Octet) (s : State) : Host.Outcome State Fault Refusal :=
  s.running fun s => s.serveOnce 0x20 (· = 1) body fun s =>
    match body with
    | [start] =>
      if start.toNat ≤ 47 then
        s.answer 0x20 .done
          (.callList s.liveCalls.length (((s.callsBySequence.drop start.toNat).take 16).map s.listEntry))
      else s.answer 0x20 .range
    | _ => s.answer 0x20 .range

/-- CALL_QUERY (R95). -/
def execCallQuery (body : List Octet) (s : State) : Host.Outcome State Fault Refusal :=
  s.running fun s => s.serveOnce 0x21 (· = 2) body fun s =>
    match body with
    | [hi, lo] =>
      if refOf hi lo = 0 then s.answer 0x21 .range
      else
        match s.callOfRef (refOf hi lo) with
        | some c =>
          s.answer 0x21 .done (.call c (s.queuePosition c) (s.stackPosition c) (s.age c.createdAt / 1000))
        | none => s.answer 0x21 .unknown
    | _ => s.answer 0x21 .range

/-! ### Forced clearing (R144–R147) -/

/-- CLEAR_ARM: the NCL is armed with a live call's reference; refused, it stays disarmed (R144, R145). -/
def execClearArm (body : List Octet) (s : State) : Host.Outcome State Fault Refusal :=
  s.running fun s => s.serveOnce 0x22 (· = 2) body fun s =>
    match body with
    | [hi, lo] =>
      if refOf hi lo = 0 then s.answer 0x22 .range
      else if s.placeOfRef (refOf hi lo) = none then s.answer 0x22 .unknown
      else (s.mapLink fun k => { k with armed := some (refOf hi lo) }).answer 0x22 .done
    | _ => s.answer 0x22 .range

/-- CLEAR CALL judged by the arming as it stood when the request was taken: the reply, then the end (R146). -/
def State.clearCall (s : State) (armed : Option CallRef) (r : CallRef) : State :=
  if armed = some r then
    match s.placeOfRef r with
    | some p => (s.answer 0x23 .done).endCall p .forced
    | none => s.answer 0x23 .unknown
  else s.answer 0x23 .state

/-- CLEAR_CALL: in every case the NCL is disarmed after it (R145, R146). -/
def execClearCall (body : List Octet) (s : State) : Host.Outcome State Fault Refusal :=
  s.running fun s => s.serveOnce 0x23 (· = 2) body fun t =>
    match body with
    | [hi, lo] => t.clearCall s.link.armed (refOf hi lo)
    | _ => t.answer 0x23 .range

/-! ### TRUNK SET and TRUNK QUERY (R103, R104) -/

/-- A trunk service octet (R191). -/
def trunkServiceOf (o : Octet) : Option TrunkService :=
  match o.toNat with
  | 0 => some .inService
  | 1 => some .outOfService
  | _ => none

/-- A trunk group octet (R191). -/
def trunkGroupOf (o : Octet) : Option TrunkGroup :=
  match o.toNat with
  | 0 => some .primary
  | 1 => some .overflow
  | _ => none

/-- Whether a service and group asked of a trunk change its service field or group, or its state by the
table of R103. -/
def Trunk.changedBy (x : Trunk) (v : TrunkService) (g : TrunkGroup) : Bool :=
  x.service ≠ v || x.group ≠ g || (v = .inService && x.state = .outOfService) ||
    (v = .outOfService && x.state ≠ .outOfService)

/-- The trunk enters OUT OF SERVICE, its timers cancelled (R103, R116). -/
def State.removeTrunk (s : State) (t : TrunkNo) : State :=
  s.mapTrunk t fun x =>
    { x with state := .outOfService, current := none, offerTimer := none, guardTimer := none, idleSince := none }

/-- The TRUNK STATE report of a change made by TRUNK SET (R103). -/
def State.reportService (s : State) (t : TrunkNo) : State :=
  s.report (.trunkState t (s.trunk t).state .service)

/-- The service of a TRUNK SET takes effect by the trunk's state (R103). -/
def State.applyService (s : State) (t : TrunkNo) (v : TrunkService) : State :=
  let x := s.trunk t
  match v, x.state with
  | .inService, .outOfService =>
    if x.link = .up then (s.enterIdle t).reportService t
    else (s.mapTrunk t fun x => { x with state := .linkDown }).reportService t
  | .inService, _ => s
  | .outOfService, .outOfService => s
  | .outOfService, .offering =>
    match x.current with
    | some r => (((s.sendDesk t (.withdraw r .outOfService)).removeTrunk t).handBack r false).reportService t
    | none => (s.removeTrunk t).reportService t
  | .outOfService, _ => (s.removeTrunk t).reportService t

/-- A TRUNK SET that passes its checks: the reply, the group, the service, and the pass that a change of
trunk or queue brings (R84, R103; DESIGN CHOICE for the order, log entry 11). -/
def State.applyTrunkSet (s : State) (t : TrunkNo) (v : TrunkService) (g : TrunkGroup) : State :=
  let changed := (s.trunk t).changedBy v g
  let s := ((s.answer 0x24 .done).mapTrunk t fun x => { x with service := v, group := g }).applyService t v
  if changed then s.changed else s

/-- TRUNK_SET (R103). -/
def execTrunkSet (body : List Octet) (s : State) : Host.Outcome State Fault Refusal :=
  s.running fun s => s.serveOnce 0x24 (· = 3) body fun s =>
    match body with
    | [trunk, service, group] =>
      match indexOf 8 trunk, trunkServiceOf service, trunkGroupOf group with
      | some t, some v, some g =>
        if v = .outOfService ∧ ((s.trunk t).state = .connected ∨ (s.trunk t).stack ≠ []) then
          s.answer 0x24 .inUse
        else s.applyTrunkSet t v g
      | _, _, _ => s.answer 0x24 .range
    | _ => s.answer 0x24 .range

/-- The slip count and the three error counts of a trunk set to 0 (R104). -/
def State.clearCounts (s : State) (t : TrunkNo) : State :=
  { s with ap := { s.ap with slips := s.ap.slips.set t 0 } }.mapTrunk t fun x =>
    { x with frameErrors := 0, messageErrors := 0, overruns := 0 }

/-- TRUNK_QUERY (R104). -/
def execTrunkQuery (body : List Octet) (s : State) : Host.Outcome State Fault Refusal :=
  s.running fun s => s.serveOnce 0x25 (· = 1) body fun s =>
    match body with
    | [trunk] =>
      match indexOf 8 trunk with
      | some t => (s.answer 0x25 .done (.trunk (s.trunk t) (s.ap.slips.get t))).clearCounts t
      | none => s.answer 0x25 .range
    | _ => s.answer 0x25 .range

end Sys2Proof.Machine
end

