-- ==== Sys2Proof/Machine/PromptRequests.lean ====
section
/-! DEFINITION. The requests of the Announcement Player, the journal and the time base (chapters 7, 8). -/

namespace Sys2Proof.Machine

open Sys2Proof

/-- The prompt store with `os` from block `b` on (R148). -/
def State.writePrompt (s : State) (b : Nat) (os : List Octet) : State :=
  { s with ap := { s.ap with prompt := s.ap.prompt.writeAll (160 * b) os } }

/-- PROMPT_WRITE: the 160 octets of a block 0–4095 replaced (R148). -/
def execPromptWrite (body : List Octet) (s : State) : Host.Outcome State Fault Refusal :=
  s.running fun s => s.serveOnce 0x28 (· = 162) body fun s =>
    match body with
    | hi :: lo :: os =>
      if be16 hi lo ≤ 4095 then (s.answer 0x28 .done).writePrompt (be16 hi lo) os else s.answer 0x28 .range
    | _ => s.answer 0x28 .range

/-- The clip entry a CLIP SET asks for: emptied for length 0, else the clip if it is in range (R149). -/
def clipEntryOf (start len : Nat) (w : Octet) : Option (Option Clip) :=
  if len = 0 then some none else (clipOf start len w).map some

/-- CLIP_SET: RANGE, then IN USE, else the entry replaced (R149, R156). -/
def execClipSet (body : List Octet) (s : State) : Host.Outcome State Fault Refusal :=
  s.running fun s => s.serveOnce 0x29 (· = 6) body fun s =>
    match body with
    | [clip, s1, s0, l1, l0, w] =>
      match indexOf 32 clip, clipEntryOf (be16 s1 s0) (be16 l1 l0) w with
      | some c, some e =>
        if s.ap.clipInUse c then s.answer 0x29 .inUse
        else { s with ap := { s.ap with clips := s.ap.clips.set c e } }.answer 0x29 .done
      | _, _ => s.answer 0x29 .range
    | _ => s.answer 0x29 .range

/-- CHAIN_SET: RANGE, then IN USE, else the chain replaced (R151, R156). -/
def execChainSet (body : List Octet) (s : State) : Host.Outcome State Fault Refusal :=
  s.running fun s => s.serveOnce 0x2A (fun n => n % 4 = 1) body fun s =>
    match body with
    | chain :: steps =>
      match indexOf 16 chain, chainOf steps with
      | some ch, some steps =>
        if s.ap.chainInUse ch then s.answer 0x2A .inUse
        else { s with ap := { s.ap with chains := s.ap.chains.set ch steps } }.answer 0x2A .done
      | _, _ => s.answer 0x2A .range
    | [] => s.answer 0x2A .range

/-- JOURNAL_READ: the oldest n records leave the journal with the reply (R174, R192). -/
def execJournalRead (body : List Octet) (s : State) : Host.Outcome State Fault Refusal :=
  s.running fun s => s.serveOnce 0x30 (· = 1) body fun s =>
    match body with
    | [n] =>
      if 1 ≤ n.toNat ∧ n.toNat ≤ 8 then
        let left := s.journal.records.drop n.toNat
        { s with journal := { s.journal with records := left } }.answer 0x30 .done
          (.journal (s.journal.records.take n.toNat) left.length)
      else s.answer 0x30 .range
    | _ => s.answer 0x30 .range

/-- TIME_SET: the reply with the time state after the request, then the change and its report (R165, R169). -/
def execTimeSet (body : List Octet) (s : State) : Host.Outcome State Fault Refusal :=
  s.running fun s => s.serveOnce 0x31 (· = 4) body fun s =>
    match body with
    | [a, b, c, d] =>
      let t := s.time.load (BitVec.ofNat 32 (be32 a b c d))
      (s.answer 0x31 .done (.timeState t.state)).setTime t
    | _ => s.answer 0x31 .range

/-- TIME_QUERY (R166). -/
def execTimeQuery (body : List Octet) (s : State) : Host.Outcome State Fault Refusal :=
  s.running fun s => s.serveOnce 0x32 (· = 0) body fun s => s.answer 0x32 .done (.time s.time)

end Sys2Proof.Machine
end

