-- ==== Sys2Proof/Machine/Resets.lean ====
section
/-! DEFINITION. The two resets (R22, R23, R46, R47, R64, R65, R93, R122, R123, R162, R163, R170, R176,
R188–R190) and the sending of replies and reports (R180, R181, R185). -/

namespace Sys2Proof.Machine

open Sys2Proof

/-! ### What both resets share -/

/-- The record of a line as a reset places it: UNEQUIPPED or SETTLING by the loaded service field, every flag
clear (R46, R47). -/
def placedLine (e : Entry) : LineRecord :=
  LineRecord.fresh (if e.service = .unequipped then .unequipped else .settling) StickyFlags.clear

/-- The working table is loaded from the store and the lines are placed from it, every measurement record
empty (R19, R22, R23, R46, R47, R65). -/
def State.loadAndPlace (s : State) : State :=
  let d := s.dir.load
  { s with
    dir := d
    lmu := { s.lmu with records := Table.fill 48 Measurement.empty }
    lines := d.working.map placedLine }

/-- The RESET record, then READY with its sequence number and the load's results (R176, R190). -/
def State.recordAndReady (s : State) (k : ResetKind) : State :=
  let number := s.journal.nextNumber
  let s := (s.record (.reset k)).mapLink fun n => { n with lastReset := k, linkError := false }
  s.makeReady (.ready k (s.dir.faults.map not) s.dir.locks number)

/-! ### Power-on reset -/

/-- The state while a power-on reset is held: only the store and the commands waiting outside survive (R22,
R64, R93, R122, R162, R170, R176, R189). -/
def State.powerOn (s : State) : State :=
  { State.heldInReset s.dir.abandoned with pending := s.pending }

/-- POWER_ON_RESET (R189). -/
def execPowerOnReset (s : State) : Host.Outcome State Fault Refusal := .next s.powerOn

/-- A power-on reset released: the load, the lines, the POWER-ON record and READY (R46, R65, R176, R189). -/
def State.released (s : State) : State := { s with held := false }.loadAndPlace.recordAndReady .powerOn

/-- POWER_ON_RESET_RELEASE; without a power-on reset held there is nothing to release (R189). -/
def execPowerOnResetRelease (s : State) : Host.Outcome State Fault Refusal :=
  .next (if s.held then s.released else s)

/-! ### Soft reset -/

/-- The NCL enters STARTING (R188). -/
def Link.starting (k : Link) : Link :=
  { k with
    receiver := .hunting, inputs := [], service := .starting, repeatCount := 0, repetition := none
    armed := none }

/-- A trunk from the start of a soft reset: its receiver discards signalling, no desk request is taken, and
it has its transmit list to send out (R123). A message received in part, and a request completed and not
taken, are dropped at once and uncounted (DESIGN CHOICE, log entry 18). -/
def Trunk.beginDrain (x : Trunk) : Trunk := { x with draining := true, receiver := .between, requests := [] }

/-- The live call of lowest origination sequence ends with cause RESET, up to `n` times (R93). -/
def State.endAll : Nat → State → State
  | 0, s => s
  | n + 1, s =>
    match s.callsBySequence.head?.bind fun c => s.placeOfRef c.ref with
    | some p => State.endAll n (s.endCall p .reset)
    | none => s

/-- The parameters and the LMU's threshold sets at their defaults (R23, R93, R117, R123, R155, R176, R186). -/
def State.defaults (s : State) : State :=
  { s with
    lmu := { s.lmu with setA := Thresholds.factoryA, setB := Thresholds.factoryB }
    cc := { s.cc with
      agingPeriod := Config.defaultAgingPeriod
      escalation := Config.defaultEscalation
      minimumHold := Config.defaultMinimumHold }
    ti := { s.ti with
      offerTime := Config.defaultOfferTime, guardTime := Config.defaultGuardTime, noTrunk := false }
    ap := { s.ap with holdChain := Config.defaultHoldChain, warningChain := Config.defaultWarningChain }
    journal := { s.journal with threshold := Config.defaultJournalThreshold } }

/-- The start of a soft reset: the reply, STARTING, and the trunks beginning to drain (R123, R188). -/
def State.beginSoftReset (s : State) : State :=
  let s := (s.answer 0x3F .done).mapLink Link.starting
  { s with ti := { s.ti with trunks := s.ti.trunks.map Trunk.beginDrain } }

/-- The calls' ends, the queue empty and every channel INACTIVE after them, what they hand the LSC and what the LSC
has handed having no effect, and the no-trunk flag judged on the empty queue (R47, R93, R123, R163, R188). The ends
bring their passes and examinations, which may start a preemption that a later end then ends (R84, R140, R143). -/
def State.endCallsForReset (s : State) : State :=
  let s := ((s.endAll 48).setQueue []).judgeNoTrunk
  { s with events := [], callEnds := [], ap := { s.ap with players := Table.fill 48 .inactive } }

/-- The trunks that have nothing to send out take their reset values at once (R123). -/
def State.resetIdleTrunks (s : State) : State := (List.finRange 8).foldl State.resetDrained s

/-- A soft reset carried out (R188). The trunks that still have messages to send out take their reset values
by TRUNK_RESET_AFTER_DRAIN (DEDUCED, log entry 17). The parameters, the journal threshold among them, return to
their defaults after the calls' CALL END records and before the RESET record (DESIGN CHOICE, log entry 35). -/
def State.softReset (s : State) : State :=
  s.beginSoftReset.endCallsForReset.resetIdleTrunks.defaults.loadAndPlace.recordAndReady .soft

/-- RESET: BUSY with a store operation in flight, else the soft reset (R188). -/
def execReset (body : List Octet) (s : State) : Host.Outcome State Fault Refusal :=
  s.running fun s => s.serveOnce 0x3F (· = 0) body fun s =>
    if s.dir.operation = none then s.softReset else s.answer 0x3F .busy

/-! ### Sending (R180, R181, R185) -/

/-- The service of a request ends when its reply has been sent: the next run of a repetition, or WAITING. The
reply of a RESET carried out leaves the service state alone (R180, R185; DESIGN CHOICE, log entry 22). -/
def State.afterReply (s : State) (r : Reply) : State :=
  if s.link.service ≠ .serving ∨ (r.request = 0x3F ∧ r.result = .done) then s
  else
    match s.link.repetition with
    | none => s.mapLink fun k => { k with service := .waiting }
    | some rep =>
      if h : 0 < rep.remaining ∧ rep.index.val < 47 then
        let next : LineNo := ⟨rep.index.val + 1, by omega⟩
        (s.mapLink fun k =>
          { k with repetition := some { rep with index := next, remaining := rep.remaining - 1 } }).runAgain rep.code
          (BitVec.ofNat 8 next.val :: rep.body.tail)
      else s.mapLink fun k => { k with service := .waiting, repetition := none }

/-- REPLY_SENT: the reply at the head of the output list has been sent whole (R180, R181, R192). -/
def execReplySent (s : State) : Host.Outcome State Fault Refusal :=
  s.running fun s =>
    match s.link.output with
    | .reply r :: rest => (s.mapLink fun k => { k with output := rest, lastSent := r.octets }).afterReply r
    | _ => s

/-- A READY that waits for room is placed and the NCL enters WAITING (R181, R188). -/
def Link.placeHeldReady (k : Link) : Link :=
  match k.heldReady with
  | some r => { k with output := k.output ++ [.report r], heldReady := none, service := .waiting }
  | none => k

/-- REPORT_SENT: the report at the head of the output list has been sent whole (R181). -/
def execReportSent (s : State) : Host.Outcome State Fault Refusal :=
  s.running fun s =>
    match s.link.output with
    | .report r :: rest =>
      s.mapLink fun k => { k with output := rest, lastSent := r.octets }.placeHeldReady
    | _ => s

end Sys2Proof.Machine
end

