-- ==== Sys2Proof/Machine/Clock.lean ====
section
/-! DEFINITION. One millisecond of the part's own clock: the time base, the CC's running count and every
timer that counts milliseconds (R30 to R33 count evaluations instead). -/

namespace Sys2Proof.Machine

open Sys2Proof

/-- The millisecond timers of a call one lower, not below 0, and the due time of its hold reminder one nearer
or one further past (R131, R136, R141). -/
def Call.tick (c : Call) : Call :=
  { c with
    reminderIn := c.reminderIn.map (· - 1)
    preemptionTimer := c.preemptionTimer.map (· - 1)
    ringingTimer := c.ringingTimer.map (· - 1) }

/-- The timers of a trunk one lower, not below 0 (R108, R115). -/
def Trunk.tick (x : Trunk) : Trunk :=
  { x with offerTimer := x.offerTimer.map (· - 1), guardTimer := x.guardTimer.map (· - 1) }

/-- The operation in flight one millisecond nearer its end (R58). -/
def Directory.tick (d : Directory) : Directory :=
  { d with operation := d.operation.map fun op => { op with remaining := op.remaining - 1 } }

/-- One millisecond passes (R58, R71, R108, R115, R136, R141, R164, R168, R178). An expiry is a command of its
own: here a timer only comes to stand at its end. -/
def State.tick (s : State) : State :=
  { s with
    dir := s.dir.tick
    cc := { s.cc with now := s.cc.now + 1, calls := s.cc.calls.map (Option.map Call.tick) }
    ti := { s.ti with trunks := s.ti.trunks.map Trunk.tick }
    time := s.time.tick
    link := s.link.tick }

/-- What the part does with no command waiting: a millisecond passes, unless a power-on reset is held. -/
def State.idle (s : State) : State := if s.held then s else s.tick

end Sys2Proof.Machine
end

