-- ==== Sys2Proof/Machine/Dispatch.lean ====
section
/-! DEFINITION. The meaning of every command: one arm for each constructor, one direct call of its meaning. -/

namespace Sys2Proof.Machine

open Sys2Proof

/-- The effect of a command on everything but the queue of commands. -/
def exec (i : Instr) (s : State) : Host.Outcome State Fault Refusal :=
  match i with
  | .powerOnReset => Sys2Proof.Machine.execPowerOnReset s
  | .powerOnResetRelease => Sys2Proof.Machine.execPowerOnResetRelease s
  | .samplePair line loop ground => Sys2Proof.Machine.execSamplePair line loop ground s
  | .codeTimerExpiry sample => Sys2Proof.Machine.execCodeTimerExpiry sample s
  | .lockoutCountExpiry sample => Sys2Proof.Machine.execLockoutCountExpiry sample s
  | .ringPhaseChange sample => Sys2Proof.Machine.execRingPhaseChange sample s
  | .seizure line => Sys2Proof.Machine.execSeizure line s
  | .codeResult line code => Sys2Proof.Machine.execCodeResult line code s
  | .offHookAtStart line => Sys2Proof.Machine.execOffHookAtStart line s
  | .lockoutExpiry line => Sys2Proof.Machine.execLockoutExpiry line s
  | .hangUp line => Sys2Proof.Machine.execHangUp line s
  | .lineLost line => Sys2Proof.Machine.execLineLost line s
  | .lineFault line kind => Sys2Proof.Machine.execLineFault line kind s
  | .answered line => Sys2Proof.Machine.execAnswered line s
  | .callEnded line => Sys2Proof.Machine.execCallEnded line s
  | .aging call => Sys2Proof.Machine.execAging call s
  | .trunkFrameReceived trunk frame => Sys2Proof.Machine.execTrunkFrameReceived trunk frame s
  | .trunkFrameSent trunk => Sys2Proof.Machine.execTrunkFrameSent trunk s
  | .accept trunk call => Sys2Proof.Machine.execAccept trunk call s
  | .decline trunk call => Sys2Proof.Machine.execDecline trunk call s
  | .release trunk call => Sys2Proof.Machine.execRelease trunk call s
  | .hold trunk call => Sys2Proof.Machine.execHold trunk call s
  | .retrieve trunk => Sys2Proof.Machine.execRetrieve trunk s
  | .identRequest trunk call => Sys2Proof.Machine.execIdentRequest trunk call s
  | .callback trunk line => Sys2Proof.Machine.execCallback trunk line s
  | .offerTimerExpiry trunk => Sys2Proof.Machine.execOfferTimerExpiry trunk s
  | .guardTimerExpiry trunk => Sys2Proof.Machine.execGuardTimerExpiry trunk s
  | .holdReminder call => Sys2Proof.Machine.execHoldReminder call s
  | .minimumHoldServed call => Sys2Proof.Machine.execMinimumHoldServed call s
  | .preemptionTimerExpiry call => Sys2Proof.Machine.execPreemptionTimerExpiry call s
  | .ringingTimeout call => Sys2Proof.Machine.execRingingTimeout call s
  | .audioBlockTick fromLines => Sys2Proof.Machine.execAudioBlockTick fromLines s
  | .secondPulse => Sys2Proof.Machine.execSecondPulse s
  | .pulseWatchdogExpiry => Sys2Proof.Machine.execPulseWatchdogExpiry s
  | .storeCompletionDone => Sys2Proof.Machine.execStoreCompletionDone s
  | .storeCompletionFault => Sys2Proof.Machine.execStoreCompletionFault s
  | .frameReceived octets => Sys2Proof.Machine.execFrameReceived octets s
  | .interOctetTimeout => Sys2Proof.Machine.execInterOctetTimeout s
  | .replySent => Sys2Proof.Machine.execReplySent s
  | .unknownRequest code body => Sys2Proof.Machine.execUnknownRequest code body s
  | .status body => Sys2Proof.Machine.execStatus body s
  | .paramSetThresholdSet setB value => Sys2Proof.Machine.execParamSetThresholdSet setB value s
  | .paramSetAgingPeriod value => Sys2Proof.Machine.execParamSetAgingPeriod value s
  | .paramSetEscalationThreshold value => Sys2Proof.Machine.execParamSetEscalationThreshold value s
  | .paramSetOfferTime value => Sys2Proof.Machine.execParamSetOfferTime value s
  | .paramSetGuardTime value => Sys2Proof.Machine.execParamSetGuardTime value s
  | .paramSetMinimumHold value => Sys2Proof.Machine.execParamSetMinimumHold value s
  | .paramSetHoldChain value => Sys2Proof.Machine.execParamSetHoldChain value s
  | .paramSetWarningChain value => Sys2Proof.Machine.execParamSetWarningChain value s
  | .paramSetJournalThreshold value => Sys2Proof.Machine.execParamSetJournalThreshold value s
  | .paramQuery body => Sys2Proof.Machine.execParamQuery body s
  | .lineQuery body => Sys2Proof.Machine.execLineQuery body s
  | .lineSet body => Sys2Proof.Machine.execLineSet body s
  | .lineTest body => Sys2Proof.Machine.execLineTest body s
  | .calSet body => Sys2Proof.Machine.execCalSet body s
  | .dirRead body => Sys2Proof.Machine.execDirRead body s
  | .dirWrite body => Sys2Proof.Machine.execDirWrite body s
  | .dirEnable body => Sys2Proof.Machine.execDirEnable body s
  | .dirCommit body => Sys2Proof.Machine.execDirCommit body s
  | .dirLock body => Sys2Proof.Machine.execDirLock body s
  | .dirErase body => Sys2Proof.Machine.execDirErase body s
  | .callList body => Sys2Proof.Machine.execCallList body s
  | .callQuery body => Sys2Proof.Machine.execCallQuery body s
  | .clearArm body => Sys2Proof.Machine.execClearArm body s
  | .clearCall body => Sys2Proof.Machine.execClearCall body s
  | .trunkSet body => Sys2Proof.Machine.execTrunkSet body s
  | .trunkQuery body => Sys2Proof.Machine.execTrunkQuery body s
  | .promptWrite body => Sys2Proof.Machine.execPromptWrite body s
  | .clipSet body => Sys2Proof.Machine.execClipSet body s
  | .chainSet body => Sys2Proof.Machine.execChainSet body s
  | .journalRead body => Sys2Proof.Machine.execJournalRead body s
  | .timeSet body => Sys2Proof.Machine.execTimeSet body s
  | .timeQuery body => Sys2Proof.Machine.execTimeQuery body s
  | .repeatPrefix body => Sys2Proof.Machine.execRepeatPrefix body s
  | .reset body => Sys2Proof.Machine.execReset body s
  | .trunkResetAfterDrain trunk => Sys2Proof.Machine.execTrunkResetAfterDrain trunk s
  | .reportSent => Sys2Proof.Machine.execReportSent s
  | .startOctetReceived => Sys2Proof.Machine.execStartOctetReceived s
  | .internalSecondBoundary => Sys2Proof.Machine.execInternalSecondBoundary s

end Sys2Proof.Machine
end

