-- ==== Sys2Proof/Safety.lean ====
section
/-! DEFINITION. What a safe run is, in the terms the statements use: the request a command is, when it can be
taken, and the bounds that the manual gives the part's lists, counts and numbers. -/

namespace Sys2Proof

open Machine

/-! ### Requests -/

/-- The frame of a request command: its code and body (section 10.2); none for every other command. -/
def Instr.request : Instr → Option Frame
  | .unknownRequest code body => some ⟨code, body⟩
  | .status body => some ⟨0x01, body⟩
  | .paramSetThresholdSet setB value => some ⟨0x02, (if setB then 2 else 1) :: value⟩
  | .paramSetAgingPeriod value => some ⟨0x02, 3 :: value⟩
  | .paramSetEscalationThreshold value => some ⟨0x02, 4 :: value⟩
  | .paramSetOfferTime value => some ⟨0x02, 5 :: value⟩
  | .paramSetGuardTime value => some ⟨0x02, 6 :: value⟩
  | .paramSetMinimumHold value => some ⟨0x02, 7 :: value⟩
  | .paramSetHoldChain value => some ⟨0x02, 8 :: value⟩
  | .paramSetWarningChain value => some ⟨0x02, 9 :: value⟩
  | .paramSetJournalThreshold value => some ⟨0x02, 10 :: value⟩
  | .paramQuery body => some ⟨0x03, body⟩
  | .lineQuery body => some ⟨0x10, body⟩
  | .lineSet body => some ⟨0x11, body⟩
  | .lineTest body => some ⟨0x12, body⟩
  | .calSet body => some ⟨0x13, body⟩
  | .dirRead body => some ⟨0x14, body⟩
  | .dirWrite body => some ⟨0x15, body⟩
  | .dirEnable body => some ⟨0x16, body⟩
  | .dirCommit body => some ⟨0x17, body⟩
  | .dirLock body => some ⟨0x18, body⟩
  | .dirErase body => some ⟨0x19, body⟩
  | .callList body => some ⟨0x20, body⟩
  | .callQuery body => some ⟨0x21, body⟩
  | .clearArm body => some ⟨0x22, body⟩
  | .clearCall body => some ⟨0x23, body⟩
  | .trunkSet body => some ⟨0x24, body⟩
  | .trunkQuery body => some ⟨0x25, body⟩
  | .promptWrite body => some ⟨0x28, body⟩
  | .clipSet body => some ⟨0x29, body⟩
  | .chainSet body => some ⟨0x2A, body⟩
  | .journalRead body => some ⟨0x30, body⟩
  | .timeSet body => some ⟨0x31, body⟩
  | .timeQuery body => some ⟨0x32, body⟩
  | .repeatPrefix body => some ⟨0x3E, body⟩
  | .reset body => some ⟨0x3F, body⟩
  | .powerOnReset | .powerOnResetRelease | .samplePair _ _ _ | .codeTimerExpiry _ | .lockoutCountExpiry _
  | .ringPhaseChange _ | .seizure _ | .codeResult _ _ | .offHookAtStart _ | .lockoutExpiry _ | .hangUp _
  | .lineLost _ | .lineFault _ _ | .answered _ | .callEnded _ | .aging _ | .trunkFrameReceived _ _
  | .trunkFrameSent _ | .accept _ _ | .decline _ _ | .release _ _ | .hold _ _ | .retrieve _ | .identRequest _ _
  | .callback _ _ | .offerTimerExpiry _ | .guardTimerExpiry _ | .holdReminder _ | .minimumHoldServed _
  | .preemptionTimerExpiry _ | .ringingTimeout _ | .audioBlockTick _ | .secondPulse | .pulseWatchdogExpiry
  | .storeCompletionDone | .storeCompletionFault | .frameReceived _ | .interOctetTimeout | .replySent
  | .trunkResetAfterDrain _ | .reportSent | .startOctetReceived | .internalSecondBoundary => none

namespace Machine

/-- A request of a code and body can be taken now: no power-on reset is held, the NCL is WAITING, and the
frame is the oldest one waiting or the input list is empty (R180). -/
def State.ready (s : State) (code : Octet) (body : List Octet) : Prop :=
  s.held = false ∧ s.canTake ⟨code, body⟩ = true

/-- The state in which a request has been taken and answered, nothing else having changed (R180, R181). -/
def State.answered (s : State) (r : Reply) : State :=
  (s.mapLink Link.serving).mapLink fun k => { k with output := k.output ++ [.reply r] }

/-- Desk request `q` can be taken now on trunk `t`: no reset is held or draining, the link is UP, and `q` is the
oldest request whose message is complete, or none waits (R105, R107, R123). -/
def State.deskReady (s : State) (t : TrunkNo) (q : DeskRequest) : Prop :=
  s.held = false ∧ (s.trunk t).link = .up ∧ (s.trunk t).draining = false ∧
    ∀ q', (s.trunk t).requests.head? = some q' → q' = q

/-- The state in which the oldest desk request waiting on trunk `t`, if there is one, has been taken (R105). -/
def State.tookRequest (s : State) (t : TrunkNo) : State :=
  s.mapTrunk t fun x => { x with requests := x.requests.tail }

/-- Line event `e` can be taken now: no power-on reset is held, and `e` is the oldest event of its line on its
way, or none of its line is (R27). -/
def State.eventReady (s : State) (e : LineEvent) : Prop :=
  s.held = false ∧ ∀ e', s.oldestEvent e.line = some e' → e' = e

/-- The state in which line event `e`, if it was on its way, has been taken (R27). -/
def State.tookEvent (s : State) (e : LineEvent) : State := { s with events := s.events.erase e }

/-- The live call `c` stands in place `p`, and is the one found by its reference and by its line (R72). -/
def State.callAt (s : State) (p : LineNo) (c : Call) : Prop :=
  s.cc.calls.get p = some c ∧ s.placeOfRef c.ref = some p ∧ s.placeOfLine c.line = some p

/-- The state in which a repeatable request has been taken and its first run answered with result `res` for
the line octet `line`, the repetition prepared from the repeat count, nothing else having changed (R184,
R185). -/
def State.firstRun (s : State) (code line : Octet) (body : List Octet) (res : Result) (v : ReplyValues) : State :=
  (s.mapLink Link.serving).mapLink fun k =>
    { k with
      repetition := repetitionOf code body s.link.repeatCount
      output := k.output ++ [.reply ⟨code, res, some (some line), v⟩] }

/-- The result of a first run carried out for line `l`: END OF LINES where line 47 leaves runs owed (R185). -/
def State.firstResult (s : State) (l : LineNo) : Result :=
  if l.val = 47 ∧ 0 < s.link.repeatCount then .endOfLines else .done

/-- The octet of a line number (R191). -/
def lineOctet (l : LineNo) : Octet := BitVec.ofNat 8 l.val

/-- The eight limits of a threshold set pass the checks of R12. -/
def Thresholds.accepted (t : Thresholds) : Prop :=
  (∀ x ∈ [t.foreignMax, t.openMin, t.openMax, t.presentMin, t.presentMax, t.loopMin, t.loopMax, t.shortMin],
      -1000 ≤ x ∧ x ≤ 1000) ∧
    t.foreignMax < t.openMin ∧ t.openMin ≤ t.openMax ∧ t.openMax < t.presentMin ∧
    t.presentMin ≤ t.presentMax ∧ t.presentMax < t.loopMin ∧ t.loopMin ≤ t.loopMax ∧ t.loopMax < t.shortMin

/-- A calibration in the ranges of R6. -/
def Calibration.inRange (c : Calibration) : Prop :=
  1024 ≤ c.gain ∧ c.gain ≤ 4095 ∧ -200 ≤ c.offset ∧ c.offset ≤ 200

/-- The four octets that send calibration `c`: its gain and its offset, each high octet first, the offset in two's
complement, both in the ranges of R53 and R56 (R191). -/
def Calibration.coded (c : Calibration) (g1 g0 o1 o0 : Octet) : Prop :=
  c.inRange ∧ be16 g1 g0 = c.gain ∧ (be16 o1 o0 : Int) = c.offset % 65536

/-- A character of a post number: A–Z, 0–9 or hyphen (R48, section 10.1). -/
def postCharacter (o : Octet) : Prop :=
  0x41 ≤ o.toNat ∧ o.toNat ≤ 0x5A ∨ 0x30 ≤ o.toNat ∧ o.toNat ≤ 0x39 ∨ o.toNat = 0x2D

/-- The fields of a NAMED entry in the ranges of R48: a post number of 1 to 8 characters, an expected code
below 9000 or ABSENT, a chainage, and a bore 1–4 in the TUNNEL zone only. -/
def NamedFields.inRange (f : NamedFields) : Prop :=
  f.naming.post ≠ [] ∧ f.naming.post.length ≤ 8 ∧ (∀ o ∈ f.naming.post, postCharacter o) ∧
    (∀ n, f.expected = some n → n ≤ 8999) ∧ f.naming.chainage ≤ 999999 ∧
    (f.naming.zone = .tunnel → ∃ b, f.naming.bore = some b ∧ 1 ≤ b ∧ b ≤ 4) ∧
    (f.naming.zone ≠ .tunnel → f.naming.bore = none)

/-- A directory entry with every field in the ranges of R48. -/
def Entry.inRange (e : Entry) : Prop :=
  (∀ f, e.named = some f → f.inRange) ∧ e.loopCal.inRange ∧ e.groundCal.inRange

/-- Octets 1–16 of the entry image `image` send the naming fields `f` of a NAMED entry in the ranges of R53: the post
number left-justified and padded with 0x00, the expected code with 0xFFFF for ABSENT, the carriageway, the chainage,
the zone, and the bore with 0 for none (R53, R191, section 10.2). -/
def NamedFields.coded (f : NamedFields) (image : List Octet) : Prop :=
  f.inRange ∧ (image.drop 1).take 8 = f.naming.post ++ List.replicate (8 - f.naming.post.length) 0 ∧
    be16 (image.getD 9 0) (image.getD 10 0) = f.expected.getD 65535 ∧
    ((image.getD 11 0).toNat, f.naming.carriageway) ∈ [(0, Carriageway.a), (1, .b), (2, .link)] ∧
    be24 (image.getD 12 0) (image.getD 13 0) (image.getD 14 0) = f.naming.chainage ∧
    ((image.getD 15 0).toNat, f.naming.zone) ∈ [(0, Zone.tunnel), (1, .structure_), (2, .open_), (3, .depot)] ∧
    (image.getD 16 0).toNat = f.naming.bore.getD 0

/-- The 27 octets `image` send entry `e`, apart from its service field, with every field in the ranges of R53: the
entry state, the naming fields, which are not looked at in an EMPTY image, the waiting chain, the threshold set and the
loop and ground calibrations (R53, section 10.2). -/
def Entry.coded (e : Entry) (image : List Octet) : Prop :=
  (match e.named with
    | none => image.getD 0 0 = 0
    | some f => image.getD 0 0 = 1 ∧ f.coded image) ∧
    (image.getD 17 0).toNat = e.waitingChain.val ∧
    ((image.getD 18 0).toNat, e.thresholdSet) ∈ [(0, SetChoice.a), (1, .b)] ∧
    e.loopCal.coded (image.getD 19 0) (image.getD 20 0) (image.getD 21 0) (image.getD 22 0) ∧
    e.groundCal.coded (image.getD 23 0) (image.getD 24 0) (image.getD 25 0) (image.getD 26 0)

/-! ### What a live call keeps (R70, R71) -/

/-- What of an identity never changes: the snapshot, the kind and the base class; the effective class may. -/
def CallIdentity.fixed (i : CallIdentity) : Snapshot × CallKind × Nat := (i.snapshot, i.kind, i.baseClass)

/-- `b` is the same call as `a`: reference, line, origination sequence and origination time, and, once it is
composed, the identity snapshot with kind and base class. -/
def Call.sameCall (a b : Call) : Prop :=
  b.ref = a.ref ∧ b.line = a.line ∧ b.sequence = a.sequence ∧ b.origin = a.origin ∧
    b.createdAt = a.createdAt ∧
    (a.state ≠ .originating → b.identity.map CallIdentity.fixed = a.identity.map CallIdentity.fixed)

/-! ### The end of a call (R90–R92) -/

/-- The message that the end of call `c` with `cause` makes for its desk (R91). -/
def Call.endMessage (c : Call) (cause : Cause) : Option DeskMessage :=
  match c.state with
  | .offered => some (.withdraw c.ref cause)
  | .held => some (.heldCleared c.ref cause)
  | .connected => if cause = .deskRelease then none else some (.clear c.ref cause)
  | .preempting => if cause = .deskRelease then none else some (.clear c.ref cause)
  | .ringing => if cause = .deskRelease then none else some (.clear c.ref cause)
  | .originating => none
  | .waiting => none

/-- What the end of call `c` with `cause` leaves of its trunk `u` (R90, R91): a trunk that has it as its
current call enters GUARD with the guard time in force, a trunk that holds it loses it from its stack, and
the desk message is on a transmit list that has room. -/
def State.leftTrunk (s t : State) (c : Call) (cause : Cause) (u : TrunkNo) : Prop :=
  (c.state ≠ .held → (s.trunk u).current = some c.ref →
    (t.trunk u).state = .guard_ ∧ (t.trunk u).current = none ∧ (t.trunk u).guardTimer = some s.ti.guardTime) ∧
  (c.state = .held → (t.trunk u).stack = (s.trunk u).stack.erase c.ref) ∧
  ((s.trunk u).link = .up → (s.trunk u).transmit.length < 8 → ∀ m, c.endMessage cause = some m →
    m ∈ (t.trunk u).transmit)

/-- Whether the next record handed to the journal makes a JOURNAL LEVEL report (R175). -/
def Journal.levelDue (j : Journal) : Bool :=
  !j.exhausted && j.records.length < Config.journalCapacity && j.records.length + 1 = j.threshold

/-- Call `c` of place `p` in `s` has ended with `cause` in `t` (R90): its place is free, the queue has lost a
WAITING call and kept its order, its channel is INACTIVE, its trunk has let it go, CALL ENDED is on its way to its
line, the newest record is its CALL END record unless the journal is exhausted, and its CALL EVENT report is on
the output list, or lost if that stands at 16 reports (R92, R181); every other call is still there, and the lines
and their events, the measurement, the directory, the time base and the AP's tables are as they were. -/
def State.endedIn (s t : State) (p : LineNo) (c : Call) (cause : Cause) : Prop :=
  t.cc.calls.get p = none ∧
    (c.state = .waiting → t.cc.queue.Sublist (s.cc.queue.erase c.ref)) ∧
    (c.state ≠ .waiting → t.cc.queue = s.cc.queue) ∧
    t.ap.players.get p = .inactive ∧ t.callEnds = s.callEnds ++ [c.line] ∧
    (∀ u, c.trunk = some u → s.leftTrunk t c cause u) ∧
    (s.journal.exhausted = false →
      t.journal.nextSequence = s.journal.nextSequence + 1 ∧
      t.journal.records = Journal.append s.journal.records
        ⟨s.journal.nextSequence, s.stamp, .callEnd (s.callEndOf c cause)⟩) ∧
    (s.journal.exhausted = true → t.journal = s.journal) ∧
    (s.link.reports + (if s.journal.levelDue then 1 else 0) < 16 →
      .report (.callEvent c.ref c.line (c.identity.map CallIdentity.kind) c.state cause s.journal.nextNumber) ∈
        t.link.output) ∧
    (16 ≤ s.link.reports + (if s.journal.levelDue then 1 else 0) → t.link.reportLoss = true) ∧
    (∀ q a, q ≠ p → s.cc.calls.get q = some a → ∃ b, t.cc.calls.get q = some b ∧ a.sameCall b) ∧
    t.lines = s.lines ∧ t.events = s.events ∧ t.lmu = s.lmu ∧ t.dir = s.dir ∧ t.time = s.time ∧
    t.ap = { s.ap with players := t.ap.players }

/-! ### Where calls stand (R79, R97, R124) -/

/-- The waiting queue holds exactly the WAITING calls, each once, in key order (R79). -/
def State.queueExact (s : State) : Prop :=
  s.cc.queue.Nodup ∧
    (∀ r, r ∈ s.cc.queue ↔ ∃ p c, s.cc.calls.get p = some c ∧ c.ref = r ∧ c.state = .waiting) ∧
    s.cc.queue.Pairwise fun r r' =>
      ∀ c d, s.callOfRef r = some c → s.callOfRef r' = some d → d.before c = false

/-- A live call stands where its state says: ORIGINATING and WAITING on no trunk, OFFERED as the current call of
an OFFERING trunk, CONNECTED, PREEMPTING and RINGING as that of a CONNECTED one, HELD on its trunk's stack (R71,
R96, R97, R124). -/
def State.callPlaced (s : State) (c : Call) : Prop :=
  match c.state with
  | .originating | .waiting => c.trunk = none
  | .offered => ∃ u, c.trunk = some u ∧ (s.trunk u).state = .offering ∧ (s.trunk u).current = some c.ref
  | .connected | .preempting | .ringing =>
    ∃ u, c.trunk = some u ∧ (s.trunk u).state = .connected ∧ (s.trunk u).current = some c.ref
  | .held => ∃ u, c.trunk = some u ∧ c.ref ∈ (s.trunk u).stack

/-- Trunk `u` is in the state that its service and link give it, has a current call in OFFERING and CONNECTED
only, each timer in its own state only, and names live calls of its own only; none while it is being reset, and
none on its stack with the link DOWN or out of service (R96, R97, R100, R103, R123, R124). -/
def State.trunkPlaced (s : State) (u : TrunkNo) : Prop :=
  ((s.trunk u).service = .outOfService ↔ (s.trunk u).state = .outOfService) ∧
    ((s.trunk u).service = .inService ∧ (s.trunk u).link = .down ↔ (s.trunk u).state = .linkDown) ∧
    ((s.trunk u).state = .offering ∨ (s.trunk u).state = .connected ↔ (s.trunk u).current ≠ none) ∧
    ((s.trunk u).state = .offering ↔ (s.trunk u).offerTimer ≠ none) ∧
    ((s.trunk u).state = .guard_ ↔ (s.trunk u).guardTimer ≠ none) ∧
    ((s.trunk u).state = .idle ↔ (s.trunk u).idleSince ≠ none) ∧
    (∀ r, (s.trunk u).current = some r →
      ∃ p c, s.cc.calls.get p = some c ∧ c.ref = r ∧ c.trunk = some u ∧ c.state ≠ .held) ∧
    (∀ r ∈ (s.trunk u).stack,
      ∃ p c, s.cc.calls.get p = some c ∧ c.ref = r ∧ c.trunk = some u ∧ c.state = .held) ∧
    (s.trunk u).stack.Nodup ∧
    ((s.trunk u).link = .down ∨ (s.trunk u).state = .outOfService → (s.trunk u).stack = []) ∧
    ((s.trunk u).draining = true → (s.trunk u).current = none ∧ (s.trunk u).stack = [])

/-- The player channel of a free place is INACTIVE; that of a live call is ACTIVE exactly in WAITING, OFFERED, HELD and
PREEMPTING, and in WAITING and OFFERED it has the waiting chain of the call's snapshot, which every call but an
ORIGINATING one has (R71, R76, R153, R154). -/
def State.channelsPlaced (s : State) : Prop :=
  (∀ p, s.cc.calls.get p = none → s.ap.players.get p = .inactive) ∧
    ∀ p c, s.cc.calls.get p = some c →
      (c.state ≠ .originating → c.identity ≠ none) ∧
      (s.ap.players.get p ≠ .inactive ↔
        c.state = .waiting ∨ c.state = .offered ∨ c.state = .held ∨ c.state = .preempting) ∧
      ∀ i, c.state = .waiting ∨ c.state = .offered → c.identity = some i →
        ∃ at_, s.ap.players.get p = .active i.snapshot.waitingChain at_

/-- What a desk request, or the end of an offer, on trunk `u` leaves alone when an allocation pass and an examination
follow it: every block but the call table, the queue, the player channels, the trunk records with the no-trunk flag,
and the output list; no call ends and none is created; another trunk keeps its service, group, link, stack, requests
and counts, and its list of messages from the start on. -/
def State.deskFramed (s t : State) (u : TrunkNo) : Prop :=
  t = { s with
    link := { s.link with output := t.link.output, reportLoss := t.link.reportLoss }
    cc := { s.cc with calls := t.cc.calls, queue := t.cc.queue }
    ti := { s.ti with trunks := t.ti.trunks, noTrunk := t.ti.noTrunk }
    ap := { s.ap with players := t.ap.players } } ∧
    (∀ q, s.cc.calls.get q = none → t.cc.calls.get q = none ∧ t.ap.players.get q = s.ap.players.get q) ∧
    (∀ q a, s.cc.calls.get q = some a → ∃ b, t.cc.calls.get q = some b ∧ a.sameCall b) ∧
    (∀ w, w ≠ u →
      t.trunk w = { s.trunk w with
        state := (t.trunk w).state, current := (t.trunk w).current, offerTimer := (t.trunk w).offerTimer
        guardTimer := (t.trunk w).guardTimer, idleSince := (t.trunk w).idleSince
        transmit := (t.trunk w).transmit, overruns := (t.trunk w).overruns } ∧
      ∃ more, (t.trunk w).transmit = (s.trunk w).transmit ++ more) ∧
    t.trunk u = { s.trunk u with
      state := (t.trunk u).state, current := (t.trunk u).current, offerTimer := (t.trunk u).offerTimer
      guardTimer := (t.trunk u).guardTimer, idleSince := (t.trunk u).idleSince, stack := (t.trunk u).stack
      requests := (t.trunk u).requests, transmit := (t.trunk u).transmit, overruns := (t.trunk u).overruns }

/-! ### Allocation and preemption (R84–R86, R140) -/

/-- How long a trunk has been IDLE (R84, R97). -/
def State.idleAge (s : State) (u : TrunkNo) : Nat := (((s.trunk u).idleSince).map s.age).getD 0

/-- Trunk `u` is the longest idle of the eligible-idle trunks of group `g`, the lowest numbered of those idle as
long (R84). -/
def State.firstIdle (s : State) (g : TrunkGroup) (u : TrunkNo) : Prop :=
  (s.trunk u).group = g ∧ (s.trunk u).eligible = true ∧
    ∀ v, v ≠ u → (s.trunk v).group = g → (s.trunk v).eligible = true →
      s.idleAge v < s.idleAge u ∨ s.idleAge v = s.idleAge u ∧ u.val < v.val

/-- A queued call qualifies for an overflow trunk: EMERGENCY or CALLBACK, and offered as often as the escalation
threshold says, or no primary trunk in service with its link UP (R86). -/
def State.mayOverflow (s : State) (c : Call) : Prop :=
  (c.isKind .emergency = true ∨ c.isKind .callback = true) ∧
    ((∀ v, (s.trunk v).group = .primary → (s.trunk v).reachable = false) ∨ s.cc.escalation ≤ c.offerCount)

/-- Call `c` of place `p` with identity `i` in `s` has been offered on trunk `u` in `t`: out of the queue, OFFERED,
its channel going on; the trunk OFFERING with the offer time in force, and OFFER on its transmit list or, if that
is full, counted as an overrun (R87, R106, R108). -/
def State.offeredOn (s t : State) (u : TrunkNo) (p : LineNo) (c : Call) (i : CallIdentity) : Prop :=
  t.trunk u =
      { s.trunk u with
        state := .offering, current := some c.ref, offerTimer := some (s.ti.offerTime * 1000)
        guardTimer := none, idleSince := none
        transmit :=
          if (s.trunk u).transmit.length < 8 then
            (s.trunk u).transmit ++
              [.offer c.ref i.effectiveClass (min (s.age c.createdAt / 1000) 65535) ⟨c.ref, i.snapshot⟩]
          else (s.trunk u).transmit
        overruns :=
          if (s.trunk u).transmit.length < 8 then (s.trunk u).overruns
          else min ((s.trunk u).overruns + 1) 255 } ∧
    t.cc.calls.get p = some { c with
      state := .offered, trunk := some u, lastTrunk := some u, queueEntry := none, agingMark := none } ∧
    c.ref ∉ t.cc.queue ∧ t.ap.players.get p = s.ap.players.get p

/-- Call `c` of place `p` is one by which condition 3 of R140 holds: MAINTENANCE, CONNECTED, its connected mark the
minimum hold or more in the past, and the current call of a CONNECTED primary trunk. -/
def State.preemptable (s : State) (p : LineNo) (c : Call) : Prop :=
  s.cc.calls.get p = some c ∧ s.placeOfRef c.ref = some p ∧ c.isKind .maintenance = true ∧
    c.state = .connected ∧ (∃ m, c.connectedMark = some m ∧ s.cc.minimumHold * 1000 ≤ s.age m) ∧
    ∃ v, (s.trunk v).group = .primary ∧ (s.trunk v).state = .connected ∧ (s.trunk v).current = some c.ref

/-- Conditions 1, 2 and 4 of R140: an EMERGENCY or CALLBACK call is queued, no primary trunk is eligible-idle, and
no call is PREEMPTING. -/
def State.preemptionCalledFor (s : State) : Prop :=
  (∃ r c, r ∈ s.cc.queue ∧ s.callOfRef r = some c ∧ (c.isKind .emergency = true ∨ c.isKind .callback = true)) ∧
    (∀ v, (s.trunk v).group = .primary → (s.trunk v).eligible = false) ∧
    ∀ p c, s.cc.calls.get p = some c → c.state ≠ .preempting

/-- How long a CONNECTED call has been connected since its latest entry (R139). -/
def State.connectedAge (s : State) (c : Call) : Nat := (c.connectedMark.map s.age).getD 0

/-! ### The call ends of a soft reset (R93, R123, R140) -/

/-- The records that a soft reset hands to the journal where it ends `calls` in that order: a CALL END of each with cause
RESET, then RESET SOFT, consecutively numbered (R92, R93, R176). -/
def State.resetRecords (s : State) (calls : List Call) : List Record :=
  (calls.zipIdx.map fun e => ⟨s.journal.nextSequence + e.2, s.stamp, .callEnd (s.callEndOf e.1 .reset)⟩) ++
    [⟨s.journal.nextSequence + calls.length, s.stamp, .reset .soft⟩]

/-- Whether a live call is one of condition 3 of R140 by its record and its trunk: MAINTENANCE, CONNECTED on a
primary trunk, its minimum hold served. -/
def State.clearable (s : State) (c : Call) : Bool :=
  c.isKind .maintenance && c.state = .connected && s.served c && c.trunk.any fun v => (s.trunk v).group = .primary

/-- Whether a live call meets condition 1 of R140: WAITING, of kind EMERGENCY or CALLBACK. -/
def Call.callsForTrunk (c : Call) : Bool := c.state = .waiting && (c.isKind .emergency || c.isKind .callback)

/-- The call that becomes PREEMPTING by the examination after the end of `c` in a soft reset, `rest` being the calls
left in ascending order of origination sequence. There is an examination after the end of a WAITING call, whose
removal brings a pass, and after that of a PREEMPTING one. It chooses the earliest connected mark, and of equal ones
the lowest sequence (R84, R140, R143). -/
def State.warnedAfter (s : State) (c : Call) (rest : List Call) : Option Call :=
  if (c.state = .waiting ∨ c.state = .preempting) ∧ rest.any Call.callsForTrunk = true ∧
      ∀ d ∈ rest, d.state ≠ .preempting then
    rest.find? fun d =>
      s.clearable d && rest.all fun e => !s.clearable e || s.connectedAge e ≤ s.connectedAge d
  else none

/-- A call as its end in a soft reset finds it: PREEMPTING if it is the one, `w`, warned last. -/
def Call.asWarned (c : Call) (w : Option CallRef) : Call := if w = some c.ref then { c with state := .preempting } else c

/-- What a soft reset comes to where it ends `calls` in that order: each call as its end finds it, with the call that
becomes PREEMPTING right after that end, if one does (R93, R140, R141, R143). The calls before left `w` warned last. -/
def State.resetMoments (s : State) : Option CallRef → List Call → List (Call × Option Call)
  | _, [] => []
  | w, c :: rest =>
    let warned := s.warnedAfter (c.asWarned w) (rest.map (Call.asWarned · w))
    (c.asWarned w, warned) :: s.resetMoments (if warned = none then w else warned.map Call.ref) rest

/-- The messages of a soft reset for the desk of trunk `u`, in the order made: of each end its CLEAR, WITHDRAW or HELD
CLEARED, and PREEMPT WARN where a preemption starts after it (R91, R93, R141). -/
def State.resetMessages (s : State) (calls : List Call) (u : TrunkNo) : List DeskMessage :=
  (s.resetMoments none calls).flatMap fun e =>
    (if e.1.trunk = some u then (e.1.endMessage .reset).toList else []) ++
      (e.2.toList.filter fun d => d.trunk = some u).map fun d => .preemptWarn d.ref 10

/-- The CALL EVENT reports of the ends, each with the state its end found and the number of its record, 0 where the
journal is exhausted (R92, R93, R171). -/
def State.resetEvents (s : State) (calls : List Call) : List OutputItem :=
  ((s.resetMoments none calls).map Prod.fst).zipIdx.map fun e =>
    .report (.callEvent e.1.ref e.1.line (e.1.identity.map CallIdentity.kind) e.1.state .reset
      (if s.journal.nextSequence + e.2 ≤ 4294967295 then s.journal.nextSequence + e.2 else 0))

/-! ### Service of a trunk (R103) -/

/-- The state that the table of R103 gives a trunk for a requested service; none where it says no change. -/
def Trunk.tableState (x : Trunk) : TrunkService → Option TrunkState
  | .outOfService => if x.state = .outOfService then none else some .outOfService
  | .inService =>
    if x.state = .outOfService then some (if x.link = .up then .idle else .linkDown) else none

/-! ### Chains and received audio (R151, R159, R161) -/

/-- The four octets that send a chain step in the ranges of R151: clip, mode, count and gap, the count free where the
mode is not TIMES (R151, R191, section 10.2). -/
def ChainStep.coded (step : ChainStep) (clip mode count gap : Octet) : Prop :=
  clip.toNat = step.clip.val ∧ gap.toNat = step.gap ∧ step.gap ≤ 50 ∧
    match step.mode with
    | .once => mode = 0
    | .times n => mode = 1 ∧ count.toNat = n ∧ 2 ≤ n ∧ n ≤ 15
    | .loop => mode = 2

/-- The octets `os` of a CHAIN SET send the chain `steps`: at most six steps, four octets each, LOOP standing last
only (R151). -/
def chainCoded (os : List Octet) (steps : List ChainStep) : Prop :=
  steps.length ≤ 6 ∧ os.length = 4 * steps.length ∧
    ∀ i step, steps[i]? = some step →
      step.coded (os.getD (4 * i) 0) (os.getD (4 * i + 1) 0) (os.getD (4 * i + 2) 0) (os.getD (4 * i + 3) 0) ∧
        (step.mode = .loop → i + 1 = steps.length)

/-- Block `x` of a valid frame has joined the receive buffer of trunk `u`, the oldest of four making room with a slip;
the other buffers and slip counts stand (R98, R159, R161). -/
def State.audioHanded (s t : State) (u : TrunkNo) (x : Block) : Prop :=
  let b := s.ap.receive.get u
  t.ap.send = s.ap.send ∧ t.ap.receive = s.ap.receive.set u (t.ap.receive.get u) ∧
    t.ap.slips = s.ap.slips.set u (t.ap.slips.get u) ∧
    (b.blocks.length < 4 →
      t.ap.receive.get u = { b with blocks := b.blocks ++ [x] } ∧ t.ap.slips.get u = s.ap.slips.get u) ∧
    (4 ≤ b.blocks.length →
      t.ap.receive.get u = { b with blocks := b.blocks.tail ++ [x] } ∧
        t.ap.slips.get u = min (s.ap.slips.get u + 1) 65535)

/-! ### Bounds -/

/-- The prompt store is in canonical form, and no entry lies past block 4095 (R148). -/
def State.promptSound (s : State) : Prop :=
  Memory.wf s.ap.prompt = true ∧ ∀ x ∈ s.ap.prompt, x.1 < 160 * 4096

/-- At most 256 records, numbered by consecutive numbers that end just below the sequence counter (R171). -/
def Journal.sound (j : Journal) : Prop :=
  j.records.length ≤ Config.journalCapacity ∧ j.records.length < j.nextSequence ∧
    j.nextSequence ≤ Config.lastSequenceNumber + 1 ∧
    j.records.map Record.sequence = List.range' (j.nextSequence - j.records.length) j.records.length

/-- The lists and counts of section 9.2 in their ranges; in STARTING nothing is received or waiting (R178 to
R181, R183, R188, R189). -/
def Link.sound (k : Link) : Prop :=
  k.inputs.length ≤ Config.inputFrames ∧ k.reports ≤ Config.outputReports ∧ k.repeatCount ≤ 47 ∧
    (∀ rep, k.repetition = some rep → rep.remaining ≤ 47) ∧
    (k.service = .starting → k.receiver = .hunting ∧ k.inputs = [] ∧ k.repeatCount = 0 ∧ k.armed = none) ∧
    (k.heldReady ≠ none → k.service = .starting)

/-- The NCL is within its bounds, and while a power-on reset is held it stands at its reset values (R189). -/
def State.linkSound (s : State) : Prop := (s.held = true → s.link = Link.initial) ∧ s.link.sound

/-- The millisecond phase and the pulse runs in their ranges (R164). -/
def State.timeSound (s : State) : Prop := s.time.phase ≤ 999 ∧ s.time.goodRun ≤ 2 ∧ s.time.badRun ≤ 3

/-- A trunk's lists and counts in their ranges; with the link DOWN nothing is to be sent and no call is
held, and out of service no call is held (R96, R100, R103, R106, R124). -/
def Trunk.sound (x : Trunk) : Prop :=
  x.transmit.length ≤ Config.transmitMessages ∧ x.stack.length ≤ Config.holdStackDepth ∧ x.badRun ≤ 3 ∧
    x.goodRun ≤ 10 ∧ x.frameErrors ≤ 65535 ∧ x.messageErrors ≤ 255 ∧ x.overruns ≤ 255 ∧
    (x.link = .down → x.transmit = [] ∧ x.stack = []) ∧ (x.state = .outOfService → x.stack = [])

/-- Every trunk within its bounds, and every elastic buffer with at most four blocks (R159). -/
def State.trunksSound (s : State) : Prop :=
  (∀ t, (s.trunk t).sound) ∧
    ∀ t, (s.ap.receive.get t).blocks.length ≤ Config.bufferBlocks ∧
      (s.ap.send.get t).blocks.length ≤ Config.bufferBlocks

/-- A line record's counts in the ranges of section 2.1; a line that collects holds fewer than four digits and
fewer than eleven pulses (R30, R31). -/
def LineRecord.sound (x : LineRecord) : Prop :=
  x.runLength ≤ 65535 ∧ x.pendingBreak ≤ 2 ∧ x.loopCount ≤ 65535 ∧ x.dwellCount ≤ 250 ∧ x.clearCount ≤ 250 ∧
    x.digits.length ≤ 4 ∧ x.pulses ≤ 11 ∧ x.codeTimer ≤ 320 ∧ x.lockoutCount ≤ 3750 ∧ x.ringPosition ≤ 250 ∧
    (x.state = .collecting → x.digits.length ≤ 3 ∧ x.pulses ≤ 10)

/-- Whether a corrected value lies in the range of R6. -/
def inCorrectedRange (v : Option Int) : Prop := ∀ x, v = some x → -1000 ≤ x ∧ x ≤ 1000

/-- Whether a value lies in the range of raw samples, which stage A and stage B values keep (R1, R3, R4). -/
def inRawRange (x : Int) : Prop := -2048 ≤ x ∧ x ≤ 2047

/-- Whether the sum of `n` raw samples is one that such samples can have (R3). -/
def inSumRange (n : Nat) (x : Int) : Prop := -2048 * (n : Int) ≤ x ∧ x ≤ 2047 * (n : Int)

/-- A measurement record in the ranges of section 1.2: the group sums those of as many samples as the group
position counts, at most four stage A values in each window, stage A and stage B values in the raw range, the
corrected values in theirs, and the leak count (R3, R4, R6, R15). -/
def Measurement.sound (m : Measurement) : Prop :=
  inSumRange m.groupPosition.val m.loopSum ∧ inSumRange m.groupPosition.val m.groundSum ∧
    m.loopWindow.length ≤ 4 ∧ (∀ a ∈ m.loopWindow, inRawRange a) ∧
    m.groundWindow.length ≤ 4 ∧ (∀ a ∈ m.groundWindow, inRawRange a) ∧
    (∀ b, m.loopB = some b → inRawRange b) ∧ (∀ b, m.groundB = some b → inRawRange b) ∧
    inCorrectedRange m.loopC ∧ inCorrectedRange m.groundC ∧ m.leakCount ≤ 250

/-- Every line and every measurement record within its ranges. -/
def State.linesSound (s : State) : Prop :=
  ∀ l, (s.lines.get l).sound ∧ (s.lmu.records.get l).sound

/-- References are never 0, and no two places of the call table hold one reference or one line (R72, R73). -/
def State.callsSound (s : State) : Prop :=
  s.cc.nextRef ≠ 0 ∧
    (∀ p c, s.cc.calls.get p = some c → c.ref ≠ 0) ∧
    ∀ p q c d, s.cc.calls.get p = some c → s.cc.calls.get q = some d →
      c.ref = d.ref ∨ c.line = d.line → p = q

/-- Every live call stands where its state says, the waiting queue is exact and in key order, and the trunk records
agree with the call table (R72, R73, R79, R97, R124). -/
def State.callsPlaced (s : State) : Prop :=
  s.callsSound ∧ s.queueExact ∧ (∀ p c, s.cc.calls.get p = some c → s.callPlaced c) ∧ ∀ u, s.trunkPlaced u

end Machine

end Sys2Proof
end

