-- ==== Sys2Proof/Certificates/Slice0/Obligations.lean ====
section
/-! DEFINITION. The statements for the provers, from the numbered rules of spec/. Each says, where a command
completes, the next state or what that state holds; an equation leaves everything it does not name as it was. -/

open Sys2Proof Sys2Proof.Machine

/-! ### The machine as a whole -/

/-- A step with a command at the front of the queue is that command on the queue's rest. -/
def Obligations.StepTakesFrontCommand : Prop :=
  ∀ (c : Instr) (rest : List Instr) (s : State),
    step { s with pending := c :: rest } = exec c { s with pending := rest }

/-- THE MODEL'S CHOICE (log entry 1). With no command waiting and no power-on reset held, one millisecond
passes: the CC's running time is one up, the millisecond phase is one up or, at 999, takes the second boundary (R71,
R164); each running offer, guard, preemption and ringing timer and the time left of the store operation in flight are
one lower, a timer at its end staying at 0 (R58, R108, R115, R136, R141); the due time of each hold reminder is one
nearer, or one further past (R131); the pulse watchdog is one up, where there is one (R168), and so is the gap since the
latest octet of a frame being received (R178). What does not run stays as it is, and nothing else changes. With a
power-on reset held, nothing changes at all (log entries 1 and 6). -/
def Obligations.EmptyQueueLetsAMillisecondPass : Prop :=
  ∀ s : State, s.pending = [] →
    (s.held = true → step s = .next s) ∧
    (s.held = false → ∃ t, step s = .next t ∧
      t = { s with
        dir := { s.dir with operation := t.dir.operation }
        cc := { s.cc with now := s.cc.now + 1, calls := t.cc.calls }
        ti := { s.ti with trunks := t.ti.trunks }
        time := { s.time with
          phase := if s.time.phase < 999 then s.time.phase + 1 else 0
          seconds := if s.time.phase < 999 then s.time.seconds else s.time.seconds + 1
          watchdog := s.time.watchdog.map (· + 1) }
        link := { s.link with receiver := t.link.receiver } } ∧
      (∀ u, t.trunk u =
        { s.trunk u with
          offerTimer := (s.trunk u).offerTimer.map (· - 1), guardTimer := (s.trunk u).guardTimer.map (· - 1) }) ∧
      (∀ p, s.cc.calls.get p = none → t.cc.calls.get p = none) ∧
      (∀ p c, s.cc.calls.get p = some c → t.cc.calls.get p = some
        { c with
          preemptionTimer := c.preemptionTimer.map (· - 1), ringingTimer := c.ringingTimer.map (· - 1)
          reminderIn := c.reminderIn.map (· - 1) }) ∧
      (s.dir.operation = none → t.dir.operation = none) ∧
      (∀ op, s.dir.operation = some op → t.dir.operation = some { op with remaining := op.remaining - 1 }) ∧
      (s.link.receiver = .hunting → t.link.receiver = .hunting) ∧
      (∀ os gap, s.link.receiver = .receiving os gap → t.link.receiver = .receiving os (gap + 1)))

/-- While a power-on reset is held, no command but those of the reset itself changes anything (R22, R46, R122,
R162, R170, R189). THE MODEL'S READING for the part as a whole (DEDUCED, log entry 6): the rules say it block by
block, for sampling, frames, audio, pulses and octets. -/
def Obligations.HeldResetFreezesPart : Prop :=
  ∀ (c : Instr) (s : State), s.held = true → c ≠ .powerOnReset → c ≠ .powerOnResetRelease →
    exec c s = .next s

/-- The state right after reset meets every bound, with every call, channel and trunk in its place, and it is that of a
factory part after a power-on reset and its release (R46, R49, R65, R176, R189). -/
def Obligations.ResetStateIsSound : Prop :=
  (State.reset.promptSound ∧ State.reset.journal.sound ∧ State.reset.linkSound ∧ State.reset.timeSound ∧
     State.reset.trunksSound ∧ State.reset.linesSound ∧ State.reset.callsSound ∧ State.reset.callsPlaced ∧
     State.reset.channelsPlaced) ∧
  (exec .powerOnResetRelease (State.heldInReset (Table.fill 3 StoreArea.factory)) = .next State.reset)

/-- Every step keeps the prompt store canonical and within its 4096 blocks (R148), the millisecond phase at
0–999 and the pulse runs in their ranges (R164, R167), and the journal at 256 records at most, consecutively
numbered (R171, R173). -/
def Obligations.StepKeepsPromptStoreTimeBaseAndJournal : Prop :=
  (∀ s t : State, s.promptSound → step s = .next t → t.promptSound) ∧
  (∀ s t : State, s.timeSound → step s = .next t → t.timeSound) ∧
  (∀ s t : State, s.journal.sound → step s = .next t → t.journal.sound)

/-- Every step keeps the NCL's lists and counts in their ranges (R178–R181, R183, R188, R189). -/
def Obligations.StepKeepsLinkBounds : Prop :=
  ∀ s t : State, s.linkSound → step s = .next t → t.linkSound

/-- Every step keeps each trunk's lists, stack and counts and each elastic buffer within bounds (R96, R106,
R124, R159). -/
def Obligations.StepKeepsTrunkBounds : Prop :=
  ∀ s t : State, s.trunksSound → step s = .next t → t.trunksSound

/-- Every step keeps each line record's counts in their ranges, and each measurement record: group sums, windows,
leak count, stage A and stage B values and corrected values (sections 1.2 and 2.1, R3, R4, R6). -/
def Obligations.StepKeepsLineRecords : Prop :=
  ∀ s t : State, s.linesSound → step s = .next t → t.linesSound

/-- Every step keeps references distinct and non-zero, and at most one live call on a line (R72, R73). -/
def Obligations.StepKeepsCallsDistinct : Prop :=
  ∀ s t : State, s.callsSound → step s = .next t → t.callsSound

/-- Whatever command is carried out, a call that stays in its place keeps its reference, line, origination
sequence and time, and, once composed, its identity snapshot, kind and base class (R70, R71). -/
def Obligations.LiveCallKeepsItsIdentity : Prop :=
  ∀ (c : Instr) (s t : State), exec c s = .next t →
    ∀ p a b, s.cc.calls.get p = some a → t.cc.calls.get p = some b → a.sameCall b

/-! ### Frames, messages and images -/

/-- Every request that can reach the part, sent as a frame to a receiver in HUNTING, joins the end of the
input list if there is room; with two frames waiting it is discarded and the link error flag set (R177 to
R179). -/
def Obligations.RequestFrameIsReceived : Prop :=
  ∀ (i : Instr) (f : Frame) (k : Link), i.wellFormed = true → i.request = some f → k.receiver = .hunting →
    k.service ≠ .starting →
    (((enclose Config.frameStart f.code f.body).map fun o => RxOctet.mk o true).foldl Link.takeOctet k =
      if k.inputs.length < 2 then { k with inputs := k.inputs ++ [f] } else { k with linkError := true })

/-- Every desk request, sent as a desk message to a receiver between messages, is completed and joins the
requests waiting, in order (R105, R193). A length of 0, a code of no request, another length than its code has, or a
check that does not match discards the message and raises the message error count by one, not past 255; one discarded
for its code or length is passed over for N + 1 octets more, whatever they are (R105, R193). Fill between messages is
passed over (R105). -/
def Obligations.DeskMessageIsReceived : Prop :=
  (∀ (q : DeskRequest) (code : Octet) (body : List Octet) (x : Trunk), deskRequestOf code body = some q →
    x.receiver = .between →
    (enclose Config.messageStart code body).foldl Trunk.takeOctet x = { x with requests := x.requests ++ [q] }) ∧
  (∀ (x : Trunk) (len code hi lo : Octet) (body : List Octet), x.receiver = .between →
    x.takeOctet 0 = x ∧
    [0xA5, 0].foldl Trunk.takeOctet x = { x with messageErrors := min (x.messageErrors + 1) 255 } ∧
    (len ≠ 0 → (code.toNat, len.toNat) ∉ [(1, 3), (2, 3), (3, 3), (4, 3), (5, 1), (6, 3), (7, 2)] →
      body.length ≤ len.toNat + 1 →
      (0xA5 :: len :: code :: body).foldl Trunk.takeOctet x =
        { x with
          receiver :=
            if body.length = len.toNat + 1 then .between else .passing (len.toNat + 1 - body.length)
          messageErrors := min (x.messageErrors + 1) 255 }) ∧
    ((code.toNat, len.toNat) ∈ [(1, 3), (2, 3), (3, 3), (4, 3), (5, 1), (6, 3), (7, 2)] →
      body.length + 1 = len.toNat → be16 hi lo ≠ ((len :: code :: body).map BitVec.toNat).sum % 65536 →
      (0xA5 :: len :: code :: (body ++ [hi, lo])).foldl Trunk.takeOctet x =
        { x with messageErrors := min (x.messageErrors + 1) 255 }))

/-- The entry image that DIR READ sends for an entry with every field in its range is the image that DIR
WRITE reads back as that entry (R48, R53, R191). -/
def Obligations.EntryImageReadsBack : Prop :=
  ∀ e : Entry, e.inRange → entryOf e.service e.octets = some e

/-! ### Resets -/

/-- POWER_ON_RESET: the LMU, the CC, the TI, the AP, the TBJ and the NCL take their power-on values (R22, R71, R93,
R122, R139, R162, R170, R176, R189), and the area of a store operation
in flight is left failing its check, the other areas untouched (R64). That the abandoned area keeps its stored entries
and its stored lock flag beside the failed check is THE MODEL'S CHOICE (DESIGN CHOICE, log entry 15), and that the
commands waiting outside the part are kept is its reading (DEDUCED, log entry 6). The working table and the lines
follow at the release; what they hold until then is the model's choice (log entry 16) and not said. -/
def Obligations.PowerOnResetValues : Prop :=
  ∀ s : State, ∃ t, exec .powerOnReset s = .next t ∧ t.held = true ∧ t.pending = s.pending ∧
    t.link.receiver = .hunting ∧ t.link.inputs = [] ∧ t.link.service = .starting ∧ t.link.output = [] ∧
    t.link.heldReady = none ∧ t.link.repeatCount = 0 ∧ t.link.repetition = none ∧ t.link.armed = none ∧
    t.link.linkError = false ∧ t.link.reportLoss = false ∧
    (∀ p, t.cc.calls.get p = none) ∧ t.cc.queue = [] ∧ t.cc.nextRef = 1 ∧ t.cc.lastSequence = 0 ∧
    t.cc.now = 0 ∧ t.cc.agingPeriod = 20 ∧ t.cc.escalation = 3 ∧ t.cc.minimumHold = 60 ∧
    t.events = [] ∧ t.callEnds = [] ∧
    (∀ u, (t.trunk u).service = .inService ∧ (t.trunk u).state = .linkDown ∧ (t.trunk u).link = .down ∧
      (t.trunk u).group = (if u.val < 6 then .primary else .overflow) ∧ (t.trunk u).badRun = 0 ∧
      (t.trunk u).goodRun = 0 ∧ (t.trunk u).current = none ∧ (t.trunk u).stack = [] ∧
      (t.trunk u).offerTimer = none ∧ (t.trunk u).guardTimer = none ∧ (t.trunk u).idleSince = none ∧
      (t.trunk u).receiver = .between ∧ (t.trunk u).requests = [] ∧ (t.trunk u).transmit = [] ∧
      (t.trunk u).sentOctets = 0 ∧ (t.trunk u).draining = false ∧ (t.trunk u).frameErrors = 0 ∧
      (t.trunk u).messageErrors = 0 ∧ (t.trunk u).overruns = 0) ∧
    t.ti.noTrunk = false ∧ t.ti.offerTime = 15 ∧ t.ti.guardTime = 300 ∧
    t.ap.prompt = [] ∧ (∀ c, t.ap.clips.get c = none) ∧ (∀ c, t.ap.chains.get c = []) ∧
    (∀ p, t.ap.players.get p = .inactive) ∧
    (∀ u, t.ap.receive.get u = ⟨[], false, none⟩ ∧ t.ap.send.get u = ⟨[], false, none⟩ ∧
      t.ap.slips.get u = 0) ∧
    t.ap.holdChain = 1 ∧ t.ap.warningChain = 2 ∧
    t.time.seconds = 0 ∧ t.time.phase = 0 ∧ t.time.state = .unset ∧ t.time.pendingLoad = none ∧
    t.time.goodRun = 0 ∧ t.time.badRun = 0 ∧ t.time.lastOffset = none ∧ t.time.watchdog = none ∧
    t.journal.records = [] ∧ t.journal.nextSequence = 1 ∧ t.journal.threshold = 192 ∧
    (∀ l, t.lmu.records.get l = Measurement.empty) ∧
    t.lmu.setA = ⟨-20, -10, 4, 8, 50, 120, 700, 760⟩ ∧ t.lmu.setB = ⟨-20, -10, 4, 8, 45, 90, 700, 760⟩ ∧
    (∀ b, (t.dir.areas.get b).entries = (s.dir.areas.get b).entries ∧
      (t.dir.areas.get b).locked = (s.dir.areas.get b).locked ∧
      (t.dir.areas.get b).checks =
        ((s.dir.areas.get b).checks && decide (∀ op, s.dir.operation = some op → op.bank ≠ b)))

/-- POWER_ON_RESET_RELEASE of a power-on reset: each bank loads from its area, or as erased with STORE FAULT
(R65); each line is UNEQUIPPED or SETTLING by its loaded service field, every flag clear (R46); the POWER-ON
record takes sequence number 1 (R176); READY is the one frame to send, and the NCL is WAITING (R189, R190). -/
def Obligations.PowerOnReleaseLoadsAndReportsReady : Prop :=
  ∀ s : State, ∃ t, exec .powerOnResetRelease s.powerOn = .next t ∧ t.held = false ∧
    (∀ l, t.dir.working.get l =
      if (t.dir.areas.get (bankOf l)).checks then (t.dir.areas.get (bankOf l)).entries.get (slotOf l)
      else Entry.erased .unequipped) ∧
    (∀ b, t.dir.faults.get b = !(t.dir.areas.get b).checks ∧
      t.dir.locks.get b = ((t.dir.areas.get b).checks && (t.dir.areas.get b).locked)) ∧
    t.dir.areas = s.powerOn.dir.areas ∧ t.dir.latch = false ∧ t.dir.operation = none ∧
    (∀ l, (t.lines.get l).state =
        (if (t.dir.working.get l).service = .unequipped then .unequipped else .settling) ∧
      (t.lines.get l).flags = StickyFlags.clear ∧ (t.lines.get l).faultKind = none ∧
      t.lmu.records.get l = Measurement.empty) ∧
    t.journal.records = [⟨1, ⟨0, 0, .unset⟩, .reset .powerOn⟩] ∧ t.journal.nextSequence = 2 ∧
    t.link.output = [.report (.ready .powerOn (t.dir.areas.map StoreArea.checks) t.dir.locks 1)] ∧
    t.link.service = .waiting

/-- RESET with no store operation in flight: DONE is placed first; every live call has ended, the queue is empty and
every channel INACTIVE; parameters stand at their defaults, the directory and the lines as their store loads them; the
newest record is RESET SOFT unless the journal is exhausted; READY carries its number and, once on the output list,
the NCL is WAITING; announcements, time base and call counters are kept (R23, R47, R65, R93, R163, R170, R175, R176,
R186, R188, R190). A trunk is being reset exactly if messages are left on its list, those it had in order and first,
its buffers as they were; any other stands at its reset values, its buffers emptied and its slip count 0 (R123, R163).
With every call in its place, the calls end with cause RESET in order of origination sequence: a CALL END record of
each, then RESET SOFT, joins the journal while there are numbers left; the CALL EVENT reports stand in order between
DONE and READY, with room for them; each trunk with its link UP has the CLEAR, WITHDRAW or HELD CLEARED of its calls
at the end of its list, what finds no room counted as an overrun, and a trunk that so has something to send has left
its calls, in GUARD if it had a current one (R90–R93, R106, R115, R123). After the end of a WAITING or PREEMPTING call,
where conditions 1, 3 and 4 hold among the calls left, the one condition 3 chooses is PREEMPTING until its own end, its
desk sent PREEMPT WARN (R84, R140, R141, R143).
THE MODEL'S reading or choice: the trunks' moment of reset, and that none being reset is eligible-idle (log entry 17);
the examination last of an end's steps (9); the service state after the RESET's own reply (22); the moment of the
defaults (35); that a trunk still sending has no message begun and no request waiting (18).
RESET with a store operation in flight is refused BUSY, and nothing else changes (R188). -/
def Obligations.SoftResetEndsCallsAndReloads : Prop :=
  (∀ (s : State) (n number : Nat), s.ready 0x3F [] → s.dir.operation = none →
     n = s.journal.nextSequence + s.liveCalls.length → number = (if n ≤ 4294967295 then n else 0) →
     ∃ t, exec (.reset []) s = .next t ∧
     (∀ p, t.cc.calls.get p = none) ∧ t.cc.queue = [] ∧ (∀ p, t.ap.players.get p = .inactive) ∧
     t.events = [] ∧ t.callEnds = [] ∧
     t.cc = { s.cc with
       calls := t.cc.calls, queue := [], agingPeriod := 20, escalation := 3, minimumHold := 60 } ∧
     t.ti.offerTime = 15 ∧ t.ti.guardTime = 300 ∧ t.ti.noTrunk = false ∧
     (∀ u, (t.trunk u).receiver = .between ∧ (t.trunk u).requests = [] ∧
       ((t.trunk u).draining = true ↔ (t.trunk u).transmit ≠ []) ∧
       ((t.trunk u).draining = true → (∃ new, (t.trunk u).transmit = (s.trunk u).transmit ++ new) ∧
         t.ap.receive.get u = s.ap.receive.get u ∧ t.ap.send.get u = s.ap.send.get u ∧
         t.ap.slips.get u = s.ap.slips.get u) ∧
       ((t.trunk u).draining = false →
         t.trunk u =
           { Trunk.initial (if u.val < 6 then .primary else .overflow) with
             lastFrame := (s.trunk u).lastFrame } ∧
         t.ap.receive.get u = Buffer.empty ∧ t.ap.send.get u = Buffer.empty ∧ t.ap.slips.get u = 0)) ∧
     t.lmu.setA = Thresholds.factoryA ∧ t.lmu.setB = Thresholds.factoryB ∧
     t.ap = { s.ap with
       players := t.ap.players, receive := t.ap.receive, send := t.ap.send, slips := t.ap.slips
       holdChain := 1, warningChain := 2 } ∧
     t.pending = s.pending ∧ t.held = false ∧ t.time = s.time ∧ t.journal.threshold = 192 ∧
     t.dir = s.dir.load ∧
     (∀ l, t.lines.get l = placedLine (t.dir.working.get l) ∧ t.lmu.records.get l = Measurement.empty) ∧
     (n ≤ 4294967295 → t.journal.nextSequence = n + 1 ∧
       t.journal.records.getLast? = some ⟨n, ⟨s.time.seconds, s.time.phase, s.time.state⟩, .reset .soft⟩) ∧
     (s.journal.exhausted = true → t.journal.records = s.journal.records) ∧
     (∃ more, t.link.output = s.link.output ++ .reply ⟨0x3F, .done, none, .nothing⟩ :: more) ∧
     (t.link.service = .waiting ∧ t.link.output.getLast? =
         some (.report (.ready .soft (t.dir.areas.map StoreArea.checks) t.dir.locks number)) ∨
       t.link.service = .starting ∧ 16 ≤ t.link.reports ∧ t.link.heldReady =
         some (.ready .soft (t.dir.areas.map StoreArea.checks) t.dir.locks number)) ∧
     (s.link.reports + s.liveCalls.length < 12 → t.link.service = .waiting) ∧
     t.link.receiver = .hunting ∧ t.link.inputs = [] ∧ t.link.repeatCount = 0 ∧ t.link.armed = none ∧
     t.link.linkError = false ∧ t.link.lastReset = .soft) ∧
  (∀ (s : State) (calls : List Call), s.ready 0x3F [] → s.dir.operation = none → s.callsPlaced →
     calls.Perm s.liveCalls → calls.Pairwise (fun a b => a.sequence.toNat < b.sequence.toNat) →
     ∃ t, exec (.reset []) s = .next t ∧
     t.journal.records =
       ((s.resetRecords calls).filter fun r => r.sequence ≤ 4294967295).foldl Journal.append s.journal.records ∧
     (s.link.reports + calls.length < 12 → ∃ more ready,
       t.link.output = s.link.output ++ .reply ⟨0x3F, .done, none, .nothing⟩ :: (more ++ [.report ready]) ∧
       (s.resetEvents calls).Sublist more) ∧
     ∀ u x msgs sent lost, x = s.trunk u →
       msgs = s.resetMessages calls u →
       sent = (if x.link = .up then x.transmit ++ msgs.take (8 - x.transmit.length) else x.transmit) →
       lost = (if x.link = .up then msgs.length - (8 - x.transmit.length) else 0) →
       (sent = [] → (t.trunk u).draining = false) ∧
       (sent ≠ [] → t.trunk u =
         { x with
           draining := true, receiver := .between, requests := [], stack := [], transmit := sent
           overruns := if lost = 0 then x.overruns else min (x.overruns + lost) 255
           state := if x.current = none then x.state else .guard_
           guardTimer := if x.current = none then x.guardTimer else some s.ti.guardTime
           idleSince := if x.current = none then x.idleSince else none
           current := none, offerTimer := none })) ∧
  (∀ s : State, s.ready 0x3F [] → s.dir.operation ≠ none →
     exec (.reset []) s = .next (s.answered ⟨0x3F, .busy, none, .nothing⟩))

/-! ### Lines -/

/-- SAMPLE_PAIR: of a measured line whose group it does not close, the samples join the group sums and a
sample at an end of the range sets the over-range marker (R2, R3); of an UNEQUIPPED line nothing is
converted (R20). Where it closes a group whose windows then hold fewer than four values, the stage A values join
the windows and nothing else comes of it, whatever the line's state (R3, R4, R5).
A sample pair of an OUT OF SERVICE line is measured, and the LSC does not act on it: no line record, event,
journal record or report comes of it (R21, R24, R44). -/
def Obligations.SamplePairIsMeasured : Prop :=
  (∀ (s : State) (l : LineNo) (x y : BitVec 12) (m : Measurement) (ranged : Bool), s.held = false →
     m = s.lmu.records.get l →
     ranged = (m.overRange ||
       decide (x.toInt = -2048 ∨ x.toInt = 2047 ∨ y.toInt = -2048 ∨ y.toInt = 2047)) →
     ((s.lines.get l).state = .unequipped → exec (.samplePair l x y) s = .next s) ∧
     ((s.lines.get l).state ≠ .unequipped → m.groupPosition.val < 7 →
       exec (.samplePair l x y) s = .next (s.setMeasurement l
         { m with
           groupPosition := m.groupPosition + 1
           loopSum := m.loopSum + x.toInt
           groundSum := m.groundSum + y.toInt
           overRange := ranged })) ∧
     ((s.lines.get l).state ≠ .unequipped → m.groupPosition = 7 → m.loopWindow.length < 3 →
       m.groundWindow.length < 3 →
       exec (.samplePair l x y) s = .next (s.setMeasurement l
         { m with
           groupPosition := 0, loopSum := 0, groundSum := 0
           loopWindow := m.loopWindow ++ [(m.loopSum + x.toInt + 4) >>> 3]
           groundWindow := m.groundWindow ++ [(m.groundSum + y.toInt + 4) >>> 3]
           overRange := ranged }))) ∧
  (∀ (s : State) (l : LineNo) (x y : BitVec 12), s.held = false → (s.lines.get l).state = .outOfService →
     ∃ t, exec (.samplePair l x y) s = .next t ∧
       t = s.setMeasurement l (t.lmu.records.get l) ∧
       (t.lmu.records.get l).groupPosition = (s.lmu.records.get l).groupPosition + 1)

/-- The SAMPLE_PAIR that closes a group of a measured line with at least three stage A values in each window
carries out its evaluation: stages A and B, stage C under the line's calibration, and the empty group (R3, R4,
R6, R7); the band test under the line's threshold set, a gap keeping the band remembered (R9, R10); the LEAK
test and its count (R14, R15). The LSC takes the result: the band result, the LEAK condition, a leak declaration
at count 250, an over-range declaration where the marker was set, which is cleared (R15, R16, R17). -/
def Obligations.ClosingPairEvaluatesTheLine : Prop :=
  ∀ (s : State) (l : LineNo) (x y : BitVec 12) (m : Measurement) (e : Entry) (lims : Thresholds)
    (v w : List Int) (lb gb : Int),
    s.held = false → (s.lines.get l).state ≠ .unequipped → m = s.lmu.records.get l → e = s.dir.working.get l →
    lims = (if e.thresholdSet = .a then s.lmu.setA else s.lmu.setB) → m.groupPosition = 7 →
    3 ≤ m.loopWindow.length → m.loopWindow.length ≤ 4 → m.groundWindow.length = m.loopWindow.length →
    v = m.loopWindow.drop (m.loopWindow.length - 3) ++ [(m.loopSum + x.toInt + 4) >>> 3] →
    w = m.groundWindow.drop (m.groundWindow.length - 3) ++ [(m.groundSum + y.toInt + 4) >>> 3] →
    lb = (v.sum + 2) >>> 2 → gb = (w.sum + 2) >>> 2 →
    ∃ t lc gc br, exec (.samplePair l x y) s = .next t ∧
      lc = max (-1000) (min 1000 ((lb * e.loopCal.gain + 2048) >>> 12 + e.loopCal.offset)) ∧
      gc = max (-1000) (min 1000 ((gb * e.groundCal.gain + 2048) >>> 12 + e.groundCal.offset)) ∧
      br = (match (if lims.bandOf lc = none then m.bandMemory else lims.bandOf lc) with
        | some b => BandResult.band b
        | none => .unclear) ∧
      t.lmu = { s.lmu with records := t.lmu.records } ∧
      t.lmu.records = s.lmu.records.set l
        { groupPosition := 0, loopSum := 0, groundSum := 0, loopWindow := v, groundWindow := w
          loopB := some lb, groundB := some gb, loopC := some lc, groundC := some gc
          bandMemory := if lims.bandOf lc = none then m.bandMemory else lims.bandOf lc
          bandResult := some br
          leak := if 50 ≤ gc.natAbs then true else if gc.natAbs ≤ 30 then false else m.leak
          leakCount :=
            if 50 ≤ gc.natAbs ∨ 30 < gc.natAbs ∧ m.leak = true then min (m.leakCount + 1) 250 else 0
          overRange := false } ∧
      t = (s.setMeasurement l (t.lmu.records.get l)).takeResult l
        ⟨br, (t.lmu.records.get l).leak, decide ((t.lmu.records.get l).leakCount = 250),
          m.overRange || decide (x.toInt = -2048 ∨ x.toInt = 2047 ∨ y.toInt = -2048 ∨ y.toInt = 2047)⟩

/-- A value lies in the entry interval that the band test of a set accepted by R12 finds, and in no other (R8,
R9). -/
def Obligations.BandIsItsEntryInterval : Prop :=
  ∀ (t : Thresholds) (x : Int), t.accepted →
    (t.bandOf x = some .foreign ↔ x ≤ t.foreignMax) ∧
    (t.bandOf x = some .opened ↔ t.openMin ≤ x ∧ x ≤ t.openMax) ∧
    (t.bandOf x = some .present ↔ t.presentMin ≤ x ∧ x ≤ t.presentMax) ∧
    (t.bandOf x = some .loop ↔ t.loopMin ≤ x ∧ x ≤ t.loopMax) ∧
    (t.bandOf x = some .short ↔ t.shortMin ≤ x)

/-- The run update and the dwell and clear counts that a band result makes of a line record (R25, R26; UNCLEAR
inside a run by log entry 19), the lockout count following the make run (R33), and the declarations of a result
acted on setting their flags (R16, R24, R41).
Where the sixth LOOP evaluation of a make run brings the LOOP count to six and no fault is due: an IDLE line is
seized (R29), a SETTLING line, which PRESENT takes to IDLE, enters ACTIVE with OFF-HOOK AT START (R28), a RINGING
line in the counted part of a ring-off is tripped (R37), a line in FAULT is cleared and seized (R40). A RINGING line
that is not tripped there enters FAULT at a dwell of 250 (R37, R38); outside the counted part only the cadence comes
of its results; UNEQUIPPED and OUT OF SERVICE lines act on none (R24, R36, R44). -/
def Obligations.SixthLoopSeizesIdleLine : Prop :=
  (∀ (s : State) (l : LineNo), (s.lines.get l).state = .idle → (s.lines.get l).runKind = some .make →
    (s.lines.get l).pendingBreak = 0 → (s.lines.get l).loopCount = 5 →
    ∃ t, s.takeResult l ⟨.band .loop, false, false, false⟩ = t ∧
      (t.lines.get l).state = .collecting ∧ (t.lines.get l).loopCount = 6 ∧ (t.lines.get l).digits = [] ∧
      (t.lines.get l).pulses = 0 ∧ (t.lines.get l).codeTimer = 0 ∧ t.events = s.events ++ [.seizure l] ∧
      (∀ m, m ≠ l → t.lines.get m = s.lines.get m) ∧ t.journal = s.journal ∧ t.link = s.link) ∧
  (∀ (x y : LineRecord) (b : Band), y = x.update (.band b) →
    (b = .loop ∨ b = .short →
      y.runKind = some .make ∧ y.pendingBreak = 0 ∧ y.lastBreak = x.lastBreak ∧
      y.runLength =
        (if x.runKind = some .make then min (x.runLength + x.pendingBreak + 1) 65535 else 1) ∧
      y.loopCount =
        (if b = .short then 0
         else if x.runKind = some .make then min (x.loopCount + x.pendingBreak + 1) 65535 else 1) ∧
      (x.state = .lockout → y.lockoutCount =
        min (x.lockoutCount + (if x.runKind = some .make then x.pendingBreak + 1 else 1)) 3750)) ∧
    (b ≠ .loop → b ≠ .short →
      y.lastBreak = some b ∧
      (x.runKind = some .make → x.pendingBreak < 2 →
        y.runKind = some .make ∧ y.runLength = x.runLength ∧ y.pendingBreak = x.pendingBreak + 1 ∧
        y.loopCount = x.loopCount ∧ y.lockoutCount = x.lockoutCount) ∧
      (x.runKind = some .make → 2 ≤ x.pendingBreak →
        y.runKind = some .brk ∧ y.runLength = 3 ∧ y.pendingBreak = 0 ∧ y.loopCount = 0 ∧ y.lockoutCount = 0) ∧
      (x.runKind = some .brk → y.runKind = some .brk ∧ y.runLength = min (x.runLength + 1) 65535) ∧
      (x.runKind = none → y.runKind = some .brk ∧ y.runLength = 1)) ∧
    (∀ k, (b = .opened ∧ k = .opened ∨ b = .short ∧ k = .short ∨ b = .foreign ∧ k = FaultKind.foreign) →
      y.dwellBand = some k ∧ y.clearCount = 0 ∧
      y.dwellCount = (if x.dwellBand = some k then min (x.dwellCount + 1) 250 else 1)) ∧
    (b = .present → y.dwellBand = none ∧ y.dwellCount = 0 ∧
      y.clearCount = (if x.state = .fault then min (x.clearCount + 1) 250 else 0)) ∧
    (b = .loop → y.dwellBand = none ∧ y.dwellCount = 0 ∧ y.clearCount = 0) ∧
    x.update .unclear =
      (if x.runKind = none then x else { x with runLength := min (x.runLength + 1) 65535 })) ∧
  (∀ (s : State) (l : LineNo) (r : EvalResult),
    ((s.lines.get l).state = .unequipped ∨ (s.lines.get l).state = .outOfService → s.takeResult l r = s) ∧
    ((s.lines.get l).state ≠ .unequipped → (s.lines.get l).state ≠ .outOfService →
      ((s.lines.get l).state = .ringing → (s.lines.get l).cadence.counted = true) →
      ((s.takeResult l r).lines.get l).flags.leak = ((s.lines.get l).flags.leak || r.leakDeclared) ∧
      ((s.takeResult l r).lines.get l).flags.overRange =
        ((s.lines.get l).flags.overRange || r.overRangeDeclared) ∧
      (s.link.reports < 15 → r.leakDeclared = true → (s.lines.get l).flags.leak = false →
        .report (.lineFault l .leak .set) ∈ (s.takeResult l r).link.output) ∧
      (s.link.reports < 15 → r.overRangeDeclared = true → (s.lines.get l).flags.overRange = false →
        .report (.lineFault l .overRange .set) ∈ (s.takeResult l r).link.output))) ∧
  (∀ (s : State) (l : LineNo) (b : BandResult) (leak : Bool) (x y : LineRecord), x = s.lines.get l →
    y = x.update b → y.dwellCount < 250 →
    (x.state = .idle → s.takeResult l ⟨b, leak, false, false⟩ =
      if 6 ≤ y.loopCount then
        { s with
          lines := s.lines.set l { y with state := .collecting, digits := [], pulses := 0, codeTimer := 0 }
          events := s.events ++ [.seizure l] }
      else s.setLine l y) ∧
    (x.state = .settling → s.takeResult l ⟨b, leak, false, false⟩ =
      if b = .band .present then s.setLine l { y with state := .idle }
      else if 6 ≤ y.loopCount then
        { s with
          lines := s.lines.set l { y with state := .active }
          events := s.events ++ [.offHookAtStart l] }
      else s.setLine l y) ∧
    (∀ k, x.state = .fault → x.faultKind = some k → y.clearCount < 250 →
      (y.loopCount < 6 → s.takeResult l ⟨b, leak, false, false⟩ = s.setLine l y) ∧
      (6 ≤ y.loopCount → ∃ t, s.takeResult l ⟨b, leak, false, false⟩ = t ∧
        t.lines = s.lines.set l
          { y with state := .collecting, faultKind := none, digits := [], pulses := 0, codeTimer := 0 } ∧
        t.events = s.events ++ [.seizure l] ∧
        (s.link.reports < 16 → .report (.lineFault l (flagOf k) .cleared) ∈ t.link.output) ∧
        (s.journal.exhausted = false → t.journal.records = Journal.append s.journal.records
          ⟨s.journal.nextSequence, s.stamp, .lineFault l k false⟩)))) ∧
  (∀ (s : State) (l : LineNo) (r : EvalResult) (x y : LineRecord), (s.lines.get l).state = .ringing →
    x = (s.lines.get l).cadence → y = x.update r.band →
    ((s.lines.get l).ringPhase = some .on → (s.lines.get l).ringPosition < 125 →
      x = { s.lines.get l with ringPosition := (s.lines.get l).ringPosition + 1 }) ∧
    ((s.lines.get l).ringPhase = some .off → (s.lines.get l).ringPosition < 250 →
      x = { s.lines.get l with ringPosition := (s.lines.get l).ringPosition + 1 }) ∧
    (x.ringPhase = some .on ∨ x.ringPosition < 7 → s.takeResult l r = s.setLine l x) ∧
    (x.ringPhase = some .off → 7 ≤ x.ringPosition → r.leakDeclared = false → r.overRangeDeclared = false →
      (6 ≤ y.loopCount → s.takeResult l r =
        { s with
          lines := s.lines.set l { y with state := .active, ringPhase := none, ringPosition := 0 }
          events := s.events ++ [.answered l] }) ∧
      (y.loopCount < 6 → y.dwellCount < 250 → s.takeResult l r = s.setLine l y) ∧
      (∀ k, y.loopCount < 6 → 250 ≤ y.dwellCount → y.dwellBand = some k →
        (s.takeResult l r).lines = s.lines.set l
          { y with
            state := .fault, faultKind := some k, clearCount := 0, ringPhase := none, ringPosition := 0
            flags := y.flags.raise (flagOf k) } ∧
        (s.takeResult l r).events = s.events ++ [.lineFault l k])))

/-- The counts of a line at their ends. A dwell of 250 takes a line to FAULT with flag, report, record and event (R38,
R39), or, in FAULT, declares the other kind or sets the flag again; 250 evaluations of PRESENT clear it (R40). A
break of 50 evaluations takes a COLLECTING or ACTIVE line to IDLE with HANG-UP, or LINE LOST by the last break
band, and ends LOCKOUT without an event (R30, R32, R33). In COLLECTING a break ended by make is a pulse, or makes
the code INVALID, 30 evaluations of make end a digit, four digits or 320 evaluations end collection (R30, R31); in
LOCKOUT 3750 evaluations of make give LOCKOUT EXPIRY (R33).
CODE_TIMER_EXPIRY carries the sample that closes the evaluation at which the code timer reaches 320: all its checks are
made, as SAMPLE_PAIR makes them, and the line leaves COLLECTING; where none before check 6 applies, with code MISSING
(R30, R31). LOCKOUT_COUNT_EXPIRY does so for the evaluation at which the lockout count reaches 3750 (R33), and
RING_PHASE_CHANGE for the one that passes the last position of ON or OFF, whose result is not acted on (R36). That these
commands are such evaluations is the model's reading (DEDUCED, log entry 5), and that elsewhere they have no effect its
choice (log entry 3). -/
def Obligations.LineTimersReachTheirEnds : Prop :=
  (∀ (s : State) (e : LineSample) (m : Measurement) (r : EvalResult) (x y : LineRecord), s.held = false →
    s.measure e.line e.loop.toInt e.ground.toInt = (m, some r) → x = s.lines.get e.line → y = x.update r.band →
    (x.state = .collecting → x.codeTimer = 319 → ∃ t,
      exec (.codeTimerExpiry e) s = .next t ∧ exec (.samplePair e.line e.loop e.ground) s = .next t ∧
      t = (s.setMeasurement e.line m).takeResult e.line r ∧ (t.lines.get e.line).codeTimer = 320 ∧
      (t.lines.get e.line).state ≠ .collecting ∧
      (r.leakDeclared = false → r.overRangeDeclared = false → y.dwellCount < 250 →
        (y.runKind ≠ some .brk ∨ y.runLength < 50) → (y.runKind ≠ some .make ∨ x.pulses = 0 ∨ y.runLength < 30) →
        (x.runKind = some .brk → r.band ≠ .band .loop ∧ r.band ≠ .band .short) → x.digits.length < 4 →
        t = { s.setMeasurement e.line m with
          lines := s.lines.set e.line { y with state := .active, codeTimer := 320 }
          events := s.events ++ [.codeResult e.line .missing] })) ∧
    (x.state = .lockout → y.lockoutCount = 3750 → (r.band = .band .loop ∨ r.band = .band .short) → ∃ t,
      exec (.lockoutCountExpiry e) s = .next t ∧ exec (.samplePair e.line e.loop e.ground) s = .next t ∧
      (r.leakDeclared = false → r.overRangeDeclared = false → y.dwellCount < 250 →
        t = { s.setMeasurement e.line m with
          lines := s.lines.set e.line { y with state := .active }
          events := s.events ++ [.lockoutExpiry e.line] })) ∧
    (x.state = .ringing → x.ringPhase = some .on → x.ringPosition = 125 →
      exec (.ringPhaseChange e) s = .next
        ((s.setMeasurement e.line m).setLine e.line { x with ringPhase := some .off, ringPosition := 1 })) ∧
    (x.state = .ringing → x.ringPhase = some .off → x.ringPosition = 250 →
      exec (.ringPhaseChange e) s = .next
        ((s.setMeasurement e.line m).setLine e.line
          { x with ringPhase := some .on, ringPosition := 1, loopCount := 0 })) ∧
    (x.state ≠ .collecting ∨ x.codeTimer < 319 → exec (.codeTimerExpiry e) s = .next s) ∧
    (x.state ≠ .lockout ∨ y.lockoutCount < 3750 → exec (.lockoutCountExpiry e) s = .next s) ∧
    (x.state ≠ .ringing ∨ x.ringPhase = some .on ∧ x.ringPosition < 125 ∨
        x.ringPhase = some .off ∧ x.ringPosition < 250 → exec (.ringPhaseChange e) s = .next s)) ∧
  (∀ (s : State) (e : LineSample), s.held = false →
    (s.measure e.line e.loop.toInt e.ground.toInt).2 = none →
    exec (.codeTimerExpiry e) s = .next s ∧ exec (.lockoutCountExpiry e) s = .next s ∧
      exec (.ringPhaseChange e) s = .next s) ∧
  (∀ (s : State) (l : LineNo) (b : BandResult) (leak : Bool) (x y : LineRecord) (k : FaultKind) (t : State),
    x = s.lines.get l → y = x.update b → t = s.takeResult l ⟨b, leak, false, false⟩ → 250 ≤ y.dwellCount →
    y.dwellBand = some k →
    (x.state = .settling ∨ x.state = .idle ∨ x.state = .active ∨ x.state = .lockout ∨
        x.state = .collecting ∧ (y.runKind ≠ some .brk ∨ y.runLength < 50) →
      t.lines = s.lines.set l
        { y with
          state := .fault, faultKind := some k, clearCount := 0, ringPhase := none, ringPosition := 0
          codeTimer := if x.state = .collecting then min (x.codeTimer + 1) 320 else x.codeTimer
          flags := y.flags.raise (flagOf k) } ∧
      t.events = s.events ++ [.lineFault l k] ∧
      (s.link.reports < 16 → .report (.lineFault l (flagOf k) .declared) ∈ t.link.output) ∧
      (s.journal.exhausted = false → t.journal.records = Journal.append s.journal.records
        ⟨s.journal.nextSequence, s.stamp, .lineFault l k true⟩)) ∧
    (x.state = .fault → x.faultKind ≠ some k →
      t.lines = s.lines.set l { y with faultKind := some k, flags := y.flags.raise (flagOf k) } ∧
      t.events = s.events ∧
      (s.link.reports < 16 → .report (.lineFault l (flagOf k) .declared) ∈ t.link.output) ∧
      (s.journal.exhausted = false → t.journal.records = Journal.append s.journal.records
        ⟨s.journal.nextSequence, s.stamp, .lineFault l k true⟩)) ∧
    (x.state = .fault → x.faultKind = some k →
      t.lines = s.lines.set l { y with flags := y.flags.raise (flagOf k) } ∧ t.events = s.events ∧
      t.journal = s.journal ∧ (y.flags.has (flagOf k) = true → t.link = s.link) ∧
      (y.flags.has (flagOf k) = false → s.link.reports < 16 →
        .report (.lineFault l (flagOf k) .set) ∈ t.link.output))) ∧
  (∀ (s : State) (l : LineNo) (b : BandResult) (leak : Bool) (x y : LineRecord) (k : FaultKind) (t : State),
    x = s.lines.get l → y = x.update b → t = s.takeResult l ⟨b, leak, false, false⟩ → x.state = .fault →
    x.faultKind = some k → y.dwellCount < 250 → 250 ≤ y.clearCount →
    t.lines = s.lines.set l { y with state := .idle, faultKind := none } ∧ t.events = s.events ∧
    (s.link.reports < 16 → .report (.lineFault l (flagOf k) .cleared) ∈ t.link.output) ∧
    (s.journal.exhausted = false → t.journal.records = Journal.append s.journal.records
      ⟨s.journal.nextSequence, s.stamp, .lineFault l k false⟩)) ∧
  (∀ (s : State) (l : LineNo) (b : BandResult) (leak : Bool) (x y : LineRecord), x = s.lines.get l →
    y = x.update b → y.dwellCount < 250 →
    (x.state = .active → s.takeResult l ⟨b, leak, false, false⟩ =
      if y.runKind = some .brk ∧ 50 ≤ y.runLength then
        { s with
          lines := s.lines.set l { y with state := .idle }
          events := s.events ++ [if y.lastBreak = some .present then .hangUp l else .lineLost l] }
      else s.setLine l y) ∧
    (x.state = .lockout → s.takeResult l ⟨b, leak, false, false⟩ =
      if y.runKind = some .brk ∧ 50 ≤ y.runLength then s.setLine l { y with state := .idle }
      else if 3750 ≤ y.lockoutCount then
        { s with
          lines := s.lines.set l { y with state := .active }
          events := s.events ++ [.lockoutExpiry l] }
      else s.setLine l y)) ∧
  (∀ (s : State) (l : LineNo) (b : BandResult) (leak : Bool) (x y : LineRecord) (ended pulses : Nat)
    (digits : List (Fin 10)), x = s.lines.get l → x.state = .collecting → x.digits.length ≤ 3 →
    y = { x.update b with codeTimer := min (x.codeTimer + 1) 320 } →
    ended = (if x.runKind = some .brk ∧ (b = .band .loop ∨ b = .band .short) then x.runLength else 0) →
    pulses = (if 3 ≤ ended ∧ ended ≤ 15 then x.pulses + 1 else x.pulses) →
    digits = (if y.runKind = some .make ∧ 1 ≤ pulses ∧ 30 ≤ y.runLength then
      x.digits ++ [Fin.ofNat 10 pulses] else x.digits) →
    (y.runKind = some .brk → 50 ≤ y.runLength → s.takeResult l ⟨b, leak, false, false⟩ =
      { s with lines := s.lines.set l { y with state := .idle }, events := s.events ++ [.hangUp l] }) ∧
    ((y.runKind ≠ some .brk ∨ y.runLength < 50) → y.dwellCount < 250 →
      ((3 ≤ ended ∧ ended ≤ 15 ∧ 11 ≤ pulses ∨ 16 ≤ ended ∧ ended ≤ 49) →
        s.takeResult l ⟨b, leak, false, false⟩ =
          { s with
            lines := s.lines.set l { y with state := .active, pulses := pulses }
            events := s.events ++ [.codeResult l .invalid] }) ∧
      (¬ (3 ≤ ended ∧ ended ≤ 15 ∧ 11 ≤ pulses ∨ 16 ≤ ended ∧ ended ≤ 49) → ∃ t,
        s.takeResult l ⟨b, leak, false, false⟩ = t ∧
        t = { s with lines := s.lines.set l (t.lines.get l), events := t.events } ∧
        t.lines.get l =
          { y with
            state := if digits.length = 4 ∨ y.codeTimer = 320 then .active else .collecting
            digits := digits, pulses := if digits = x.digits then pulses else 0 } ∧
        (∀ a₁ a₂ a₃ a₄ : Fin 10, digits = [a₁, a₂, a₃, a₄] → t.events = s.events ++
          [.codeResult l (.digits (Fin.ofNat 10000 (1000 * a₁.val + 100 * a₂.val + 10 * a₃.val + a₄.val)))]) ∧
        (digits.length < 4 → y.codeTimer = 320 → t.events = s.events ++ [.codeResult l .missing]) ∧
        (digits.length < 4 → y.codeTimer < 320 → t.events = s.events))))

/-- CALL_ENDED takes a COLLECTING, ACTIVE or RINGING line to LOCKOUT with lockout count 0 if its run is make,
else to IDLE, ringing removed; its run and pending break, its counts and its flags stay as they are; a line in any other
state stays as it is whole (R34). Taking a CALL ENDED that is not on its
way is the model's choice (log entry 4). -/
def Obligations.CallEndedMovesTheLine : Prop :=
  ∀ (s : State) (l : LineNo), s.held = false → ∃ t, exec (.callEnded l) s = .next t ∧
    t = { s with callEnds := s.callEnds.erase l, lines := s.lines.set l (t.lines.get l) } ∧
    ((s.lines.get l).state = .collecting ∨ (s.lines.get l).state = .active ∨ (s.lines.get l).state = .ringing →
      (t.lines.get l).ringingVoltage = false ∧
      t.lines.get l =
        { s.lines.get l with
          state := if (s.lines.get l).runKind = some .make then .lockout else .idle
          lockoutCount := if (s.lines.get l).runKind = some .make then 0 else (s.lines.get l).lockoutCount
          ringPhase := if (s.lines.get l).state = .ringing then none else (s.lines.get l).ringPhase
          ringPosition := if (s.lines.get l).state = .ringing then 0 else (s.lines.get l).ringPosition }) ∧
    ((s.lines.get l).state ≠ .collecting → (s.lines.get l).state ≠ .active →
      (s.lines.get l).state ≠ .ringing → t.lines.get l = s.lines.get l)

/-! ### Calls -/

/-- SEIZURE on a line that no live call names creates an ORIGINATING call with a reference that no live call
holds, the next origination sequence and the time as it stands, its counts 0 and its rescue flag clear (R73,
R74, R75). That it takes the free place of lowest number is the model's choice (log entry 7), and so is the taking
of an event that is not on its way (log entry 4).
On a line that a live call names in a state the event does not take, SEIZURE, CODE RESULT, OFF-HOOK AT START and
LOCKOUT EXPIRY are disregarded (R75–R77), and by the model's choice ANSWERED (log entry 33); ANSWERED and CODE
RESULT with no live call are disregarded. -/
def Obligations.SeizureCreatesOneCall : Prop :=
  (∀ (s : State) (l p : LineNo), s.eventReady (.seizure l) → s.placeOfLine l = none → s.freePlace = some p →
     s.cc.nextRef ≠ 0 →
     ∃ c : Call, exec (.seizure l) s = .next
         { s.tookEvent (.seizure l) with cc := { s.cc with
             calls := s.cc.calls.set p (some c), nextRef := refAfter c.ref, lastSequence := c.sequence } } ∧
       c.line = l ∧ c.state = .originating ∧ c.ref ≠ 0 ∧
       (∀ q d, s.cc.calls.get q = some d → d.ref ≠ c.ref) ∧
       c.sequence = s.cc.lastSequence + 1 ∧
       c.origin = ⟨s.time.seconds, s.time.phase, s.time.state⟩ ∧ c.identity = none ∧
       c.trunk = none ∧ c.offerCount = 0 ∧ c.holdCount = 0 ∧ c.rescued = false ∧ c.connectTime = none) ∧
  (∀ (s : State) (l p : LineNo) (code : CodeResult), s.placeOfLine l = some p →
     (s.eventReady (.seizure l) → exec (.seizure l) s = .next (s.tookEvent (.seizure l))) ∧
     (s.eventReady (.offHookAtStart l) →
       exec (.offHookAtStart l) s = .next (s.tookEvent (.offHookAtStart l))) ∧
     (s.eventReady (.lockoutExpiry l) →
       exec (.lockoutExpiry l) s = .next (s.tookEvent (.lockoutExpiry l))) ∧
     (s.eventReady (.codeResult l code) → (∀ c, s.cc.calls.get p = some c → c.state ≠ .originating) →
       exec (.codeResult l code) s = .next (s.tookEvent (.codeResult l code))) ∧
     (s.eventReady (.answered l) → (∀ c, s.cc.calls.get p = some c → c.state ≠ .ringing) →
       exec (.answered l) s = .next (s.tookEvent (.answered l)))) ∧
  (∀ (s : State) (l : LineNo) (code : CodeResult), s.placeOfLine l = none →
     (s.eventReady (.codeResult l code) →
       exec (.codeResult l code) s = .next (s.tookEvent (.codeResult l code))) ∧
     (s.eventReady (.answered l) → exec (.answered l) s = .next (s.tookEvent (.answered l))))

/-- CODE_RESULT on the line of an ORIGINATING call: the snapshot is composed from the working entry and the code,
kind and classes are written with it (R66–R69, R76); the sticky flag that the check of the code sets is set, with
its report if it was clear (R41, R68); the call is in the queue, its entry time and aging mark the running time,
or already OFFERED by the pass, and hears its waiting chain from step 1 (R76, R80). Taking an event that is not on
its way is the model's choice (log entry 4). -/
def Obligations.CodeResultEntersCallIntoWaiting : Prop :=
  ∀ (s : State) (l p : LineNo) (c : Call) (code : CodeResult) (e : Entry), s.eventReady (.codeResult l code) →
    s.callAt p c → c.line = l → c.state = .originating → e = s.dir.working.get l →
    ∃ t d, exec (.codeResult l code) s = .next t ∧ t.cc.calls.get p = some d ∧ c.sameCall d ∧
      d.identity = some (composeIdentity e l (receivedOf code) false) ∧
      (d.state = .waiting ∧ d.trunk = none ∧ c.ref ∈ t.cc.queue ∧ d.queueEntry = some s.cc.now ∧
          d.agingMark = some s.cc.now ∨
        d.state = .offered ∧ d.queueEntry = none ∧ d.agingMark = none) ∧
      t.ap.players.get p = .active e.waitingChain (startStep (s.ap.chains.get e.waitingChain) 1) ∧
      t.events = s.events.erase (.codeResult l code) ∧
      (∀ f, (verify e (receivedOf code) false).2 = some f →
        t.lines = s.lines.set l { s.lines.get l with flags := (s.lines.get l).flags.raise f } ∧
        ((s.lines.get l).flags.has f = false → s.link.reports < 16 →
          .report (.lineFault l f .set) ∈ t.link.output)) ∧
      ((verify e (receivedOf code) false).2 = none → t.lines = s.lines) ∧ t.journal = s.journal

/-- The snapshot, verification outcome, kind and base class of a call from an EMPTY and from a NAMED entry, for a
call from its post and for a CALLBACK call (R67, R68, R69), and the sticky flag the check of the code sets: CODE
MISSING for INVALID or MISSING where a code is expected, CODE MISMATCH for another code, none otherwise and none
for a CALLBACK call (R68). -/
def Obligations.SnapshotFollowsEntryAndCode : Prop :=
  (∀ (e : Entry) (l : LineNo) (code : ReceivedCode) (callback : Bool) (i : CallIdentity),
    i = composeIdentity e l code callback →
    i.snapshot.line = l ∧ i.snapshot.naming = e.named.map NamedFields.naming ∧
    i.snapshot.waitingChain = e.waitingChain ∧ i.snapshot.code = code ∧
    i.snapshot.outcome = (verify e code callback).1 ∧
    i.kind =
      (if callback then .callback
       else
         match code with
         | .digits n => if 9000 ≤ n.val then .maintenance else .emergency
         | _ => .emergency) ∧
    (i.kind = .maintenance → i.baseClass = 3) ∧
    (i.kind ≠ .maintenance → i.baseClass =
      match e.named with
      | none => 0
      | some f =>
        match f.naming.zone with
        | .tunnel => 0
        | .structure_ => 1
        | .open_ => 2
        | .depot => 2) ∧
    i.effectiveClass = i.baseClass) ∧
  (∀ (e : Entry) (code : ReceivedCode) (callback : Bool), e.named = none →
    verify e code callback = (.unnamed, none)) ∧
  (∀ (e : Entry) (f : NamedFields) (n : Fin 10000), e.named = some f →
    (∀ code, verify e code true = (.notChecked, none)) ∧
    verify e .absent false = (.noCode, none) ∧
    (f.expected = none →
      verify e .missing false = (.noCode, none) ∧ verify e .invalid false = (.noCode, none)) ∧
    (f.expected ≠ none →
      verify e .missing false = (.noCode, some .codeMissing) ∧
      verify e .invalid false = (.noCode, some .codeMissing)) ∧
    (9000 ≤ n.val → verify e (.digits n) false = (.maintenance, none)) ∧
    (n.val < 9000 → f.expected = none → verify e (.digits n) false = (.notChecked, none)) ∧
    (n.val < 9000 → f.expected = some n.val → verify e (.digits n) false = (.matched, none)) ∧
    (∀ x, n.val < 9000 → f.expected = some x → x ≠ n.val →
      verify e (.digits n) false = (.mismatch, some .codeMismatch)))

/-- OFF_HOOK_AT_START and LOCKOUT_EXPIRY on a line that no live call names create a call of kind EMERGENCY with
code ABSENT: in the queue, or already OFFERED by the pass, on its waiting chain from step 1 (R77, R80).
ANSWERED connects a RINGING callback: the timeout cancelled, the first connect time and the connected mark
set, its channel stopped, nothing sent to the desk (R137, R139).
The free place of lowest number (log entry 7) and the taking of an event that is not on its way (log entry 4) are
the model's choice. -/
def Obligations.OffHookOpensCallAndAnsweredConnectsCallback : Prop :=
  (∀ (s : State) (l p : LineNo) (i : Instr) (v : LineEvent) (e : Entry),
     (i = .offHookAtStart l ∧ v = .offHookAtStart l ∨ i = .lockoutExpiry l ∧ v = .lockoutExpiry l) →
     s.eventReady v → s.placeOfLine l = none → s.freePlace = some p → e = s.dir.working.get l →
     ∃ t d, exec i s = .next t ∧ t.cc.calls.get p = some d ∧ d.line = l ∧
       d.sequence = s.cc.lastSequence + 1 ∧
       d.origin = ⟨s.time.seconds, s.time.phase, s.time.state⟩ ∧
       d.identity = some (composeIdentity e l .absent false) ∧
       (d.state = .waiting ∧ d.ref ∈ t.cc.queue ∧ d.queueEntry = some s.cc.now ∧
           d.agingMark = some s.cc.now ∨ d.state = .offered) ∧
       t.ap.players.get p = .active e.waitingChain (startStep (s.ap.chains.get e.waitingChain) 1) ∧
       t.events = s.events.erase v ∧ t.lines = s.lines) ∧
  (∀ (s : State) (l p : LineNo) (c : Call) (u : TrunkNo), s.eventReady (.answered l) → s.callAt p c →
   c.line = l → c.state = .ringing → c.trunk = some u →
   exec (.answered l) s = .next (((s.tookEvent (.answered l)).setCall p (some { c with
         state := .connected
         trunk := some u
         lastTrunk := some u
         queueEntry := none
         agingMark := none
         connectTime := some (c.connectTime.getD ⟨s.time.seconds, s.time.phase, s.time.state⟩)
         firstConnectedAt := some (c.firstConnectedAt.getD s.cc.now)
         connectedMark := some s.cc.now
         heldAt := none
         reminderIn := none
         preemptionTimer := none
         ringingTimer := none })).setPlayer p .inactive))

/-- HANG_UP, LINE_LOST and LINE_FAULT end the live call of their line with the cause of R78, and with no live call
are disregarded; that a HANG-UP of a RINGING call, which has no row there, changes nothing is the model's choice
(log entry 8), and so is the taking of an event that is not on its way (log entry 4).
The preemption timer and the ringing timeout, run out, end their calls PREEMPTED and NO ANSWER (R138,
R142). That the no-trunk judgement at a WAITING call's end comes after its CALL EVENT report is the model's choice
(log entry 9). -/
def Obligations.LineEventsAndTimersEndTheCall : Prop :=
  (∀ (s : State) (l p : LineNo) (c : Call) (k : FaultKind), s.callAt p c → c.line = l →
     (s.eventReady (.hangUp l) → c.state = .originating ∨ c.state = .waiting ∨ c.state = .offered →
       ∃ t, exec (.hangUp l) s = .next t ∧ (s.tookEvent (.hangUp l)).endedIn t p c .abandoned) ∧
     (s.eventReady (.hangUp l) → c.state = .connected ∨ c.state = .held ∨ c.state = .preempting →
       ∃ t, exec (.hangUp l) s = .next t ∧ (s.tookEvent (.hangUp l)).endedIn t p c .hungUp) ∧
     (s.eventReady (.hangUp l) → c.state = .ringing →
       exec (.hangUp l) s = .next (s.tookEvent (.hangUp l))) ∧
     (s.eventReady (.lineLost l) →
       ∃ t, exec (.lineLost l) s = .next t ∧ (s.tookEvent (.lineLost l)).endedIn t p c .lineLost) ∧
     (s.eventReady (.lineFault l k) →
       ∃ t, exec (.lineFault l k) s = .next t ∧ (s.tookEvent (.lineFault l k)).endedIn t p c .lineFault)) ∧
  (∀ (s : State) (l : LineNo) (k : FaultKind), s.placeOfLine l = none →
     (s.eventReady (.hangUp l) → exec (.hangUp l) s = .next (s.tookEvent (.hangUp l))) ∧
     (s.eventReady (.lineLost l) → exec (.lineLost l) s = .next (s.tookEvent (.lineLost l))) ∧
     (s.eventReady (.lineFault l k) → exec (.lineFault l k) s = .next (s.tookEvent (.lineFault l k)))) ∧
  (∀ (s : State) (p : LineNo) (c : Call), s.held = false → s.callAt p c →
     (c.state = .preempting → c.preemptionTimer = some 0 →
       ∃ t, exec (.preemptionTimerExpiry c.ref) s = .next t ∧ s.endedIn t p c .preempted) ∧
     (c.state = .ringing → c.ringingTimer = some 0 →
       ∃ t, exec (.ringingTimeout c.ref) s = .next t ∧ s.endedIn t p c .noAnswer))

/-- A call inserted into a queue ordered by key leaves the queue ordered by key, with the same calls and the
new one (R79).
Every step keeps the waiting queue exactly the WAITING calls, each once, in key order (R79), with every live call
standing where its state says and the trunk records agreeing with the call table (R72, R97, R124).
With every call in its place, every step keeps the player channels in theirs: INACTIVE for a free place, ACTIVE exactly
in WAITING, OFFERED, HELD and PREEMPTING, with the waiting chain of the snapshot in the first two (R153, R154). -/
def Obligations.InsertionKeepsQueueOrder : Prop :=
  (∀ (look : CallRef → Option Call) (c : Call) (q : List CallRef),
    look c.ref = some c → (∀ r ∈ q, look r ≠ none) →
    q.Pairwise (fun r r' => ∀ d d', look r = some d → look r' = some d' → d'.before d = false) →
    (insertByKey look c q).Pairwise
        (fun r r' => ∀ d d', look r = some d → look r' = some d' → d'.before d = false) ∧
      (insertByKey look c q).Perm (c.ref :: q)) ∧
  (∀ s t : State, s.callsPlaced → step s = .next t → t.callsPlaced) ∧
  (∀ s t : State, s.callsPlaced → s.channelsPlaced → step s = .next t → t.channelsPlaced)

/-- AGING of a WAITING call whose period has passed: at class 0 only its mark is renewed; above it the class
falls by one and the call moves, which an allocation pass may follow with an offer; it stays in the queue if it is
not offered, and the queue stays in key order (R79, R82).
HOLD_REMINDER of a HELD call whose due time has come: the reminder with the seconds held is made for its
trunk, and the next falls due 30 s after that time (R131). -/
def Obligations.AgingAndHoldReminderComeDue : Prop :=
  (∀ (s : State) (p : LineNo) (c : Call), s.held = false → s.callAt p c →
     s.agingDue s.cc.agingPeriod c = true →
     (c.effective = 0 →
       exec (.aging c.ref) s = .next (s.setCall p (some { c with agingMark := some s.cc.now }))) ∧
     (c.effective ≠ 0 → ∃ t d, exec (.aging c.ref) s = .next t ∧ t.cc.calls.get p = some d ∧ c.sameCall d ∧
       d.effective = c.effective - 1 ∧
       (d.state = .waiting ∧ d.agingMark = some s.cc.now ∧ d.queueEntry = c.queueEntry ∧ c.ref ∈ t.cc.queue ∨
         d.state = .offered ∧ d.agingMark = none) ∧
       (s.callsPlaced → t.queueExact) ∧ t.ap.players.get p = s.ap.players.get p)) ∧
  (∀ (s : State) (p : LineNo) (c : Call) (u : TrunkNo) (h : Word32) (due : Int), s.held = false →
     s.callAt p c → c.state = .held → c.trunk = some u → c.heldAt = some h → c.reminderIn = some due → due ≤ 0 →
     exec (.holdReminder c.ref) s = .next
       ((s.setCall p (some { c with reminderIn := some (due + 30000) })).sendDesk u
         (.holdReminder c.ref (min (s.age h / 1000) 65535))))

/-- MINIMUM_HOLD_SERVED examines preemption (R140). Where the four conditions do not all hold nothing changes. Where
they do, the call of condition 3 with the earliest connected mark, and among equal marks the lowest origination
sequence, becomes PREEMPTING with a timer of 10 s, its connected mark gone, on the warning chain, its desk warned
(R140, R141). That a trunk being reset is not eligible-idle is the model's reading (DEDUCED, log entry 17). -/
def Obligations.PreemptionStartsWhenHoldIsServed : Prop :=
  ∀ (s : State) (q : LineNo) (d : Call) (u : TrunkNo), s.held = false → s.callAt q d →
    d.trunk = some u → d.isKind .maintenance = true → d.state = .connected →
    (s.trunk u).group = .primary → s.served d = true →
    ((¬ s.preemptionCalledFor ∨ ∀ p c, ¬ s.preemptable p c) →
      exec (.minimumHoldServed d.ref) s = .next s) ∧
    (∀ p c v, s.preemptionCalledFor → s.preemptable p c → c.trunk = some v →
      (∀ p' c', p' ≠ p → s.preemptable p' c' →
        s.connectedAge c' < s.connectedAge c ∨
          s.connectedAge c' = s.connectedAge c ∧ c.sequence.toNat < c'.sequence.toNat) →
      exec (.minimumHoldServed d.ref) s = .next
        (((s.setCall p (some { c with
            state := .preempting, connectedMark := none, preemptionTimer := some 10000 })).setPlayer p
          (.active s.ap.warningChain (startStep (s.ap.chains.get s.ap.warningChain) 1))).sendDesk v
          (.preemptWarn c.ref 10)))

/-! ### Trunks -/

/-- TRUNK_FRAME_RECEIVED: a valid frame hands its audio to the receive buffer, raises the good run and ends the bad
run; on an UP link its signalling octets are handed to the message receiver, fill leaving it as it is and a whole desk
message joining the requests waiting, and on a DOWN link, short of the tenth in a row, they are discarded (R98, R99,
R105, R159, R161). So they are of a trunk being reset (R123).
A bad frame that is not the third in a row hands no audio, counts an error, raises the bad run and empties the receive
state, a message cut short being counted (R98, R99, R105); that a message already counted, whose rest is being passed
over, is not counted again is the model's choice (log entry 18).
The tenth valid frame in a row brings a DOWN link UP, its signalling discarded: a LINK DOWN trunk enters IDLE, or takes
an offer at once, with a RESTORE report, and RESTORE is the newest record unless the journal is exhausted; a trunk OUT
OF SERVICE stays so, with no record and no report of its state (R102). -/
def Obligations.TrunkFramesAreJudged : Prop :=
  (∀ (s : State) (u : TrunkNo) (f : TrunkFrame) (x : Trunk), s.held = false → f.marker = 0x3CC3 →
     ((s.trunk u).link = .up ∨ (s.trunk u).goodRun < 9) →
     x = { s.trunk u with goodRun := min ((s.trunk u).goodRun + 1) 10, badRun := 0 } →
     ∃ t, exec (.trunkFrameReceived u (some f)) s = .next t ∧ s.audioHanded t u f.audio ∧
       t = { s.setTrunk u (t.trunk u) with
         ap := { s.ap with receive := t.ap.receive, slips := t.ap.slips } } ∧
       (x.link = .down ∨ x.draining = true → t.trunk u = x) ∧
       (x.link = .up → x.draining = false →
         t.trunk u = f.signalling.cells.foldl Trunk.takeOctet x ∧
         (x.receiver = .between → f.signalling = Table.fill 16 0 → t.trunk u = x) ∧
         (∀ q code body k, x.receiver = .between → deskRequestOf code body = some q →
           f.signalling.cells = enclose Config.messageStart code body ++ List.replicate k 0 →
           t.trunk u = { x with requests := x.requests ++ [q] }))) ∧
  (∀ (s : State) (u : TrunkNo) (frame : Option TrunkFrame), s.held = false →
     (∀ f, frame = some f → f.marker ≠ 0x3CC3) → ((s.trunk u).link = .down ∨ (s.trunk u).badRun < 2) →
     exec (.trunkFrameReceived u frame) s = .next (s.setTrunk u
       { s.trunk u with
         frameErrors := min ((s.trunk u).frameErrors + 1) 65535
         goodRun := 0
         badRun := min ((s.trunk u).badRun + 1) 3
         receiver := .between
         messageErrors := match (s.trunk u).receiver with
           | .inside _ => min ((s.trunk u).messageErrors + 1) 255
           | _ => (s.trunk u).messageErrors })) ∧
  (∀ (s : State) (u : TrunkNo) (f : TrunkFrame), s.held = false → f.marker = 0x3CC3 →
     (s.trunk u).link = .down → (s.trunk u).goodRun = 9 →
     ∃ t, exec (.trunkFrameReceived u (some f)) s = .next t ∧ s.audioHanded t u f.audio ∧
       (t.trunk u).link = .up ∧ (t.trunk u).receiver = .between ∧ (t.trunk u).goodRun = 10 ∧
       (t.trunk u).badRun = 0 ∧ (t.trunk u).requests = (s.trunk u).requests ∧
       ((s.trunk u).state = .linkDown →
         ((t.trunk u).state = .idle ∧ (t.trunk u).idleSince = some s.cc.now ∨ (t.trunk u).state = .offering) ∧
         (s.link.reports + (if s.journal.levelDue then 1 else 0) < 16 →
           .report (.trunkState u .idle .restore) ∈ t.link.output) ∧
         (s.journal.exhausted = false →
           t.journal.records = Journal.append s.journal.records
             ⟨s.journal.nextSequence, ⟨s.time.seconds, s.time.phase, s.time.state⟩, .trunk u false⟩)) ∧
       ((s.trunk u).state = .outOfService → (t.trunk u).state = .outOfService ∧ t.journal = s.journal ∧
         ∀ v st cause, .report (.trunkState v st cause) ∈ t.link.output →
           .report (.trunkState v st cause) ∈ s.link.output))

/-- The third bad frame in a row takes an UP link DOWN, with nothing to send, the frame and a message it cuts short
counted (R98, R99, R100, R105). A trunk OUT OF SERVICE stays so, with no record and no report of its state. Any other
trunk enters LINK DOWN with no call, no timer and an empty stack; LOSS is the newest record where no call ends, and the
TRUNK STATE report is made (R100).
Each of its calls that is OFFERED, CONNECTED, PREEMPTING or HELD, the current call and those of the stack, is in the
queue, its entry time and aging mark the running time, or already offered elsewhere: its rescue flag set, its offer
count kept, its timers, reminder and marks gone, its class kept from OFFERED and for a MAINTENANCE call and 0
otherwise, its waiting chain going on from OFFERED and at step 1 otherwise (R80, R81, R101, R132, R143, R154). A
RINGING current call ends TRUNK LOST, its CALL END record after LOSS (R92, R101). No other call ends. With no call on the
trunk and none queued, no call, channel or other trunk changes. The no-trunk flag then stands as its condition does
(R121).
The order of the record, the report, the judgement and the rescues (log entry 10), and that completed requests not yet
taken are dropped (log entry 18), are the model's choice. -/
def Obligations.ThirdBadFrameRescuesTheCall : Prop :=
  ∀ (s : State) (u : TrunkNo) (frame : Option TrunkFrame) (x y : Trunk), s.held = false →
    (∀ f, frame = some f → f.marker ≠ 0x3CC3) → x = s.trunk u → x.link = .up → x.badRun = 2 →
    y = { x with
      link := .down, transmit := [], sentOctets := 0, receiver := .between, requests := []
      goodRun := 0, badRun := 3, frameErrors := min (x.frameErrors + 1) 65535
      messageErrors := match x.receiver with
        | .inside _ => min (x.messageErrors + 1) 255
        | _ => x.messageErrors } →
    ∃ t, exec (.trunkFrameReceived u frame) s = .next t ∧
      t = { s with
        link := { s.link with output := t.link.output, reportLoss := t.link.reportLoss }
        cc := { s.cc with calls := t.cc.calls, queue := t.cc.queue }
        ti := { s.ti with trunks := t.ti.trunks, noTrunk := t.ti.noTrunk }
        ap := { s.ap with players := t.ap.players }
        journal := t.journal, callEnds := t.callEnds } ∧
      (t.ti.noTrunk = true ↔ t.cc.queue ≠ [] ∧
        ∀ w, ¬ ((t.trunk w).service = .inService ∧ (t.trunk w).link = .up)) ∧
      (s.callsPlaced → t.queueExact) ∧
      (∀ q a, s.cc.calls.get q = some a →
        a.state ≠ .ringing ∨ x.state = .outOfService ∨ x.current ≠ some a.ref ∧ a.ref ∉ x.stack →
        ∃ b, t.cc.calls.get q = some b ∧ a.sameCall b) ∧
      (x.state = .outOfService →
        t.trunk u = y ∧ t.journal = s.journal ∧ t.callEnds = s.callEnds ∧
        (∀ v st cause, .report (.trunkState v st cause) ∈ t.link.output →
          .report (.trunkState v st cause) ∈ s.link.output) ∧
        (s.cc.queue = [] → s.ti.noTrunk = false → t = s.setTrunk u y)) ∧
      (x.state ≠ .outOfService →
        t.trunk u =
          { y with
            state := .linkDown, current := none, offerTimer := none, guardTimer := none
            idleSince := none, stack := [] } ∧
        (s.link.reports + (if s.journal.levelDue then 1 else 0) < 16 →
          .report (.trunkState u .linkDown .loss) ∈ t.link.output) ∧
        ((∀ r, x.current = some r ∨ r ∈ x.stack → ∀ e, s.callOfRef r = some e → e.state ≠ .ringing) →
          t.callEnds = s.callEnds ∧ (s.journal.exhausted = true → t.journal = s.journal) ∧
          (s.journal.exhausted = false → t.journal.records = Journal.append s.journal.records
            ⟨s.journal.nextSequence, s.stamp, .trunk u true⟩)) ∧
        (x.current = none → x.stack = [] → s.cc.queue = [] →
          t.cc = s.cc ∧ t.ap = s.ap ∧ ∀ w, w ≠ u → t.trunk w = s.trunk w) ∧
        (∀ p c, s.callAt p c → x.current = some c.ref ∨ c.ref ∈ x.stack →
          c.state = .offered ∨ c.state = .connected ∨ c.state = .preempting ∨ c.state = .held →
          ∃ d, t.cc.calls.get p = some d ∧ c.sameCall d ∧ d.rescued = true ∧ d.offerCount = c.offerCount ∧
            d.holdCount = c.holdCount ∧ d.connectTime = c.connectTime ∧ d.connectedMark = none ∧
            d.heldAt = none ∧ d.reminderIn = none ∧ d.preemptionTimer = none ∧
            (d.state = .waiting ∧ d.trunk = none ∧ c.ref ∈ t.cc.queue ∧ d.queueEntry = some s.cc.now ∧
                d.agingMark = some s.cc.now ∨
              d.state = .offered ∧ d.trunk ≠ some u) ∧
            (c.state = .offered ∨ c.isKind .maintenance = true → d.effective = c.effective) ∧
            (c.state ≠ .offered → c.isKind .maintenance = false → d.effective = 0) ∧
            (c.state = .offered → t.ap.players.get p = s.ap.players.get p) ∧
            (∀ i, c.state ≠ .offered → c.identity = some i → t.ap.players.get p =
              .active i.snapshot.waitingChain (startStep (s.ap.chains.get i.snapshot.waitingChain) 1))) ∧
        (∀ p c, s.callAt p c → x.current = some c.ref → c.state = .ringing →
          t.cc.calls.get p = none ∧ t.ap.players.get p = .inactive ∧ c.line ∈ t.callEnds ∧
          (s.journal.nextSequence < 4294967295 → s.link.reports < 12 →
            .report (.callEvent c.ref c.line (c.identity.map CallIdentity.kind) .ringing .trunkLost
              (s.journal.nextSequence + 1)) ∈ t.link.output) ∧
          (s.journal.nextSequence < 4294967295 →
            (∀ r ∈ x.stack, ∀ e, s.callOfRef r = some e → e.state ≠ .ringing) →
            t.journal.records = Journal.append
              (Journal.append s.journal.records ⟨s.journal.nextSequence, s.stamp, .trunk u true⟩)
              ⟨s.journal.nextSequence + 1, s.stamp, .callEnd (s.callEndOf c .trunkLost)⟩)))

/-- TRUNK_FRAME_SENT: the frame carries the marker, the block that the send buffer gives, and the octets of the
transmit list followed by fill; a message that fits the sixteen octets whole leaves the list (R98, R106).
In general the sixteen octets are the next of those that the messages on the list spell one after another, and the
rest of them stays to be sent (R106); an empty buffer gives its last block again once, with a slip, and silence
after that or where no block was taken (R160). -/
def Obligations.TrunkFrameCarriesMessageAndFill : Prop :=
  (∀ (s : State) (u : TrunkNo) (m : DeskMessage) (x : Block) (xs : List Block), s.held = false →
    (s.trunk u).sentOctets = 0 → (s.ap.send.get u).blocks = x :: xs →
    ((s.trunk u).transmit = [] → ∃ t, exec (.trunkFrameSent u) s = .next t ∧
      (t.trunk u).lastFrame = some ⟨0x3CC3, x, Table.fill 16 0⟩ ∧ (t.ap.send.get u).blocks = xs ∧
      (t.trunk u).transmit = []) ∧
    ((s.trunk u).transmit = [m] → m.octets.length ≤ 16 → ∃ t, exec (.trunkFrameSent u) s = .next t ∧
      (t.trunk u).lastFrame = some ⟨0x3CC3, x, Table.ofFn fun i => m.octets.getD i.val 0⟩ ∧
      (t.ap.send.get u).blocks = xs ∧ (t.trunk u).transmit = [] ∧ (t.trunk u).sentOctets = 0)) ∧
  (∀ (s : State) (u : TrunkNo) (os : List Octet) (b : Buffer), s.held = false →
    (∀ m, (s.trunk u).transmit.head? = some m → (s.trunk u).sentOctets < m.octets.length) →
    os = ((s.trunk u).transmit.flatMap DeskMessage.octets).drop (s.trunk u).sentOctets → b = s.ap.send.get u →
    ∃ t block, exec (.trunkFrameSent u) s = .next t ∧
      t = { s with
        ti := { s.ti with
          trunks := s.ti.trunks.set u
            { s.trunk u with
              transmit := (t.trunk u).transmit, sentOctets := (t.trunk u).sentOctets
              lastFrame := some ⟨0x3CC3, block, Table.ofFn fun i => os.getD i.val 0⟩ } }
        ap := { s.ap with
          send := s.ap.send.set u (t.ap.send.get u), slips := s.ap.slips.set u (t.ap.slips.get u) } } ∧
      ((t.trunk u).transmit.flatMap DeskMessage.octets).drop (t.trunk u).sentOctets = os.drop 16 ∧
      (t.trunk u).transmit <:+ (s.trunk u).transmit ∧
      (∀ m, (t.trunk u).transmit.head? = some m → (t.trunk u).sentOctets < m.octets.length) ∧
      (∀ x xs, b.blocks = x :: xs → block = x ∧ t.ap.send.get u = ⟨xs, false, some x⟩ ∧
        t.ap.slips.get u = s.ap.slips.get u) ∧
      (b.blocks = [] → b.last = none → block = Config.silenceBlock ∧ t.ap.send.get u = b ∧
        t.ap.slips.get u = s.ap.slips.get u) ∧
      (∀ x, b.blocks = [] → b.last = some x → b.repeated = false →
        block = x ∧ t.ap.send.get u = { b with repeated := true } ∧
        t.ap.slips.get u = min (s.ap.slips.get u + 1) 65535) ∧
      (b.blocks = [] → b.last ≠ none → b.repeated = true →
        block = Config.silenceBlock ∧ t.ap.send.get u = b ∧ t.ap.slips.get u = s.ap.slips.get u))

/-- OFFER_TIMER_EXPIRY and DECLINE end an offer: WITHDRAW with its cause is made, the trunk enters GUARD with
the guard time in force, and the call is in the queue, its entry time and aging mark the running time, or offered
elsewhere, with its offer count raised, its class kept and its chain going on (R80, R81, R110, R111, R115). No call
ends, and journal, lines, directory, time base, measurement, announcement tables and the rest of the other trunks stay.
DECLINE in any other case is answered STALE and changes nothing else (R110). Taking a request that does not wait
is the model's choice (log entry 4). -/
def Obligations.EndedOfferReturnsTheCall : Prop :=
  (∀ (s : State) (u : TrunkNo) (p : LineNo) (c : Call), s.callAt p c →
    (s.trunk u).state = .offering → (s.trunk u).current = some c.ref → c.state = .offered →
    ∀ i cause, (i = .offerTimerExpiry u ∧ s.held = false ∧ (s.trunk u).offerTimer = some 0 ∧
          cause = Cause.timeout ∨
        i = .decline u c.ref ∧ s.deskReady u (.decline c.ref) ∧ cause = Cause.declined) →
      ∃ t d, exec i s = .next t ∧
        ((s.trunk u).link = .up → (s.trunk u).transmit.length < 8 →
          DeskMessage.withdraw c.ref cause ∈ (t.trunk u).transmit) ∧
        (t.trunk u).state = .guard_ ∧ (t.trunk u).guardTimer = some s.ti.guardTime ∧
        (t.trunk u).current = none ∧
        t.cc.calls.get p = some d ∧ c.sameCall d ∧ d.offerCount = min (c.offerCount + 1) 255 ∧
        d.effective = c.effective ∧ d.rescued = c.rescued ∧
        (d.state = .waiting ∧ d.trunk = none ∧ c.ref ∈ t.cc.queue ∧ d.queueEntry = some s.cc.now ∧
            d.agingMark = some s.cc.now ∨
          d.state = .offered ∧ d.trunk ≠ some u) ∧
        t.ap.players.get p = s.ap.players.get p ∧ s.deskFramed t u ∧ (t.trunk u).stack = (s.trunk u).stack ∧
        (t.trunk u).requests =
          if i = .offerTimerExpiry u then (s.trunk u).requests else (s.trunk u).requests.tail) ∧
  (∀ (s : State) (u : TrunkNo) (r : CallRef), s.deskReady u (.decline r) →
    ((s.trunk u).state ≠ .offering ∨ (s.trunk u).current ≠ some r) →
    exec (.decline u r) s = .next ((s.tookRequest u).sendDesk u (.refuse (.decline r) .stale)))

/-- GUARD_TIMER_EXPIRY: the trunk enters IDLE at the running time (R97, R115). With every call in its place and no
other trunk of its group eligible-idle, a primary trunk then takes the head of the queue with its OFFER (R85, R87,
R108), and an overflow trunk, no primary trunk being eligible-idle, the first queued call that qualifies (R86);
with the queue empty, or no call that qualifies, it stays IDLE.
An allocation pass offers the head of the queue on the longest idle primary trunk, and with no primary trunk
eligible-idle the first call that qualifies on the longest idle overflow trunk (R84, R85, R86); after it no primary
trunk is eligible-idle while a call waits, and no overflow trunk while a call that qualifies waits (R85, R86). After a change of
the queue or of a trunk's service or link, which the pass follows, and after a pass, the no-trunk flag is set exactly if
calls wait and no trunk is IN SERVICE with its link UP; a flag that this sets makes NO TRUNK with the number queued, one
that it clears TRUNKS RESTORED, TRUNK AVAILABLE if such a trunk stands and else QUEUE EMPTY, and a flag that stays makes
nothing (R121).
TRUNK_RESET_AFTER_DRAIN: a trunk that has sent out its list takes the values of R122, and its buffers are
emptied (R123, R163). That a trunk being reset is not eligible-idle until then is the model's reading (DEDUCED, log
entry 17). -/
def Obligations.GuardEndsAndDrainedTrunkResets : Prop :=
  (∀ (s : State) (u : TrunkNo), s.held = false → (s.trunk u).state = .guard_ → (s.trunk u).guardTimer = some 0 →
     ∃ t, exec (.guardTimerExpiry u) s = .next t ∧
       ((t.trunk u).state = .idle ∨ (t.trunk u).state = .offering) ∧ (t.trunk u).guardTimer = none ∧
       (s.cc.queue = [] → t.trunk u =
         { s.trunk u with
           state := .idle, current := none, offerTimer := none, guardTimer := none, idleSince := some s.cc.now }) ∧
       (∀ p c i, s.callsPlaced → (s.trunk u).draining = false → (s.trunk u).group = .primary →
         (∀ v, (s.trunk v).group = .primary → (s.trunk v).eligible = false) →
         s.cc.queue.head? = some c.ref → s.callAt p c → c.identity = some i → s.offeredOn t u p c i) ∧
       (s.callsPlaced → (s.trunk u).draining = false → (s.trunk u).group = .overflow →
         (∀ v, (s.trunk v).eligible = false) →
         (∀ p c i before rest, s.cc.queue = before ++ c.ref :: rest → s.callAt p c → c.identity = some i →
           s.mayOverflow c → (∀ r ∈ before, ∀ e, s.callOfRef r = some e → ¬ s.mayOverflow e) →
           s.offeredOn t u p c i) ∧
         ((∀ r ∈ s.cc.queue, ∀ e, s.callOfRef r = some e → ¬ s.mayOverflow e) →
           (t.trunk u).state = .idle ∧ (t.trunk u).idleSince = some s.cc.now ∧ t.cc.queue = s.cc.queue))) ∧
  (∀ (s : State) (u : TrunkNo) (p : LineNo) (c : Call) (i : CallIdentity), s.callsPlaced → s.callAt p c →
     c.identity = some i →
     (s.firstIdle .primary u → s.cc.queue.head? = some c.ref → s.offeredOn s.pass u p c i) ∧
     (∀ before rest, (∀ v, (s.trunk v).group = .primary → (s.trunk v).eligible = false) →
       s.firstIdle .overflow u → s.cc.queue = before ++ c.ref :: rest → s.mayOverflow c →
       (∀ r ∈ before, ∀ e, s.callOfRef r = some e → ¬ s.mayOverflow e) → s.offeredOn s.pass u p c i)) ∧
  (∀ (s t : State), s.callsPlaced → t = s.pass →
     ((∃ v, (t.trunk v).group = .primary ∧ (t.trunk v).eligible = true) → t.cc.queue = []) ∧
     ((∃ v, (t.trunk v).group = .overflow ∧ (t.trunk v).eligible = true) →
       ∀ r ∈ t.cc.queue, ∀ e, t.callOfRef r = some e → ¬ t.mayOverflow e)) ∧
  (∀ (s t : State), t = s.changed ∨ t = s.pass →
     (t.ti.noTrunk = true ↔ t.cc.queue ≠ [] ∧
       ∀ v, ¬ ((t.trunk v).service = .inService ∧ (t.trunk v).link = .up)) ∧
     (t.ti.noTrunk = s.ti.noTrunk → t.link = s.link) ∧
     (s.ti.noTrunk = false → t.ti.noTrunk = true → s.link.reports < 16 →
       t.link = { s.link with output := s.link.output ++ [.report (.noTrunk t.cc.queue.length)] }) ∧
     (s.ti.noTrunk = true → t.ti.noTrunk = false → s.link.reports < 16 → ∃ available : Bool,
       (available = true ↔ ∃ v, (t.trunk v).service = .inService ∧ (t.trunk v).link = .up) ∧
       t.link = { s.link with output := s.link.output ++ [.report (.trunksRestored available)] }) ∧
     (t.ti.noTrunk ≠ s.ti.noTrunk → 16 ≤ s.link.reports → t.link = { s.link with reportLoss := true })) ∧
  (∀ (s : State) (u : TrunkNo), s.held = false → (s.trunk u).draining = true → (s.trunk u).transmit = [] →
     ∃ t, exec (.trunkResetAfterDrain u) s = .next t ∧
       t.trunk u = { Trunk.initial (if u.val < 6 then .primary else .overflow) with
         lastFrame := (s.trunk u).lastFrame } ∧
       t.ap.receive.get u = Buffer.empty ∧ t.ap.send.get u = Buffer.empty ∧ t.ap.slips.get u = 0 ∧
       t.lines = s.lines ∧ t.journal = s.journal)

/-! ### Desk requests -/

/-- ACCEPT of the current offer connects the call to the trunk and is answered CONFIRM; in any other case it is
answered STALE and changes nothing else (R88, R109).
RELEASE of the current call of a CONNECTED trunk ends it DESK RELEASE: CONFIRM, no CLEAR, the trunk in
GUARD; in any other case it is answered STALE and changes nothing else (R91, R119). Where the current call of every
CONNECTED trunk has it as its trunk (R97), no other message goes to the desk. Taking a request that does not wait is
the model's choice (log entry 4). -/
def Obligations.AcceptAndReleaseActOnTheCurrentCall : Prop :=
  (∀ (s : State) (u : TrunkNo) (r : CallRef), s.deskReady u (.accept r) →
     (∀ p c, s.callAt p c → c.ref = r → (s.trunk u).state = .offering → (s.trunk u).current = some r →
       ∃ t, exec (.accept u r) s = .next t ∧ t.ap = { s.ap with players := s.ap.players.set p .inactive } ∧
         t.cc.calls.get p = some (c.connected u s.cc.now ⟨s.time.seconds, s.time.phase, s.time.state⟩) ∧
         (t.trunk u).state = .connected ∧ (t.trunk u).current = some r ∧ (t.trunk u).offerTimer = none ∧
         ((s.trunk u).transmit.length < 8 →
           (t.trunk u).transmit = (s.trunk u).transmit ++ [.confirm (.accept r)]) ∧
         t.link = s.link ∧ t.journal = s.journal ∧ t.cc.queue = s.cc.queue ∧ t.lines = s.lines) ∧
     (((s.trunk u).state ≠ .offering ∨ (s.trunk u).current ≠ some r) →
       exec (.accept u r) s = .next ((s.tookRequest u).sendDesk u (.refuse (.accept r) .stale)))) ∧
  (∀ (s : State) (u : TrunkNo) (r : CallRef), s.deskReady u (.release r) →
     (∀ p c, s.callAt p c → c.ref = r → (s.trunk u).state = .connected → (s.trunk u).current = some r →
       c.trunk = some u → (c.state = .connected ∨ c.state = .preempting ∨ c.state = .ringing) →
       ∃ t, exec (.release u r) s = .next t ∧ s.endedIn t p c .deskRelease ∧ (t.trunk u).state = .guard_ ∧
         (t.trunk u).current = none ∧
         ((s.trunk u).transmit.length < 8 →
           (∃ more, (t.trunk u).transmit = (s.trunk u).transmit ++ .confirm (.release r) :: more) ∧
           ((∀ v q e, (s.trunk v).state = .connected → (s.trunk v).current = some e.ref →
               s.cc.calls.get q = some e → e.trunk = some v) →
             (t.trunk u).transmit = (s.trunk u).transmit ++ [.confirm (.release r)]))) ∧
     (((s.trunk u).state ≠ .connected ∨ (s.trunk u).current ≠ some r) →
       exec (.release u r) s = .next ((s.tookRequest u).sendDesk u (.refuse (.release r) .stale))))

/-- HOLD of the CONNECTED current call with room on the stack: the call is HELD on top of the stack with its
reminder due in 120 s, on the hold chain, and the trunk leaves it for IDLE or a new offer (R125, R131); no call ends, and
journal, lines, directory, time base, measurement, announcement tables and the rest of the other trunks stay.
HOLD is refused STALE for a call that is not the trunk's current call, STATE for one that is not
CONNECTED, FULL with three calls on the stack, and then changes nothing else (R126). Taking a request that does not
wait is the model's choice (log entry 4). -/
def Obligations.HoldStacksTheCallOrIsRefused : Prop :=
  (∀ (s : State) (u : TrunkNo) (p : LineNo) (c : Call), s.deskReady u (.hold c.ref) → s.callAt p c →
     (s.trunk u).state = .connected → (s.trunk u).current = some c.ref → c.state = .connected →
     (s.trunk u).stack.length < 3 →
     ∃ t d, exec (.hold u c.ref) s = .next t ∧ (t.trunk u).stack = c.ref :: (s.trunk u).stack ∧
       ((t.trunk u).state = .idle ∨ (t.trunk u).state = .offering) ∧
       ((s.trunk u).transmit.length < 8 → DeskMessage.confirm (.hold c.ref) ∈ (t.trunk u).transmit) ∧
       t.cc.calls.get p = some d ∧ c.sameCall d ∧ d.state = .held ∧ d.holdCount = min (c.holdCount + 1) 255 ∧
       d.trunk = c.trunk ∧ d.connectedMark = none ∧ d.connectTime = c.connectTime ∧
       d.heldAt = some s.cc.now ∧ d.reminderIn = some 120000 ∧
       t.ap.players.get p = .active s.ap.holdChain (startStep (s.ap.chains.get s.ap.holdChain) 1) ∧
       s.deskFramed t u ∧ (t.trunk u).requests = (s.trunk u).requests.tail) ∧
  (∀ (s : State) (u : TrunkNo) (r : CallRef), s.deskReady u (.hold r) →
     (((s.trunk u).state ≠ .connected ∨ (s.trunk u).current ≠ some r) →
       exec (.hold u r) s = .next ((s.tookRequest u).sendDesk u (.refuse (.hold r) .stale))) ∧
     (∀ p c, s.callAt p c → c.ref = r → (s.trunk u).state = .connected → (s.trunk u).current = some r →
       (c.state ≠ .connected →
         exec (.hold u r) s = .next ((s.tookRequest u).sendDesk u (.refuse (.hold r) .state))) ∧
       (c.state = .connected → 3 ≤ (s.trunk u).stack.length →
         exec (.hold u r) s = .next ((s.tookRequest u).sendDesk u (.refuse (.hold r) .full)))))

/-- RETRIEVE on an IDLE or GUARD trunk connects the top call of its stack, answered by IDENT, and changes nothing but that
call, its channel and that trunk (R127). On an OFFERING
trunk it first withdraws the offer, whose call is in the queue again, or offered elsewhere, with its offer count,
class and rescue flag kept and its chain going on; WITHDRAW RETRIEVE comes before IDENT, and the pass that follows
may start the retrieved call's preemption, nothing else takes it (R81, R128); no call ends, and journal, lines, directory,
time base, measurement, announcement tables and the rest of the other trunks stay. It is refused BUSY on a CONNECTED
trunk and STATE with an empty stack, and then changes nothing else (R129).
IDENT_REQUEST for the current or a stacked call is answered by IDENT with its identity record, for any
other reference by REFUSE UNKNOWN REF; neither changes anything else (R120). Taking a request that does not wait is
the model's choice (log entry 4). -/
def Obligations.RetrieveAndIdentRequestAreAnswered : Prop :=
  (∀ (s : State) (u : TrunkNo), s.deskReady u .retrieve →
     (∀ p c rest, s.callAt p c → (s.trunk u).stack = c.ref :: rest →
       ((s.trunk u).state = .idle ∨ (s.trunk u).state = .guard_) →
       ∃ t, exec (.retrieve u) s = .next t ∧
         t.cc.calls.get p = some (c.connected u s.cc.now ⟨s.time.seconds, s.time.phase, s.time.state⟩) ∧
         t = { s.setTrunk u (t.trunk u) with
           cc := { s.cc with calls := s.cc.calls.set p (t.cc.calls.get p) }
           ap := { s.ap with players := s.ap.players.set p .inactive } } ∧
         t.trunk u =
           { s.trunk u with
             stack := rest, state := .connected, current := some c.ref, offerTimer := none, guardTimer := none
             idleSince := none, requests := (s.trunk u).requests.tail
             transmit := (t.trunk u).transmit, overruns := (t.trunk u).overruns } ∧
         (∀ i, c.identity = some i → (s.trunk u).transmit.length < 8 →
           (t.trunk u).transmit = (s.trunk u).transmit ++ [.ident ⟨c.ref, i.snapshot⟩])) ∧
     (∀ p q c e rest, s.callAt p c → s.callAt q e → p ≠ q → (s.trunk u).stack = c.ref :: rest →
       (s.trunk u).state = .offering → (s.trunk u).current = some e.ref → e.state = .offered →
       ∃ t d f, exec (.retrieve u) s = .next t ∧ (t.trunk u).stack = rest ∧ (t.trunk u).state = .connected ∧
         (t.trunk u).current = some c.ref ∧ (t.trunk u).offerTimer = none ∧
         t.cc.calls.get p = some d ∧ c.sameCall d ∧ d.trunk = some u ∧
         (d.state = .connected ∨ d.state = .preempting) ∧
         t.cc.calls.get q = some f ∧ e.sameCall f ∧ f.offerCount = e.offerCount ∧
         f.effective = e.effective ∧ f.rescued = e.rescued ∧
         (f.state = .waiting ∧ f.trunk = none ∧ e.ref ∈ t.cc.queue ∨
           f.state = .offered ∧ f.trunk ≠ some u) ∧
         t.ap.players.get q = s.ap.players.get q ∧
         (∀ i, c.identity = some i → (s.trunk u).transmit.length < 7 → ∃ more,
           (t.trunk u).transmit =
             (s.trunk u).transmit ++ .withdraw e.ref .retrieve :: .ident ⟨c.ref, i.snapshot⟩ :: more) ∧
         s.deskFramed t u ∧ (t.trunk u).requests = (s.trunk u).requests.tail) ∧
     ((s.trunk u).state = .connected →
       exec (.retrieve u) s = .next ((s.tookRequest u).sendDesk u (.refuse .retrieve .busy))) ∧
     ((s.trunk u).state ≠ .connected → (s.trunk u).stack = [] →
       exec (.retrieve u) s = .next ((s.tookRequest u).sendDesk u (.refuse .retrieve .state)))) ∧
  (∀ (s : State) (u : TrunkNo) (r : CallRef), s.deskReady u (.identRequest r) →
     (∀ p c i, s.callAt p c → c.ref = r → c.identity = some i →
       ((s.trunk u).current = some r ∨ r ∈ (s.trunk u).stack) →
       exec (.identRequest u r) s = .next ((s.tookRequest u).sendDesk u (.ident ⟨r, i.snapshot⟩))) ∧
     ((s.trunk u).current ≠ some r → r ∉ (s.trunk u).stack →
       exec (.identRequest u r) s =
         .next ((s.tookRequest u).sendDesk u (.refuse (.identRequest r) .unknownRef))))

/-- CALLBACK from an IDLE trunk to the line of a WAITING call connects that call to the trunk, out of the queue; the
pass that follows may start its preemption, nothing else takes it (R133, R134); no call ends, and journal, lines,
directory, time base, measurement, announcement tables and the rest of the other trunks stay. To the line of a call
OFFERED on another trunk it withdraws that offer TAKEN, that trunk entering GUARD, and connects the call, and changes
nothing but the call, its channel and the two trunks (R135).
CALLBACK from an IDLE trunk to an IDLE line that no live call names rings the post: a call of kind
CALLBACK with a ringing timeout of 60 s on the trunk, the line RINGING from position 0 of ON, and nothing else but the
two call counters changed (R35, R73, R74, R136); that all
this is one command (DEDUCED, log entry 28) and the call takes the free place of lowest number (log entry 7) is the
model's reading and choice.
CALLBACK is refused LINE UNAVAILABLE for a line above 47 whatever the trunk state, BUSY on a trunk that is
not IDLE, LINE UNAVAILABLE for a line that cannot be called, BUSY for a line whose call is ORIGINATING, LINE
BUSY for one whose call a desk has, BUSY with no live call for a line COLLECTING, ACTIVE or LOCKOUT, and by the
model's choice RINGING (log entry 34), and then changes nothing else (R107, R133). Taking a request that does not
wait is the model's choice too (log entry 4). -/
def Obligations.CallbackTakesRingsOrIsRefused : Prop :=
  (∀ (s : State) (u : TrunkNo) (l p : LineNo) (c : Call), s.deskReady u (.callback (lineOctet l)) →
     (s.trunk u).state = .idle → s.callAt p c → c.line = l → c.state = .waiting →
     (s.lines.get l).state ∉ [LineState.unequipped, .outOfService, .settling, .fault] →
     ∃ t d, exec (.callback u (lineOctet l)) s = .next t ∧ (t.trunk u).state = .connected ∧
       (t.trunk u).current = some c.ref ∧ t.cc.calls.get p = some d ∧ c.sameCall d ∧ d.trunk = some u ∧
       (d.state = .connected ∨ d.state = .preempting) ∧ d.offerCount = c.offerCount ∧
       d.effective = c.effective ∧ d.agingMark = none ∧ (s.cc.queue.Nodup → c.ref ∉ t.cc.queue) ∧
       (∀ i, c.identity = some i → (s.trunk u).transmit.length < 8 →
         DeskMessage.ident ⟨c.ref, i.snapshot⟩ ∈ (t.trunk u).transmit) ∧
       s.deskFramed t u ∧ (t.trunk u).stack = (s.trunk u).stack ∧
       (t.trunk u).requests = (s.trunk u).requests.tail) ∧
  (∀ (s : State) (u o : TrunkNo) (l p : LineNo) (c : Call), s.deskReady u (.callback (lineOctet l)) →
     (s.trunk u).state = .idle → s.callAt p c → c.line = l → c.state = .offered → c.trunk = some o → o ≠ u →
     (s.lines.get l).state ∉ [LineState.unequipped, .outOfService, .settling, .fault] →
     ∃ t, exec (.callback u (lineOctet l)) s = .next t ∧ (t.trunk u).state = .connected ∧
       (t.trunk u).current = some c.ref ∧
       t.cc.calls.get p = some (c.connected u s.cc.now ⟨s.time.seconds, s.time.phase, s.time.state⟩) ∧
       t.ap.players.get p = .inactive ∧ (t.trunk o).state = .guard_ ∧ (t.trunk o).current = none ∧
       (t.trunk o).offerTimer = none ∧ (t.trunk o).guardTimer = some s.ti.guardTime ∧
       ((s.trunk o).link = .up → (s.trunk o).transmit.length < 8 →
         (t.trunk o).transmit = (s.trunk o).transmit ++ [.withdraw c.ref .taken]) ∧
       (∀ i, c.identity = some i → (s.trunk u).transmit.length < 8 →
         (t.trunk u).transmit = (s.trunk u).transmit ++ [.ident ⟨c.ref, i.snapshot⟩]) ∧
       t = { State.setTrunk (s.setTrunk u (t.trunk u)) o (t.trunk o) with
         cc := { s.cc with calls := s.cc.calls.set p (t.cc.calls.get p) }
         ap := { s.ap with players := s.ap.players.set p .inactive } } ∧
       t.trunk u =
         { s.trunk u with
           state := .connected, current := some c.ref, offerTimer := none, guardTimer := none, idleSince := none
           requests := (s.trunk u).requests.tail
           transmit := (t.trunk u).transmit, overruns := (t.trunk u).overruns } ∧
       t.trunk o =
         { s.trunk o with
           state := .guard_, current := none, offerTimer := none, guardTimer := some s.ti.guardTime
           idleSince := none, transmit := (t.trunk o).transmit, overruns := (t.trunk o).overruns }) ∧
  (∀ (s : State) (u : TrunkNo) (l p : LineNo), s.deskReady u (.callback (lineOctet l)) →
     (s.trunk u).state = .idle →
     (s.lines.get l).state = .idle → s.placeOfLine l = none → s.freePlace = some p →
     ∃ t d, exec (.callback u (lineOctet l)) s = .next t ∧ (t.trunk u).state = .connected ∧
       (t.trunk u).current = some d.ref ∧ t.cc.calls.get p = some d ∧ d.line = l ∧ d.state = .ringing ∧
       d.trunk = some u ∧ d.ringingTimer = some 60000 ∧ d.connectTime = none ∧
       d.sequence = s.cc.lastSequence + 1 ∧
       d.identity = some (composeIdentity (s.dir.working.get l) l .absent true) ∧
       t = { s.setTrunk u (t.trunk u) with
         cc := { s.cc with
           calls := s.cc.calls.set p (some d), lastSequence := d.sequence
           nextRef := if d.ref.toNat = 65535 then 1 else d.ref + 1 }
         lines := s.lines.set l
           { s.lines.get l with state := .ringing, ringPhase := some .on, ringPosition := 0, loopCount := 0 } } ∧
       t.trunk u =
         { s.trunk u with
           state := .connected, current := some d.ref, offerTimer := none, guardTimer := none, idleSince := none
           requests := (s.trunk u).requests.tail
           transmit := (t.trunk u).transmit, overruns := (t.trunk u).overruns } ∧
       ((s.trunk u).transmit.length < 8 → (t.trunk u).transmit = (s.trunk u).transmit ++
         [.ident ⟨d.ref, (composeIdentity (s.dir.working.get l) l .absent true).snapshot⟩])) ∧
  (∀ (s : State) (u : TrunkNo) (o : Octet), s.deskReady u (.callback o) →
     (48 ≤ o.toNat →
       exec (.callback u o) s =
         .next ((s.tookRequest u).sendDesk u (.refuse (.callback o) .lineUnavailable))) ∧
     (∀ l : LineNo, o = lineOctet l → (s.trunk u).state ≠ .idle →
       exec (.callback u o) s = .next ((s.tookRequest u).sendDesk u (.refuse (.callback o) .busy))) ∧
     (∀ l : LineNo, o = lineOctet l → (s.trunk u).state = .idle →
       ((s.lines.get l).state = .unequipped ∨ (s.lines.get l).state = .outOfService ∨
         (s.lines.get l).state = .settling ∨ (s.lines.get l).state = .fault) →
       exec (.callback u o) s =
         .next ((s.tookRequest u).sendDesk u (.refuse (.callback o) .lineUnavailable))) ∧
     (∀ l : LineNo, o = lineOctet l → (s.trunk u).state = .idle → s.placeOfLine l = none →
       ((s.lines.get l).state = .collecting ∨ (s.lines.get l).state = .active ∨
         (s.lines.get l).state = .lockout ∨ (s.lines.get l).state = .ringing) →
       exec (.callback u o) s = .next ((s.tookRequest u).sendDesk u (.refuse (.callback o) .busy))) ∧
     (∀ p c, o = lineOctet c.line → (s.trunk u).state = .idle → s.callAt p c →
       (s.lines.get c.line).state ∉ [LineState.unequipped, .outOfService, .settling, .fault] →
       (c.state = .originating → exec (.callback u o) s =
         .next ((s.tookRequest u).sendDesk u (.refuse (.callback o) .busy))) ∧
       (c.state = .connected ∨ c.state = .held ∨ c.state = .preempting ∨ c.state = .ringing →
         exec (.callback u o) s =
           .next ((s.tookRequest u).sendDesk u (.refuse (.callback o) .lineBusy)))))

/-! ### Audio and time -/

/-- AUDIO_BLOCK_TICK: each receive buffer gives its oldest block, an empty one its last block again once, with a slip,
and silence after that or where no block was taken (R160); a CONNECTED call's post, and a PREEMPTING one's outside the
plays of the warning, hears the block taken from its trunk's buffer and its desk's send buffer receives the post's
block, a RINGING call's desk hears ringback in the ring-on, every trunk that is not CONNECTED to a CONNECTED, PREEMPTING
or RINGING call receives silence, and a block that finds four in the send buffer takes the place of the oldest, with a
slip (R158, R161); an UNEQUIPPED line is sent nothing, a line that is ringing
nothing, one without a call silence; the tables and the prompt store are as they were (R153, R157–R159). The silence
toward the desk of a RINGING call whose line has no ring phase is the model's choice (log entry 36).
The channel of a WAITING, OFFERED or HELD call, and that of a PREEMPTING one in its plays, is heard at the post: a
prompt block in a play, silence in a gap, for an empty clip and after the end of the chain (R150, R153, R157). Each
channel then advances: through its play and its gap, to the next play, the next step or the end, or to a repetition
of the wrap window (R150, R152, R153). -/
def Obligations.AudioTickJoinsPostAndDesk : Prop :=
  ∀ (s : State) (blocks : Table 48 Block), s.held = false →
    ∃ t, exec (.audioBlockTick blocks) s = .next t ∧
      (∀ u b x, b = s.ap.receive.get u →
        x = (match b.blocks, b.last with
          | y :: _, _ => y
          | [], some y => if b.repeated then Config.silenceBlock else y
          | [], none => Config.silenceBlock) →
        (∀ y ys, b.blocks = y :: ys → t.ap.receive.get u = ⟨ys, false, some y⟩) ∧
        (b.blocks = [] → t.ap.receive.get u = { b with repeated := b.repeated || b.last.isSome }) ∧
        (∀ slips, slips = (if b.blocks = [] ∧ b.last ≠ none ∧ b.repeated = false then
              min (s.ap.slips.get u + 1) 65535 else s.ap.slips.get u) →
          t.ap.slips.get u = if (s.ap.send.get u).blocks.length < 4 then slips else min (slips + 1) 65535) ∧
        ∀ p c, s.callAt p c → c.trunk = some u → (s.lines.get c.line).state ≠ .unequipped →
          (c.state = .connected ∨ c.state = .preempting ∧
            ∀ ch at_, s.ap.players.get p = .active ch (some at_) → at_.phase = .gap) →
          t.ap.toLines.get c.line = some x) ∧
      (∀ u b x, b = s.ap.send.get u →
        (∃ p c, s.callAt p c ∧ (c.state = .connected ∨ c.state = .preempting) ∧ (s.trunk u).state = .connected ∧
            (s.trunk u).current = some c.ref ∧ x = blocks.get c.line) ∨
          (∃ p c, s.callAt p c ∧ c.state = .ringing ∧ (s.trunk u).state = .connected ∧
            (s.trunk u).current = some c.ref ∧
            x = if (s.lines.get c.line).ringPhase = some .on then Config.ringbackBlock else Config.silenceBlock) ∨
          ((s.trunk u).state ≠ .connected ∨
            ∀ p c, s.cc.calls.get p = some c → (s.trunk u).current = some c.ref →
              c.state ≠ .connected ∧ c.state ≠ .preempting ∧ c.state ≠ .ringing) ∧ x = Config.silenceBlock →
        t.ap.send.get u =
          { b with blocks := if b.blocks.length < 4 then b.blocks ++ [x] else b.blocks.tail ++ [x] }) ∧
      (∀ l, (s.lines.get l).state = .unequipped → t.ap.toLines.get l = none) ∧
      (∀ l, (s.lines.get l).state ≠ .unequipped → s.placeOfLine l = none →
        t.ap.toLines.get l = some Config.silenceBlock) ∧
      (∀ p c, s.callAt p c → (s.lines.get c.line).state ≠ .unequipped →
        (c.state = .ringing → t.ap.toLines.get c.line = none) ∧
        (c.state = .originating → t.ap.toLines.get c.line = some Config.silenceBlock) ∧
        ∀ ch,
          (s.ap.players.get p = .active ch none →
            c.state = .waiting ∨ c.state = .offered ∨ c.state = .held →
            t.ap.toLines.get c.line = some Config.silenceBlock) ∧
          ∀ at_ st, s.ap.players.get p = .active ch (some at_) →
            (s.ap.chains.get ch)[at_.step - 1]? = some st →
            c.state = .waiting ∨ c.state = .offered ∨ c.state = .held ∨
              c.state = .preempting ∧ at_.phase = .clip →
            t.ap.toLines.get c.line = some (match at_.phase, s.ap.clips.get st.clip with
              | .clip, some k => s.ap.prompt.block (k.start + at_.position)
              | .clip, none => Config.silenceBlock
              | .gap, _ => Config.silenceBlock)) ∧
      (∀ p, s.ap.players.get p = .inactive → t.ap.players.get p = .inactive) ∧
      (∀ p ch, s.ap.players.get p = .active ch none → t.ap.players.get p = .active ch none) ∧
      (∀ p ch at_ st len next, s.ap.players.get p = .active ch (some at_) →
        (s.ap.chains.get ch)[at_.step - 1]? = some st →
        len = (match s.ap.clips.get st.clip with
          | some k => k.length
          | none => 1) →
        next = ((s.ap.chains.get ch)[at_.step]?).map (fun n =>
          Playing.mk (at_.step + 1) (if n.mode = .loop then .first else .nth 1) .clip 0) →
        (at_.phase = .clip → at_.position + 1 < len →
          t.ap.players.get p = .active ch (some { at_ with position := at_.position + 1 })) ∧
        (at_.phase = .clip → len ≤ at_.position + 1 → 0 < st.gap →
          t.ap.players.get p = .active ch (some { at_ with phase := .gap, position := 0 })) ∧
        (at_.phase = .gap → at_.position + 1 < st.gap →
          t.ap.players.get p = .active ch (some { at_ with position := at_.position + 1 })) ∧
        (at_.phase = .clip ∧ len ≤ at_.position + 1 ∧ st.gap = 0 ∨
            at_.phase = .gap ∧ st.gap ≤ at_.position + 1 →
          (st.mode = .once → t.ap.players.get p = .active ch next) ∧
          (∀ n k, st.mode = .times n → at_.play = .nth k → t.ap.players.get p = .active ch
            (if k < n then some { at_ with play := .nth (k + 1), phase := .clip, position := 0 } else next)) ∧
          (st.mode = .loop → t.ap.players.get p = .active ch (some
            { at_ with
              play := .again, phase := .clip
              position := match s.ap.clips.get st.clip with
                | some k => k.length - k.window.blocks k.length
                | none => 0 })))) ∧
      (∀ p, t.ap.players.get p = s.ap.advanced (s.ap.players.get p)) ∧
      t = { s with ap := { s.ap with
        toLines := t.ap.toLines, receive := t.ap.receive, send := t.ap.send, slips := t.ap.slips
        players := t.ap.players } }

/-- SECOND_PULSE: its offset from the nearest second is kept, the watchdog restarts; a good pulse aligns the phase, an
early one taking the boundary, and a bad one leaves count and phase; the time state moves by the runs, a change being
reported (R167, R168, R169). A pending load is applied at a good pulse in LOCKED or HOLDOVER, and at the entry to
FREE that a third bad pulse brings, and otherwise kept (R168).
PULSE_WATCHDOG_EXPIRY takes LOCKED to HOLDOVER with its TIME STATE report; INTERNAL_SECOND_BOUNDARY takes
the phase from 999 to 0 and raises the seconds count, the last count giving 0 (R164, R168, R169). That the boundary is
a command of its own, which acts at phase 999 and leaves all else as it was, is the model's choice (log entries 1
and 3). -/
def Obligations.PulsesWatchdogAndSecondBoundary : Prop :=
  (∀ (s : State) (off : Int), s.held = false → s.time.pendingLoad = none →
     off = (if s.time.phase ≤ 499 then (s.time.phase : Int) else (s.time.phase : Int) - 1000) →
     ∃ t, exec .secondPulse s = .next t ∧ t.time.lastOffset = some off ∧ t.time.watchdog = some 0 ∧
       t.time.pendingLoad = none ∧
       (-50 ≤ off ∧ off ≤ 50 →
         t.time.phase = 0 ∧ t.time.seconds = (if off < 0 then s.time.seconds + 1 else s.time.seconds) ∧
         t.time.badRun = 0 ∧ t.time.goodRun = min (s.time.goodRun + 1) 2 ∧
         t.time.state =
           (match s.time.state with
            | .unset => .unset
            | .free => if min (s.time.goodRun + 1) 2 = 2 then .locked else .free
            | .locked => .locked
            | .holdover => .locked)) ∧
       (¬ (-50 ≤ off ∧ off ≤ 50) →
         t.time.phase = s.time.phase ∧ t.time.seconds = s.time.seconds ∧ t.time.goodRun = 0 ∧
         t.time.badRun = min (s.time.badRun + 1) 3 ∧
         t.time.state =
           (match s.time.state with
            | .unset => .unset
            | .free => .free
            | .locked => if min (s.time.badRun + 1) 3 = 3 then .free else .locked
            | .holdover => if min (s.time.badRun + 1) 3 = 3 then .free else .holdover)) ∧
       (t.time.state = s.time.state → t = { s with time := t.time })) ∧
  (∀ (s : State) (off : Int) (v : Word32), s.held = false → s.time.pendingLoad = some v →
     s.time.state = .locked ∨ s.time.state = .holdover →
     off = (if s.time.phase ≤ 499 then (s.time.phase : Int) else (s.time.phase : Int) - 1000) →
     ∃ t, exec .secondPulse s = .next t ∧ t.time.lastOffset = some off ∧ t.time.watchdog = some 0 ∧
       (-50 ≤ off ∧ off ≤ 50 →
         t.time.phase = 0 ∧ t.time.seconds = v ∧ t.time.pendingLoad = none ∧ t.time.badRun = 0 ∧
         t.time.goodRun = min (s.time.goodRun + 1) 2 ∧ t.time.state = .locked) ∧
       (¬ (-50 ≤ off ∧ off ≤ 50) →
         t.time.phase = s.time.phase ∧ t.time.goodRun = 0 ∧ t.time.badRun = min (s.time.badRun + 1) 3 ∧
         (2 ≤ s.time.badRun → t.time.seconds = v ∧ t.time.pendingLoad = none ∧ t.time.state = .free) ∧
         (s.time.badRun < 2 → t.time.seconds = s.time.seconds ∧ t.time.pendingLoad = some v ∧
           t.time.state = s.time.state)) ∧
       (t.time.state = s.time.state → t = { s with time := t.time })) ∧
  (∀ (s t : State), s.held = false → exec .secondPulse s = .next t → t.time.state ≠ s.time.state →
     t = { s with time := t.time, link := t.link } ∧
     (s.link.reports < 16 → t.link = { s.link with
       output := s.link.output ++ [.report (.timeState t.time.state s.time.state
         ⟨t.time.seconds, t.time.phase, t.time.state⟩)] })) ∧
  (∀ s : State, s.held = false →
     (s.time.state = .locked → s.time.watchdog = some 3000 → s.link.reports < 16 →
       exec .pulseWatchdogExpiry s = .next
         { s with
           time := { s.time with state := .holdover }
           link := { s.link with
             output := s.link.output ++
               [.report (.timeState .holdover .locked ⟨s.time.seconds, s.time.phase, .holdover⟩)] } }) ∧
     (s.time.phase = 999 →
       exec .internalSecondBoundary s = .next
         { s with time := { s.time with phase := 0, seconds := s.time.seconds + 1 } }))

/-! ### Store operations -/

/-- STORE_COMPLETION_DONE: the effect of the operation's kind on its bank, STORE FAULT and the latch clear,
nothing in flight, the other banks as they were, the STORE DONE report with DONE and the STORE record (R59–R62).
STORE_COMPLETION_FAULT: the working entries are unchanged, the area fails its check, the bank's lock flag
is clear and its STORE FAULT flag set, the latch clear and nothing in flight, with a STORE DONE report and a STORE
record of FAULT (R63); the next load gives the bank erased entries (R65). -/
def Obligations.StoreCompletionsTakeEffect : Prop :=
  (∀ (s : State) (op : StoreOp), s.held = false → s.dir.operation = some op → op.remaining = 0 →
     ∃ t, exec .storeCompletionDone s = .next t ∧ t.dir.operation = none ∧ t.dir.latch = false ∧
       t.dir.faults.get op.bank = false ∧ t.dir.locks.get op.bank = decide (op.kind = .lock) ∧
       (t.dir.areas.get op.bank).checks = true ∧
       (t.dir.areas.get op.bank).locked = decide (op.kind = .lock) ∧
       (∀ i, (t.dir.areas.get op.bank).entries.get i = t.dir.working.get (lineAt op.bank i)) ∧
       (∀ l, t.dir.working.get l =
         if op.kind = .erase ∧ bankOf l = op.bank then Entry.erased (s.dir.working.get l).service
         else s.dir.working.get l) ∧
       (∀ b, b ≠ op.bank → t.dir.areas.get b = s.dir.areas.get b ∧ t.dir.locks.get b = s.dir.locks.get b ∧
         t.dir.faults.get b = s.dir.faults.get b) ∧
       t.lines = s.lines ∧ t.cc = s.cc ∧ t.ti = s.ti ∧
       (s.link.reports + (if s.journal.levelDue then 1 else 0) < 16 →
         .report (.storeDone op.bank op.kind true) ∈ t.link.output) ∧
       (s.journal.exhausted = false →
         t.journal.records = Journal.append s.journal.records
           ⟨s.journal.nextSequence, ⟨s.time.seconds, s.time.phase, s.time.state⟩,
            .store op.bank op.kind true⟩)) ∧
  (∀ (s : State) (op : StoreOp), s.held = false → s.dir.operation = some op → op.remaining = 0 →
     ∃ t, exec .storeCompletionFault s = .next t ∧ t.dir.operation = none ∧ t.dir.latch = false ∧
       t.dir.working = s.dir.working ∧ t.dir.faults.get op.bank = true ∧ t.dir.locks.get op.bank = false ∧
       (t.dir.areas.get op.bank).checks = false ∧
       (∀ b, b ≠ op.bank → t.dir.areas.get b = s.dir.areas.get b ∧ t.dir.locks.get b = s.dir.locks.get b ∧
         t.dir.faults.get b = s.dir.faults.get b) ∧
       (∀ l, bankOf l = op.bank → t.dir.load.working.get l = Entry.erased .unequipped) ∧
       t.lines = s.lines ∧ t.cc = s.cc ∧ t.ti = s.ti ∧
       (s.link.reports + (if s.journal.levelDue then 1 else 0) < 16 →
         .report (.storeDone op.bank op.kind false) ∈ t.link.output) ∧
       (s.journal.exhausted = false →
         t.journal.records = Journal.append s.journal.records
           ⟨s.journal.nextSequence, ⟨s.time.seconds, s.time.phase, s.time.state⟩,
            .store op.bank op.kind false⟩))

/-! ### The node controller link -/

/-- START_OCTET_RECEIVED opens a frame in HUNTING, INTER_OCTET_TIMEOUT ends one after more than 20 ms with the
link error flag unchanged, and FRAME_RECEIVED of the octets of a request puts it on the input list (R178, R179).
FRAME_RECEIVED in HUNTING passes over every octet but a start octet with its stop bit (R178). A length octet of 0 or above
200, a code of 0x40 or above, a check that does not match, an octet without its stop bit inside a frame, and a frame
that finds two waiting discard the frame: the link error flag set, the receiver HUNTING, the input list as it was (R178,
R179). An octet after a gap of more than 20 ms is judged in HUNTING, the flag unchanged; a gap of 20 ms ends nothing
(R178). -/
def Obligations.LinkReceiverEvents : Prop :=
  ∀ s : State, s.held = false → s.link.service ≠ .starting →
    (s.link.receiver = .hunting →
      exec .startOctetReceived s = .next { s with link := { s.link with receiver := .receiving [] 0 } }) ∧
    (∀ os gap, s.link.receiver = .receiving os gap →
      (20 < gap → exec .interOctetTimeout s = .next { s with link := { s.link with receiver := .hunting } }) ∧
      (gap ≤ 20 → exec .interOctetTimeout s = .next s)) ∧
    (∀ (code : Octet) (body : List Octet), s.link.receiver = .hunting → code.toNat < 0x40 →
      body.length ≤ 199 →
      exec (.frameReceived ((enclose Config.frameStart code body).map fun o => RxOctet.mk o true)) s =
        .next (if s.link.inputs.length < 2 then
          { s with link := { s.link with inputs := s.link.inputs ++ [⟨code, body⟩] } }
        else { s with link := { s.link with linkError := true } })) ∧
    (∀ (o : RxOctet), s.link.receiver = .hunting → ¬ (o.value = 0x5A ∧ o.stopBit = true) →
      exec (.frameReceived [o]) s = .next s) ∧
    (∀ (len : Octet), s.link.receiver = .hunting → len = 0 ∨ 200 < len.toNat →
      exec (.frameReceived [⟨0x5A, true⟩, ⟨len, true⟩]) s =
        .next { s with link := { s.link with linkError := true } }) ∧
    (∀ (len code : Octet), s.link.receiver = .hunting → len ≠ 0 → len.toNat ≤ 200 → 0x40 ≤ code.toNat →
      exec (.frameReceived [⟨0x5A, true⟩, ⟨len, true⟩, ⟨code, true⟩]) s =
        .next { s with link := { s.link with linkError := true } }) ∧
    (∀ (len code hi lo : Octet) (body : List Octet), s.link.receiver = .hunting → len.toNat ≤ 200 →
      code.toNat < 0x40 → body.length + 1 = len.toNat →
      be16 hi lo ≠ ((len :: code :: body).map BitVec.toNat).sum % 65536 →
      exec (.frameReceived ((0x5A :: len :: code :: (body ++ [hi, lo])).map fun o => RxOctet.mk o true)) s =
        .next { s with link := { s.link with linkError := true } }) ∧
    (∀ os gap (o : RxOctet), s.link.receiver = .receiving os gap →
      (gap ≤ 20 → o.stopBit = false →
        exec (.frameReceived [o]) s =
          .next { s with link := { s.link with receiver := .hunting, linkError := true } }) ∧
      (gap ≤ 20 → os = [] → o.stopBit = true → o.value ≠ 0 → o.value.toNat ≤ 200 →
        exec (.frameReceived [o]) s =
          .next { s with link := { s.link with receiver := .receiving [o.value] 0 } }) ∧
      (20 < gap →
        exec (.frameReceived [o]) s = .next { s with link := { s.link with
          receiver := if o.value = 0x5A ∧ o.stopBit = true then .receiving [] 0 else .hunting } }))

/-- REPLY_SENT returns the NCL to WAITING where no run is owed: with no repetition, and at the end of one, its runs all
made or its index 47, the repetition then removed. Where a run is owed it is made for the next line, the index one up and
the runs remaining one down, checked, carried out and answered as a request of its own for that line would be, whichever
of the five repeatable requests is repeated (R180, R184, R185). REPORT_SENT takes the report off the list, and a READY
that waited for room is then placed (R181).
That the reply of a RESET carried out, and a reply sent while the NCL is not SERVING, leave the service state alone is the
model's choice (log entry 22). -/
def Obligations.SendingFreesTheOutputList : Prop :=
  ∀ (s sent : State) (r : Reply) (x : Report) (rest : List OutputItem), s.held = false →
    (s.link.output = .reply r :: rest →
      sent = { s with link := { s.link with output := rest, lastSent := r.octets } } →
      (s.link.service ≠ .serving ∨ r.request = 0x3F ∧ r.result = .done → exec .replySent s = .next sent) ∧
      (s.link.service = .serving → r.request ≠ 0x3F ∨ r.result ≠ .done →
        (s.link.repetition = none →
          exec .replySent s = .next { sent with link := { sent.link with service := .waiting } }) ∧
        (∀ rep, s.link.repetition = some rep → rep.remaining = 0 ∨ rep.index.val = 47 →
          exec .replySent s = .next
            { sent with link := { sent.link with service := .waiting, repetition := none } }) ∧
        (∀ (i : Instr) (code o : Octet) (fields : List Octet) (l m : LineNo) (n : Nat),
          s.link.repetition = some ⟨code, o :: fields, l, n + 1⟩ → m.val = l.val + 1 →
          (code = 0x10 ∧ i = .lineQuery (lineOctet m :: fields) ∧ fields.length = 1 ∨
            code = 0x11 ∧ i = .lineSet (lineOctet m :: fields) ∧ fields.length = 1 ∨
            code = 0x12 ∧ i = .lineTest (lineOctet m :: fields) ∧ fields.length = 0 ∨
            code = 0x13 ∧ i = .calSet (lineOctet m :: fields) ∧ fields.length = 5 ∨
            code = 0x14 ∧ i = .dirRead (lineOctet m :: fields) ∧ fields.length = 0) →
          ∃ t own reply, exec .replySent s = .next t ∧
            exec i { sent with link := { sent.link with service := .waiting, inputs := [], repeatCount := n } } =
              .next own ∧
            t = { own with link := { s.link with
              output := rest ++ [.reply reply], lastSent := r.octets
              repetition := some ⟨code, o :: fields, m, n⟩ } } ∧
            own.link.output = rest ++ [.reply reply] ∧ reply.request = code ∧
            reply.line = some (some (lineOctet m))) ∧
        (∀ (l m : LineNo) (n : Nat) (o : Octet), s.link.repetition = some ⟨0x12, [o], l, n + 1⟩ →
          m.val = l.val + 1 →
          exec .replySent s = .next
            { sent with link := { sent.link with
              output := rest ++ [.reply ⟨0x12, if m.val = 47 ∧ 0 < n then .endOfLines else .done,
                some (some (lineOctet m)), .measurement (s.snapshotOf m)⟩]
              repetition := some ⟨0x12, [o], m, n⟩ } }))) ∧
    (s.link.output = .report x :: rest → s.link.heldReady = none →
      exec .reportSent s = .next { s with link := { s.link with output := rest, lastSent := x.octets } }) ∧
    (∀ ready, s.link.output = .report x :: rest → s.link.heldReady = some ready →
      exec .reportSent s = .next
        { s with link := { s.link with
          output := rest ++ [.report ready], lastSent := x.octets, heldReady := none, service := .waiting } })

/-- A code that names no request, and a PARAM SET of a parameter it does not have, are answered UNKNOWN; REPEAT
keeps a count of 1–47 and refuses any other RANGE, leaving none; STATUS answers the flags and clears them
(R180, R182, R183, R186). Every request with a body of a length that section 10.2 does not allow it is refused RANGE,
a repeatable one with its line absent, and nothing else changes (R180, R184). -/
def Obligations.UnknownRepeatAndStatus : Prop :=
  (∀ (s : State) (code n : Octet) (body : List Octet),
    (s.ready code body →
      code.toNat ∉ [0x01, 0x02, 0x03, 0x10, 0x11, 0x12, 0x13, 0x14, 0x15, 0x16, 0x17, 0x18, 0x19, 0x20, 0x21,
        0x22, 0x23, 0x24, 0x25, 0x28, 0x29, 0x2A, 0x30, 0x31, 0x32, 0x3E, 0x3F] →
      exec (.unknownRequest code body) s = .next (s.answered ⟨code, .unknown, none, .nothing⟩)) ∧
    (s.ready 0x02 (n :: body) → (n.toNat = 0 ∨ 10 < n.toNat) → (body.length = 2 ∨ body.length = 16) →
      exec (.unknownRequest 0x02 (n :: body)) s = .next (s.answered ⟨0x02, .unknown, none, .nothing⟩)) ∧
    (s.ready 0x3E [n] →
      exec (.repeatPrefix [n]) s = .next
        (if 1 ≤ n.toNat ∧ n.toNat ≤ 47 then
          (s.answered ⟨0x3E, .done, none, .nothing⟩).mapLink fun k => { k with repeatCount := n.toNat }
        else s.answered ⟨0x3E, .range, none, .nothing⟩)) ∧
    (s.ready 0x01 [] →
      exec (.status []) s = .next
        ((s.answered ⟨0x01, .done, none, .status s.statusValues⟩).mapLink fun k =>
          { k with linkError := false, reportLoss := false }))) ∧
  (∀ (s : State) (i : Instr) (f : Frame) (allowed : Nat → Bool), i.request = some f → s.ready f.code f.body →
    (∀ c b, i ≠ .unknownRequest c b) → requestLength f.code = some allowed → allowed f.body.length = false →
    exec i s = .next (s.answered ⟨f.code, .range,
      if f.code.toNat ∈ [0x10, 0x11, 0x12, 0x13, 0x14] then some none else none, .nothing⟩)) ∧
  (∀ (code : Octet) (n : Nat) (allowed : Nat → Bool), requestLength code = some allowed →
    (code.toNat ∈ [0x01, 0x03, 0x16, 0x32, 0x3F] → allowed n = decide (n = 0)) ∧
    (code.toNat ∈ [0x12, 0x14, 0x17, 0x18, 0x19, 0x20, 0x25, 0x30, 0x3E] → allowed n = decide (n = 1)) ∧
    (code.toNat ∈ [0x10, 0x11, 0x21, 0x22, 0x23] → allowed n = decide (n = 2)) ∧
    (code.toNat = 0x24 → allowed n = decide (n = 3)) ∧ (code.toNat = 0x31 → allowed n = decide (n = 4)) ∧
    (code.toNat = 0x13 ∨ code.toNat = 0x29 → allowed n = decide (n = 6)) ∧
    (code.toNat = 0x02 → allowed n = decide (n = 3 ∨ n = 17)) ∧
    (code.toNat = 0x15 → allowed n = decide (n = 28)) ∧ (code.toNat = 0x28 → allowed n = decide (n = 162)) ∧
    (code.toNat = 0x2A → allowed n = decide (n % 4 = 1)))

/-- PARAM_SET of a threshold set whose eight limits pass R12 replaces that set alone; limits that fail are
refused RANGE and nothing else changes (R12). So is a threshold set sent in another number of octets, the 3 octets of
the other parameters among them (R186, section 10.2). The order in which the body holds the eight limits is the model's
reading (DEDUCED, log entry 31). -/
def Obligations.ThresholdSetIsReplacedWhole : Prop :=
  (∀ (s : State) (t : Thresholds),
    (∀ x ∈ [t.foreignMax, t.openMin, t.openMax, t.presentMin, t.presentMax, t.loopMin, t.loopMax, t.shortMin],
      -32768 ≤ x ∧ x ≤ 32767) →
    (s.ready 0x02 (1 :: t.octets) → t.accepted →
      exec (.paramSetThresholdSet false t.octets) s = .next
        { s.answered ⟨0x02, .done, none, .nothing⟩ with lmu := { s.lmu with setA := t } }) ∧
    (s.ready 0x02 (2 :: t.octets) → t.accepted →
      exec (.paramSetThresholdSet true t.octets) s = .next
        { s.answered ⟨0x02, .done, none, .nothing⟩ with lmu := { s.lmu with setB := t } }) ∧
    (s.ready 0x02 (1 :: t.octets) → ¬ t.accepted →
      exec (.paramSetThresholdSet false t.octets) s = .next (s.answered ⟨0x02, .range, none, .nothing⟩)) ∧
    (s.ready 0x02 (2 :: t.octets) → ¬ t.accepted →
      exec (.paramSetThresholdSet true t.octets) s = .next (s.answered ⟨0x02, .range, none, .nothing⟩))) ∧
  (∀ (s : State) (setB : Bool) (value : List Octet), s.ready 0x02 ((if setB then 2 else 1) :: value) →
    value.length ≠ 16 →
    exec (.paramSetThresholdSet setB value) s = .next (s.answered ⟨0x02, .range, none, .nothing⟩))

/-- PARAM_SET of the other eight parameters: a value in its range replaces the parameter, and the aging period,
the escalation threshold and the minimum hold are followed by what their owners do; a value outside is
refused RANGE and nothing else changes (R83, R84, R117, R140, R155, R175, R186). So is a value sent in another number of
octets than two, the sixteen octets of a threshold set among them (R186, section 10.2). That a PARAM SET of the
minimum hold refused RANGE is followed by no examination, and one of the escalation threshold by a pass whether or
not the value differs from that in force, is the model's choice (log entry 38).
A new aging period has each call whose mark lies one new period or more in the past age once at that moment: its class
falls by one, not below 0, and its mark becomes that moment; other calls keep class and mark; with every call in its
place, the queue is exact and in key order after it (R79, R83). -/
def Obligations.ParametersTakeValuesInRange : Prop :=
  (∀ (s : State) (hi lo : Octet) (n : Nat), n = be16 hi lo →
    (s.ready 0x02 [3, hi, lo] →
      ((n = 0 ∨ 5 ≤ n ∧ n ≤ 120) →
        (∃ t, exec (.paramSetAgingPeriod [hi, lo]) s = .next t ∧ t.cc.agingPeriod = n ∧
          (s.callsPlaced → t.queueExact) ∧ t.journal = s.journal ∧ t.lines = s.lines ∧
          ∀ p c, s.cc.calls.get p = some c → ∃ d, t.cc.calls.get p = some d ∧ c.sameCall d ∧
            (s.agingDue n c = true → d.effective = c.effective - 1 ∧
              (d.state = .waiting ∧ d.agingMark = some s.cc.now ∨ d.state = .offered)) ∧
            (s.agingDue n c = false → d.effective = c.effective ∧
              (d.agingMark = c.agingMark ∨ d.state = .offered))) ∧
        ((∀ p c, s.cc.calls.get p = some c → s.agingDue n c = false) →
          exec (.paramSetAgingPeriod [hi, lo]) s = .next
            { s.answered ⟨0x02, .done, none, .nothing⟩ with cc := { s.cc with agingPeriod := n } })) ∧
      (¬ (n = 0 ∨ 5 ≤ n ∧ n ≤ 120) →
        exec (.paramSetAgingPeriod [hi, lo]) s = .next (s.answered ⟨0x02, .range, none, .nothing⟩))) ∧
    (s.ready 0x02 [4, hi, lo] →
      exec (.paramSetEscalationThreshold [hi, lo]) s = .next
        (if 1 ≤ n ∧ n ≤ 15 then
          { s.answered ⟨0x02, .done, none, .nothing⟩ with cc := { s.cc with escalation := n } }.pass
        else s.answered ⟨0x02, .range, none, .nothing⟩)) ∧
    (s.ready 0x02 [5, hi, lo] →
      exec (.paramSetOfferTime [hi, lo]) s = .next
        (if 5 ≤ n ∧ n ≤ 60 then
          { s.answered ⟨0x02, .done, none, .nothing⟩ with ti := { s.ti with offerTime := n } }
        else s.answered ⟨0x02, .range, none, .nothing⟩)) ∧
    (s.ready 0x02 [6, hi, lo] →
      exec (.paramSetGuardTime [hi, lo]) s = .next
        (if 100 ≤ n ∧ n ≤ 2000 then
          { s.answered ⟨0x02, .done, none, .nothing⟩ with ti := { s.ti with guardTime := n } }
        else s.answered ⟨0x02, .range, none, .nothing⟩)) ∧
    (s.ready 0x02 [7, hi, lo] →
      exec (.paramSetMinimumHold [hi, lo]) s = .next
        (if n ≤ 600 then
          { s.answered ⟨0x02, .done, none, .nothing⟩ with cc := { s.cc with minimumHold := n } }.examine
        else s.answered ⟨0x02, .range, none, .nothing⟩)) ∧
    (s.ready 0x02 [8, hi, lo] →
      exec (.paramSetHoldChain [hi, lo]) s = .next
        (if h : n < 16 then
          { s.answered ⟨0x02, .done, none, .nothing⟩ with ap := { s.ap with holdChain := ⟨n, h⟩ } }
        else s.answered ⟨0x02, .range, none, .nothing⟩)) ∧
    (s.ready 0x02 [9, hi, lo] →
      exec (.paramSetWarningChain [hi, lo]) s = .next
        (if h : n < 16 then
          { s.answered ⟨0x02, .done, none, .nothing⟩ with ap := { s.ap with warningChain := ⟨n, h⟩ } }
        else s.answered ⟨0x02, .range, none, .nothing⟩)) ∧
    (s.ready 0x02 [10, hi, lo] →
      exec (.paramSetJournalThreshold [hi, lo]) s = .next
        (if 1 ≤ n ∧ n ≤ 256 then
          { s.answered ⟨0x02, .done, none, .nothing⟩ with journal := { s.journal with threshold := n } }
        else s.answered ⟨0x02, .range, none, .nothing⟩))) ∧
  (∀ (s : State) (i : Instr) (id : Octet) (value : List Octet),
    (id, i) ∈ [(3, Instr.paramSetAgingPeriod value), (4, .paramSetEscalationThreshold value),
      (5, .paramSetOfferTime value), (6, .paramSetGuardTime value), (7, .paramSetMinimumHold value),
      (8, .paramSetHoldChain value), (9, .paramSetWarningChain value), (10, .paramSetJournalThreshold value)] →
    s.ready 0x02 (id :: value) → value.length ≠ 2 →
    exec i s = .next (s.answered ⟨0x02, .range, none, .nothing⟩))

/-- PARAM_QUERY answers DONE with every parameter in force, both threshold sets whole, and changes nothing
(R187).
TIME_QUERY answers DONE with the count, phase, time state, pending load, runs and last offset as they
stand, in that order of octets, and changes nothing (R166). -/
def Obligations.ParamQueryAndTimeQueryReturnValues : Prop :=
  (∀ s : State, s.ready 0x03 [] →
     exec (.paramQuery []) s = .next (s.answered ⟨0x03, .done, none, .parameters
       ⟨s.lmu.setA, s.lmu.setB, s.cc.agingPeriod, s.cc.escalation, s.ti.offerTime, s.ti.guardTime,
        s.cc.minimumHold, s.ap.holdChain, s.ap.warningChain, s.journal.threshold⟩⟩)) ∧
  (∀ s : State, s.ready 0x32 [] →
     exec (.timeQuery []) s = .next (s.answered ⟨0x32, .done, none, .time s.time⟩) ∧
     (ReplyValues.time s.time).octets =
       octets 4 s.time.seconds.toNat ++ octets 2 s.time.phase ++ [BitVec.ofNat 8 s.time.state.number] ++
         octetsOrOnes 4 (s.time.pendingLoad.map BitVec.toNat) ++
         [BitVec.ofNat 8 s.time.goodRun, BitVec.ofNat 8 s.time.badRun] ++ signedOctets s.time.lastOffset)

/-- TIME_SET answers DONE with the time state after it: in UNSET and FREE the count takes the value, the phase
kept and a pending load removed, UNSET becoming FREE; in LOCKED and HOLDOVER the value becomes the pending
load (R165). -/
def Obligations.TimeSetLoadsOrWaits : Prop :=
  ∀ (s : State) (a b c d : Octet), s.ready 0x31 [a, b, c, d] →
    ((s.time.state = .unset ∨ s.time.state = .free) → ∃ t, exec (.timeSet [a, b, c, d]) s = .next t ∧
      t.time = { s.time with
        seconds := BitVec.ofNat 32 (be32 a b c d), pendingLoad := none, state := .free } ∧
      (s.time.state = .free → t =
        { s.answered ⟨0x31, .done, none, .timeState .free⟩ with time := t.time }) ∧
      (s.time.state = .unset → s.link.reports < 16 → t.link.output = s.link.output ++
        [.reply ⟨0x31, .done, none, .timeState .free⟩,
         .report (.timeState .free .unset ⟨BitVec.ofNat 32 (be32 a b c d), s.time.phase, .free⟩)])) ∧
    ((s.time.state = .locked ∨ s.time.state = .holdover) →
      exec (.timeSet [a, b, c, d]) s = .next
        { s.answered ⟨0x31, .done, none, .timeState s.time.state⟩ with
          time := { s.time with pendingLoad := some (BitVec.ofNat 32 (be32 a b c d)) } })

/-- JOURNAL_READ of 1 to 8 answers DONE with the oldest records, oldest first, and the number left, and removes
them, the sequence counter kept; any other count is refused RANGE and nothing else changes (R174). -/
def Obligations.JournalReadTakesTheOldest : Prop :=
  ∀ (s : State) (n : Octet), s.ready 0x30 [n] →
    (1 ≤ n.toNat ∧ n.toNat ≤ 8 →
      exec (.journalRead [n]) s = .next
        { s.answered ⟨0x30, .done, none, .journal (s.journal.records.take n.toNat)
            (s.journal.records.length - n.toNat)⟩ with
          journal := { s.journal with records := s.journal.records.drop n.toNat } }) ∧
    (¬ (1 ≤ n.toNat ∧ n.toNat ≤ 8) →
      exec (.journalRead [n]) s = .next (s.answered ⟨0x30, .range, none, .nothing⟩))

/-- LINE_QUERY, LINE_TEST and DIR_READ of a line answer, as the first of their runs, with what stands, and
change nothing else, but for the flags that LINE QUERY clears with its option; a line above 47 is refused
RANGE with no further run (R42, R45, R52, R184, R185). -/
def Obligations.RepeatableReadsAnswerTheLine : Prop :=
  ∀ (s : State) (l : LineNo) (o option : Octet),
    (s.ready 0x10 [lineOctet l, option] →
      exec (.lineQuery [lineOctet l, option]) s = .next
        (let t := s.firstRun 0x10 (lineOctet l) [lineOctet l, option] (s.firstResult l)
          (.line (s.lines.get l).state (s.lines.get l).faultKind (s.lines.get l).flags (s.snapshotOf l))
        if option = 0 then t
        else { t with lines := s.lines.set l { s.lines.get l with flags := StickyFlags.clear } })) ∧
    (s.ready 0x12 [lineOctet l] →
      exec (.lineTest [lineOctet l]) s = .next
        (s.firstRun 0x12 (lineOctet l) [lineOctet l] (s.firstResult l) (.measurement (s.snapshotOf l)))) ∧
    (s.ready 0x14 [lineOctet l] →
      exec (.dirRead [lineOctet l]) s = .next
        (s.firstRun 0x14 (lineOctet l) [lineOctet l] (s.firstResult l)
          (.entry (s.dir.working.get l) (s.dir.locks.get (bankOf l))))) ∧
    (48 ≤ o.toNat → s.ready 0x10 [o, option] →
      exec (.lineQuery [o, option]) s = .next (s.answered ⟨0x10, .range, some (some o), .nothing⟩)) ∧
    (48 ≤ o.toNat → s.ready 0x12 [o] →
      exec (.lineTest [o]) s = .next (s.answered ⟨0x12, .range, some (some o), .nothing⟩)) ∧
    (48 ≤ o.toNat → s.ready 0x14 [o] →
      exec (.dirRead [o]) s = .next (s.answered ⟨0x14, .range, some (some o), .nothing⟩))

/-- CALL_LIST answers with the number of live calls and at most sixteen of them from the starting position in
ascending origination sequence; CALL_QUERY refuses reference 0 RANGE and one no live call holds UNKNOWN;
neither changes anything (R94, R95). -/
def Obligations.CallRequestsAnswerTheTable : Prop :=
  ∀ (s : State) (n hi lo : Octet),
    (s.ready 0x20 [n] → n.toNat ≤ 47 →
      ∃ calls : List Call, calls.Perm s.liveCalls ∧
        calls.Pairwise (fun c d => c.sequence.toNat ≤ d.sequence.toNat) ∧
        exec (.callList [n]) s = .next (s.answered ⟨0x20, .done, none,
          .callList s.liveCalls.length (((calls.drop n.toNat).take 16).map s.listEntry)⟩)) ∧
    (s.ready 0x20 [n] → 47 < n.toNat →
      exec (.callList [n]) s = .next (s.answered ⟨0x20, .range, none, .nothing⟩)) ∧
    (s.ready 0x21 [hi, lo] → refOf hi lo = 0 →
      exec (.callQuery [hi, lo]) s = .next (s.answered ⟨0x21, .range, none, .nothing⟩)) ∧
    (s.ready 0x21 [hi, lo] → refOf hi lo ≠ 0 → s.placeOfRef (refOf hi lo) = none →
      exec (.callQuery [hi, lo]) s = .next (s.answered ⟨0x21, .unknown, none, .nothing⟩)) ∧
    (∀ p c, s.ready 0x21 [hi, lo] → refOf hi lo ≠ 0 → s.callAt p c → c.ref = refOf hi lo →
      exec (.callQuery [hi, lo]) s = .next (s.answered ⟨0x21, .done, none,
        .call c (s.queuePosition c) (s.stackPosition c) (s.age c.createdAt / 1000)⟩))

/-- CLEAR_ARM: reference 0 is refused RANGE and one no live call holds UNKNOWN, the NCL then disarmed;
otherwise the NCL is armed with the reference and the reply is DONE; no call changes (R144). -/
def Obligations.ClearArmArmsALiveCall : Prop :=
  ∀ (s : State) (hi lo : Octet), s.ready 0x22 [hi, lo] →
    (refOf hi lo = 0 → exec (.clearArm [hi, lo]) s = .next (s.answered ⟨0x22, .range, none, .nothing⟩)) ∧
    (refOf hi lo ≠ 0 → s.placeOfRef (refOf hi lo) = none →
      exec (.clearArm [hi, lo]) s = .next (s.answered ⟨0x22, .unknown, none, .nothing⟩)) ∧
    (refOf hi lo ≠ 0 → s.placeOfRef (refOf hi lo) ≠ none →
      exec (.clearArm [hi, lo]) s = .next
        ((s.answered ⟨0x22, .done, none, .nothing⟩).mapLink fun k => { k with armed := some (refOf hi lo) })) ∧
    (s.answered ⟨0x22, .range, none, .nothing⟩).link.armed = none ∧
    (s.answered ⟨0x22, .unknown, none, .nothing⟩).link.armed = none

/-- CLEAR_CALL: armed with another reference or none it is refused STATE; armed with its own and no live call
UNKNOWN; otherwise DONE is placed and the call ends FORCED, as every end goes (R90, R91, R92); the NCL is disarmed
after it (R146). That the no-trunk judgement at a WAITING call's end comes after its CALL EVENT report is the model's
choice (log entry 9). -/
def Obligations.ClearCallForcesTheArmedCall : Prop :=
  ∀ (s : State) (hi lo : Octet), s.ready 0x23 [hi, lo] →
    (s.link.armed ≠ some (refOf hi lo) →
      exec (.clearCall [hi, lo]) s = .next (s.answered ⟨0x23, .state, none, .nothing⟩)) ∧
    (s.link.armed = some (refOf hi lo) → s.placeOfRef (refOf hi lo) = none →
      exec (.clearCall [hi, lo]) s = .next (s.answered ⟨0x23, .unknown, none, .nothing⟩)) ∧
    (∀ p c, s.link.armed = some (refOf hi lo) → s.callAt p c → c.ref = refOf hi lo →
      ∃ t, exec (.clearCall [hi, lo]) s = .next t ∧ s.endedIn t p c .forced ∧ t.link.armed = none ∧
        ∃ more, t.link.output = s.link.output ++ .reply ⟨0x23, .done, none, .nothing⟩ :: more)

/-- LINE_SET. A line above 47 or another service value is refused RANGE; then a COLLECTING, ACTIVE or RINGING line IN
USE; then a request that would change the service field LOCKED where the line's bank is locked, and BUSY while an
operation on that bank is in flight (R43, R54). A refusal changes nothing else.
A request that passes is answered DONE, or END OF LINES where line 47 leaves runs owed (R184, R185). The service field
is what the requested service asks for, the line state is that of R43's table, a line made UNEQUIPPED has its flags
cleared and its signalling state emptied (R20), measurement restarts or ends where the table says so and otherwise goes
on (R19, R21), a line that enters SETTLING keeps its flags alone (R28), and every other line is as it was. That a line
taken OUT OF SERVICE from FAULT loses its fault kind is the model's reading (DEDUCED, log entry 20). -/
def Obligations.LineSetFollowsItsTable : Prop :=
  (∀ (s : State) (line o : Octet), s.ready 0x11 [line, o] →
    (48 ≤ line.toNat →
      exec (.lineSet [line, o]) s = .next (s.answered ⟨0x11, .range, some (some line), .nothing⟩)) ∧
    (∀ l, line = lineOctet l → 3 ≤ o.toNat →
      exec (.lineSet [line, o]) s = .next (s.firstRun 0x11 line [line, o] .range .nothing))) ∧
  (∀ (s : State) (l : LineNo) (o : Octet) (v : LineService) (x : LineRecord) (e : Entry),
    s.ready 0x11 [lineOctet l, o] → lineServiceOf o = some v → x = s.lines.get l → e = s.dir.working.get l →
    (x.state = .collecting ∨ x.state = .active ∨ x.state = .ringing →
      exec (.lineSet [lineOctet l, o]) s = .next
        (s.firstRun 0x11 (lineOctet l) [lineOctet l, o] .inUse .nothing)) ∧
    (x.state ≠ .collecting → x.state ≠ .active → x.state ≠ .ringing →
      (v.field ≠ e.service → s.dir.locks.get (bankOf l) = true →
        exec (.lineSet [lineOctet l, o]) s = .next
          (s.firstRun 0x11 (lineOctet l) [lineOctet l, o] .locked .nothing)) ∧
      (∀ op, v.field ≠ e.service → s.dir.locks.get (bankOf l) = false → s.dir.operation = some op →
        op.bank = bankOf l →
        exec (.lineSet [lineOctet l, o]) s = .next
          (s.firstRun 0x11 (lineOctet l) [lineOctet l, o] .busy .nothing)) ∧
      ((v.field ≠ e.service →
          s.dir.locks.get (bankOf l) = false ∧ ∀ op, s.dir.operation = some op → op.bank ≠ bankOf l) →
        ∃ t, exec (.lineSet [lineOctet l, o]) s = .next t ∧
          t = { s.firstRun 0x11 (lineOctet l) [lineOctet l, o] (s.firstResult l) .nothing with
            dir := { s.dir with working := s.dir.working.set l { e with service := v.field } }
            lines := s.lines.set l (t.lines.get l)
            lmu := { s.lmu with records := s.lmu.records.set l (t.lmu.records.get l) } } ∧
          (t.lines.get l).state =
            (match v, x.state with
             | .unequipped, _ => .unequipped
             | .outOfService, _ => .outOfService
             | .inService, .unequipped => .settling
             | .inService, .outOfService => .settling
             | .inService, st => st) ∧
          (t.lines.get l).flags =
            (if v = .unequipped ∧ x.state ≠ .unequipped then StickyFlags.clear else x.flags) ∧
          (v = .unequipped → x.state ≠ .unequipped →
            t.lines.get l = LineRecord.fresh .unequipped StickyFlags.clear) ∧
          (v = .inService → x.state = .unequipped ∨ x.state = .outOfService →
            t.lines.get l = LineRecord.fresh .settling x.flags) ∧
          (v = .outOfService → x.state ≠ .unequipped → x.state ≠ .outOfService →
            t.lines.get l = { x with state := .outOfService, faultKind := none }) ∧
          ((t.lines.get l).state = x.state → t.lines.get l = x) ∧
          t.lmu.records.get l =
            (if v = .unequipped ∧ x.state ≠ .unequipped ∨ v ≠ .unequipped ∧ x.state = .unequipped ∨
                v = .inService ∧ x.state = .outOfService then
              Measurement.empty
            else s.lmu.records.get l))))

/-- CAL_SET, of the loop or the ground channel, and DIR_WRITE in range change the working entry as R55 and R56 give,
unless the line's bank is locked, which refuses them LOCKED, or has an operation in flight, which refuses them BUSY
(R54); an operation in flight on another bank hinders neither. Out of range they are refused RANGE before the bank
is looked at (R53, R54, R56).
CAL SET is out of range with a line above 47, a channel that is neither loop nor ground, or octets that are not those of
a gain of 1024–4095 and an offset of −200 to 200 (R56, R191). DIR WRITE is, with a line above 47 or an image that is not
that of an entry in range: EMPTY, its naming fields not looked at, or NAMED with a post number of 1–8 of the characters
A–Z, 0–9 and hyphen, padded with 0x00, an expected code up to 8999 or 0xFFFF, a carriageway of the three, a chainage up
to 999,999, a zone of the four and a bore 1–4 in the TUNNEL zone and 0 elsewhere; a waiting chain up to 15, threshold
set A or B and both calibrations in range. The entry takes these values and keeps its service (R53, R55, R191). -/
def Obligations.EditsChangeTheWorkingEntry : Prop :=
  (∀ (s : State) (l : LineNo) (ch g1 g0 o1 o0 : Octet) (cal : Calibration), ch = 0 ∨ ch = 1 →
    cal.coded g1 g0 o1 o0 → s.ready 0x13 [lineOctet l, ch, g1, g0, o1, o0] →
    (s.dir.locks.get (bankOf l) = false → (∀ op, s.dir.operation = some op → op.bank ≠ bankOf l) →
      exec (.calSet [lineOctet l, ch, g1, g0, o1, o0]) s = .next
        ((s.firstRun 0x13 (lineOctet l) [lineOctet l, ch, g1, g0, o1, o0] (s.firstResult l) .nothing).setEntry l
          (if ch = 0 then { s.dir.working.get l with loopCal := cal }
           else { s.dir.working.get l with groundCal := cal }))) ∧
    (s.dir.locks.get (bankOf l) = true →
      exec (.calSet [lineOctet l, ch, g1, g0, o1, o0]) s = .next
        (s.firstRun 0x13 (lineOctet l) [lineOctet l, ch, g1, g0, o1, o0] .locked .nothing)) ∧
    (∀ op, s.dir.locks.get (bankOf l) = false → s.dir.operation = some op → op.bank = bankOf l →
      exec (.calSet [lineOctet l, ch, g1, g0, o1, o0]) s = .next
        (s.firstRun 0x13 (lineOctet l) [lineOctet l, ch, g1, g0, o1, o0] .busy .nothing))) ∧
  (∀ (s : State) (line ch g1 g0 o1 o0 : Octet), s.ready 0x13 [line, ch, g1, g0, o1, o0] →
    (48 ≤ line.toNat →
      exec (.calSet [line, ch, g1, g0, o1, o0]) s = .next
        (s.answered ⟨0x13, .range, some (some line), .nothing⟩)) ∧
    (∀ l, line = lineOctet l → (2 ≤ ch.toNat ∨ ∀ cal : Calibration, ¬ cal.coded g1 g0 o1 o0) →
      exec (.calSet [line, ch, g1, g0, o1, o0]) s = .next
        (s.firstRun 0x13 line [line, ch, g1, g0, o1, o0] .range .nothing))) ∧
  (∀ (s : State) (l : LineNo) (image : List Octet) (e : Entry), image.length = 27 →
    s.ready 0x15 (lineOctet l :: image) → e.coded image → e.service = (s.dir.working.get l).service →
    (s.dir.locks.get (bankOf l) = false → (∀ op, s.dir.operation = some op → op.bank ≠ bankOf l) →
      exec (.dirWrite (lineOctet l :: image)) s = .next
        ((s.answered ⟨0x15, .done, none, .nothing⟩).setEntry l e)) ∧
    (s.dir.locks.get (bankOf l) = true →
      exec (.dirWrite (lineOctet l :: image)) s = .next (s.answered ⟨0x15, .locked, none, .nothing⟩)) ∧
    (∀ op, s.dir.locks.get (bankOf l) = false → s.dir.operation = some op → op.bank = bankOf l →
      exec (.dirWrite (lineOctet l :: image)) s = .next (s.answered ⟨0x15, .busy, none, .nothing⟩))) ∧
  (∀ (s : State) (line : Octet) (image : List Octet), image.length = 27 → s.ready 0x15 (line :: image) →
    (48 ≤ line.toNat ∨ ∀ e : Entry, ¬ e.coded image) →
    exec (.dirWrite (line :: image)) s = .next (s.answered ⟨0x15, .range, none, .nothing⟩))

/-- DIR_ENABLE sets the latch with nothing in flight and is refused BUSY otherwise (R57). DIR_COMMIT, DIR_LOCK and
DIR_ERASE with the latch set and nothing in flight are accepted for 150, 150 and 400 ms. A bank above 2 is refused
RANGE, an operation in flight on any bank BUSY, the latch clear NOT ENABLED, and a locked bank LOCKED but for DIR
ERASE, the first of these that applies; a refusal changes nothing else (R58). -/
def Obligations.StoreRequestsStartOperations : Prop :=
  (∀ s : State, s.ready 0x16 [] →
    (s.dir.operation = none →
      exec (.dirEnable []) s = .next
        { s.answered ⟨0x16, .done, none, .nothing⟩ with dir := { s.dir with latch := true } }) ∧
    (s.dir.operation ≠ none →
      exec (.dirEnable []) s = .next (s.answered ⟨0x16, .busy, none, .nothing⟩))) ∧
  (∀ (s : State) (o code : Octet) (i : Instr) (kind : StoreKind) (ms : Nat),
    (i = .dirCommit [o] ∧ code = 0x17 ∧ kind = .commit ∧ ms = 150 ∨
      i = .dirLock [o] ∧ code = 0x18 ∧ kind = .lock ∧ ms = 150 ∨
      i = .dirErase [o] ∧ code = 0x19 ∧ kind = .erase ∧ ms = 400) → s.ready code [o] →
    (3 ≤ o.toNat → exec i s = .next (s.answered ⟨code, .range, none, .nothing⟩)) ∧
    (∀ b : Fin 3, o = BitVec.ofNat 8 b.val →
      (s.dir.operation ≠ none → exec i s = .next (s.answered ⟨code, .busy, none, .nothing⟩)) ∧
      (s.dir.operation = none → s.dir.latch = false →
        exec i s = .next (s.answered ⟨code, .notEnabled, none, .nothing⟩)) ∧
      (s.dir.operation = none → s.dir.latch = true → kind ≠ .erase → s.dir.locks.get b = true →
        exec i s = .next (s.answered ⟨code, .locked, none, .nothing⟩)) ∧
      (s.dir.operation = none → s.dir.latch = true → (kind = .erase ∨ s.dir.locks.get b = false) →
        exec i s = .next
          { s.answered ⟨code, .accepted, none, .nothing⟩ with
            dir := { s.dir with operation := some ⟨b, kind, ms⟩ } })))

/-- TRUNK_SET. A trunk above 7, or a service or group value above 1, is refused RANGE; then OUT OF SERVICE for a
CONNECTED trunk or one with held calls IN USE; a refusal changes nothing else (R103).
A request that passes is answered DONE. It writes the group and takes the trunk to the state of R103's table, none of
its timers running in OUT OF SERVICE, a trunk that enters IDLE taking the running time as its idle-since and, being
eligible-idle, the offer that the pass has for it (R84, R85, R86, R97); where the table says no change the trunk goes
on, an IDLE one perhaps to an offer. An OFFERING trunk's offer is withdrawn OUT OF SERVICE: the call is in the queue
again, at its key, or offered elsewhere, with its offer count, class and rescue flag kept and its chain going on (R80,
R81, R112). A change of state makes a TRUNK STATE report with cause SERVICE and no journal record. No call ends; the
other trunks keep service, group, link and stack. A change of state has the no-trunk condition judged: the flag then
stands as the condition does, NO TRUNK made where it is set and TRUNKS RESTORED where it is cleared (R121).
The order of reply, report, judgement and pass is the model's choice (log entry 11). That a trunk being reset is set
like any other and then takes no offer is its reading (DEDUCED, log entry 17). -/
def Obligations.TrunkSetFollowsItsTable : Prop :=
  (∀ (s : State) (o v g : Octet), s.ready 0x24 [o, v, g] → 8 ≤ o.toNat ∨ 2 ≤ v.toNat ∨ 2 ≤ g.toNat →
    exec (.trunkSet [o, v, g]) s = .next (s.answered ⟨0x24, .range, none, .nothing⟩)) ∧
  (∀ (s : State) (u : TrunkNo) (v : TrunkService) (g : TrunkGroup) (body : List Octet) (x : Trunk),
    body = [BitVec.ofNat 8 u.val, BitVec.ofNat 8 v.number, BitVec.ofNat 8 g.number] → s.ready 0x24 body →
    x = s.trunk u →
    (v = .outOfService → x.state = .connected ∨ x.stack ≠ [] →
      exec (.trunkSet body) s = .next (s.answered ⟨0x24, .inUse, none, .nothing⟩)) ∧
    (v = .inService ∨ x.state ≠ .connected ∧ x.stack = [] → ∃ t more, exec (.trunkSet body) s = .next t ∧
      t.link.output = s.link.output ++ .reply ⟨0x24, .done, none, .nothing⟩ :: more ∧
      t = { s.answered ⟨0x24, .done, none, .nothing⟩ with
        link := { (s.answered ⟨0x24, .done, none, .nothing⟩).link with
          output := t.link.output, reportLoss := t.link.reportLoss }
        cc := { s.cc with calls := t.cc.calls, queue := t.cc.queue }
        ti := { s.ti with trunks := t.ti.trunks, noTrunk := t.ti.noTrunk }
        ap := { s.ap with players := t.ap.players } } ∧
      (t.trunk u).service = v ∧ (t.trunk u).group = g ∧ (t.trunk u).link = x.link ∧ (t.trunk u).stack = x.stack ∧
      (∀ st, x.tableState v = some st →
        ((t.trunk u).state = st ∨ st = .idle ∧ (t.trunk u).state = .offering) ∧
        (st = .outOfService → (t.trunk u).current = none ∧ (t.trunk u).offerTimer = none ∧
          (t.trunk u).guardTimer = none ∧ (t.trunk u).idleSince = none) ∧
        (s.link.reports < 16 → .report (.trunkState u st .service) ∈ more) ∧
        (16 ≤ s.link.reports → t.link.reportLoss = true) ∧
        (t.ti.noTrunk = true ↔ t.cc.queue ≠ [] ∧
          ∀ w, ¬ ((t.trunk w).service = .inService ∧ (t.trunk w).link = .up)) ∧
        (s.ti.noTrunk = false → t.ti.noTrunk = true → s.link.reports < 15 →
          .report (.noTrunk t.cc.queue.length) ∈ more) ∧
        (s.ti.noTrunk = true → t.ti.noTrunk = false → s.link.reports < 15 → ∃ available : Bool,
          (available = true ↔ ∃ w, (t.trunk w).service = .inService ∧ (t.trunk w).link = .up) ∧
          .report (.trunksRestored available) ∈ more) ∧
        (st = .idle →
          (s.cc.queue = [] ∨ x.draining = true → (t.trunk u).state = .idle ∧ (t.trunk u).idleSince = some s.cc.now) ∧
          ∀ p c i set, set = s.setTrunk u { x with service := v, group := g } → s.callsPlaced →
            x.draining = false →
            (∀ w, w ≠ u → (s.trunk w).group = .primary ∨ g = .overflow → (s.trunk w).eligible = false) →
            s.cc.queue.head? = some c.ref → s.callAt p c → c.identity = some i →
            (g = .primary ∨ set.mayOverflow c) → set.offeredOn t u p c i)) ∧
      (x.tableState v = none →
        (x.state ≠ .idle → (t.trunk u).state = x.state ∧ (t.trunk u).current = x.current ∧
          (t.trunk u).offerTimer = x.offerTimer ∧ (t.trunk u).guardTimer = x.guardTimer) ∧
        (x.state = .idle → (t.trunk u).state = .idle ∨ (t.trunk u).state = .offering) ∧
        (x.service = v → x.group = g → t = s.answered ⟨0x24, .done, none, .nothing⟩)) ∧
      (∀ p c, v = .outOfService → x.state = .offering → x.current = some c.ref → s.callAt p c →
        c.state = .offered → ∃ d, t.cc.calls.get p = some d ∧ c.sameCall d ∧ d.offerCount = c.offerCount ∧
          d.effective = c.effective ∧ d.rescued = c.rescued ∧
          (d.state = .waiting ∧ d.trunk = none ∧ c.ref ∈ t.cc.queue ∧ d.queueEntry = some s.cc.now ∧
              d.agingMark = some s.cc.now ∨
            d.state = .offered ∧ d.trunk ≠ some u) ∧
          t.ap.players.get p = s.ap.players.get p ∧
          (x.link = .up → x.transmit.length < 8 → ∃ after,
            (t.trunk u).transmit = x.transmit ++ .withdraw c.ref .outOfService :: after)) ∧
      (s.callsPlaced → t.queueExact) ∧
      (∀ p c, s.cc.calls.get p = some c → ∃ d, t.cc.calls.get p = some d ∧ c.sameCall d) ∧
      (∀ w, w ≠ u → (t.trunk w).service = (s.trunk w).service ∧ (t.trunk w).group = (s.trunk w).group ∧
        (t.trunk w).link = (s.trunk w).link ∧ (t.trunk w).stack = (s.trunk w).stack)))

/-- TRUNK_QUERY answers DONE with the trunk's record and slip count as they stand, and sets the slip count and
the three error counts of the trunk to 0; a trunk above 7 is refused RANGE; nothing else changes (R104). -/
def Obligations.TrunkQueryReturnsAndClearsCounts : Prop :=
  ∀ (s : State) (u : TrunkNo) (o : Octet),
    (o = BitVec.ofNat 8 u.val → s.ready 0x25 [o] →
      exec (.trunkQuery [o]) s = .next
        (({ s.answered ⟨0x25, .done, none, .trunk (s.trunk u) (s.ap.slips.get u)⟩ with
            ap := { s.ap with slips := s.ap.slips.set u 0 } }).setTrunk u
          { s.trunk u with frameErrors := 0, messageErrors := 0, overruns := 0 })) ∧
    (8 ≤ o.toNat → s.ready 0x25 [o] →
      exec (.trunkQuery [o]) s = .next (s.answered ⟨0x25, .range, none, .nothing⟩))

/-- PROMPT_WRITE replaces the 160 octets of its block and no other octet of the store; a block above 4095 is
refused RANGE (R148).
CLIP_SET and CHAIN_SET in range replace their entry, or empty it, unless an ACTIVE channel has it in use, which
refuses them IN USE; out of range they are refused RANGE: a clip above 31, a start above 4095, a clip that runs past
block 4095, a window of another size or longer than the clip; a chain above 15, or octets that are not those of at most
six steps, each with a clip up to 31, a mode of the three, a count of 2–15 where the mode is TIMES and a gap up to 50, LOOP
standing last only (R149, R151, R156, R191). -/
def Obligations.AnnouncementTablesAreReplaced : Prop :=
  (∀ (s : State) (hi lo : Octet) (os : List Octet), s.ready 0x28 (hi :: lo :: os) → os.length = 160 →
     (be16 hi lo ≤ 4095 → Memory.wf s.ap.prompt = true →
       ∃ t, exec (.promptWrite (hi :: lo :: os)) s = .next t ∧
         (∀ i, i < 160 → Memory.read t.ap.prompt (160 * be16 hi lo + i) = os.getD i 0) ∧
         (∀ a, a < 160 * be16 hi lo ∨ 160 * be16 hi lo + 160 ≤ a →
           Memory.read t.ap.prompt a = Memory.read s.ap.prompt a) ∧
         t = { s.answered ⟨0x28, .done, none, .nothing⟩ with ap := { s.ap with prompt := t.ap.prompt } }) ∧
     (4095 < be16 hi lo →
       exec (.promptWrite (hi :: lo :: os)) s = .next (s.answered ⟨0x28, .range, none, .nothing⟩))) ∧
  (∀ (s : State) (o s1 s0 l1 l0 w : Octet), s.ready 0x29 [o, s1, s0, l1, l0, w] →
     (∀ (clip : Fin 32) (window : WrapWindow), o = BitVec.ofNat 8 clip.val → be16 l1 l0 ≠ 0 →
       be16 s1 s0 ≤ 4095 → be16 s1 s0 + be16 l1 l0 ≤ 4096 →
       (w.toNat, window) ∈ [(0, .whole), (8, .w8), (16, .w16), (32, .w32), (64, .w64)] → w.toNat ≤ be16 l1 l0 →
       exec (.clipSet [o, s1, s0, l1, l0, w]) s = .next
         (if s.ap.clipInUse clip then s.answered ⟨0x29, .inUse, none, .nothing⟩
          else { s.answered ⟨0x29, .done, none, .nothing⟩ with
            ap := { s.ap with clips := s.ap.clips.set clip (some ⟨be16 s1 s0, be16 l1 l0, window⟩) } })) ∧
     (∀ clip : Fin 32, o = BitVec.ofNat 8 clip.val → be16 l1 l0 = 0 →
       exec (.clipSet [o, s1, s0, l1, l0, w]) s = .next
         (if s.ap.clipInUse clip then s.answered ⟨0x29, .inUse, none, .nothing⟩
          else { s.answered ⟨0x29, .done, none, .nothing⟩ with
            ap := { s.ap with clips := s.ap.clips.set clip none } })) ∧
     (32 ≤ o.toNat ∨ be16 l1 l0 ≠ 0 ∧
         (4095 < be16 s1 s0 ∨ 4096 < be16 s1 s0 + be16 l1 l0 ∨ w.toNat ∉ [0, 8, 16, 32, 64] ∨
           be16 l1 l0 < w.toNat) →
       exec (.clipSet [o, s1, s0, l1, l0, w]) s = .next (s.answered ⟨0x29, .range, none, .nothing⟩))) ∧
  (∀ (s : State) (o : Octet) (os : List Octet), s.ready 0x2A (o :: os) → os.length % 4 = 0 →
     (∀ (chain : Fin 16) (steps : List ChainStep), o = BitVec.ofNat 8 chain.val → chainCoded os steps →
       exec (.chainSet (o :: os)) s = .next
         (if s.ap.chainInUse chain then s.answered ⟨0x2A, .inUse, none, .nothing⟩
          else { s.answered ⟨0x2A, .done, none, .nothing⟩ with
            ap := { s.ap with chains := s.ap.chains.set chain steps } })) ∧
     (16 ≤ o.toNat ∨ (∀ steps, ¬ chainCoded os steps) →
       exec (.chainSet (o :: os)) s = .next (s.answered ⟨0x2A, .range, none, .nothing⟩)))
end

