-- ==== Sys2Proof/Laws/Table.lean ====
section
/-! SUPPORT. Reading a table after each of its updates. -/

namespace Sys2Proof.Table

variable {n : Nat} {α β : Type}

theorem get_eq (t : Table n α) (i : Fin n) : t.get i = t.cells[i.val]'(t.full.symm ▸ i.isLt) := rfl

@[ext] theorem ext_get {t u : Table n α} (h : ∀ i, t.get i = u.get i) : t = u := by
  obtain ⟨cs, hc⟩ := t
  obtain ⟨ds, hd⟩ := u
  congr
  refine List.ext_getElem (hc.trans hd.symm) fun i h₁ h₂ => ?_
  simpa [get] using h ⟨i, hc ▸ h₁⟩

@[simp] theorem get_set_self (t : Table n α) (i : Fin n) (a : α) : (t.set i a).get i = a := by
  simp [get_eq, set]

@[simp] theorem get_set_ne (t : Table n α) {i j : Fin n} (a : α) (h : i ≠ j) : (t.set i a).get j = t.get j := by
  have : i.val ≠ j.val := fun e => h (Fin.ext e)
  simp [get_eq, set, List.getElem_set_ne this]

theorem get_set (t : Table n α) (i j : Fin n) (a : α) : (t.set i a).get j = if i = j then a else t.get j := by
  split
  · next h => subst h; simp
  · next h => simp [h]

@[simp] theorem get_map (f : α → β) (t : Table n α) (i : Fin n) : (t.map f).get i = f (t.get i) := by
  simp [get_eq, map]

@[simp] theorem get_ofFn (f : Fin n → α) (i : Fin n) : (ofFn f).get i = f i := by
  simp [get_eq, ofFn]

@[simp] theorem get_fill (a : α) (i : Fin n) : (fill n a).get i = a := by
  simp [get_eq, fill]

@[simp] theorem get_modify_self (t : Table n α) (i : Fin n) (f : α → α) :
    (t.modify i f).get i = f (t.get i) := by
  simp [modify]

@[simp] theorem get_modify_ne (t : Table n α) {i j : Fin n} (f : α → α) (h : i ≠ j) :
    (t.modify i f).get j = t.get j := by
  simp [modify, h]

@[simp] theorem set_get (t : Table n α) (i : Fin n) : t.set i (t.get i) = t := by
  ext j
  rw [get_set]
  split
  · next h => rw [h]
  · rfl

/-- A property of every cell survives a `set` whose new cell has it. -/
theorem forall_set {P : α → Prop} {t : Table n α} (h : ∀ i, P (t.get i)) (i : Fin n) {a : α} (ha : P a)
    (j : Fin n) : P ((t.set i a).get j) := by
  rw [get_set]
  split
  · exact ha
  · exact h j

theorem get_mem (t : Table n α) (i : Fin n) : t.get i ∈ t.cells := List.get_mem _ _

theorem exists_get_of_mem {t : Table n α} {a : α} (h : a ∈ t.cells) : ∃ i, t.get i = a := by
  obtain ⟨i, hi, rfl⟩ := List.getElem_of_mem h
  exact ⟨⟨i, t.full ▸ hi⟩, rfl⟩

end Sys2Proof.Table
end

