-- ==== Sys2Proof/Laws/State.lean ====
section
/-! SUPPORT. Each field of the state after each update of section Ops, true by unfolding; no later proof
unfolds a record update. -/

namespace Sys2Proof.Machine

open Sys2Proof

variable (s : State)

/-! ### setLine -/

@[simp] theorem State.setLine_pending (l : LineNo) (x : LineRecord) :
    (s.setLine l x).pending = s.pending := rfl
@[simp] theorem State.setLine_held (l : LineNo) (x : LineRecord) : (s.setLine l x).held = s.held := rfl
@[simp] theorem State.setLine_lmu (l : LineNo) (x : LineRecord) : (s.setLine l x).lmu = s.lmu := rfl
@[simp] theorem State.setLine_lines (l : LineNo) (x : LineRecord) :
    (s.setLine l x).lines = s.lines.set l x := rfl
@[simp] theorem State.setLine_events (l : LineNo) (x : LineRecord) : (s.setLine l x).events = s.events := rfl
@[simp] theorem State.setLine_callEnds (l : LineNo) (x : LineRecord) :
    (s.setLine l x).callEnds = s.callEnds := rfl
@[simp] theorem State.setLine_dir (l : LineNo) (x : LineRecord) : (s.setLine l x).dir = s.dir := rfl
@[simp] theorem State.setLine_cc (l : LineNo) (x : LineRecord) : (s.setLine l x).cc = s.cc := rfl
@[simp] theorem State.setLine_ti (l : LineNo) (x : LineRecord) : (s.setLine l x).ti = s.ti := rfl
@[simp] theorem State.setLine_ap (l : LineNo) (x : LineRecord) : (s.setLine l x).ap = s.ap := rfl
@[simp] theorem State.setLine_time (l : LineNo) (x : LineRecord) : (s.setLine l x).time = s.time := rfl
@[simp] theorem State.setLine_journal (l : LineNo) (x : LineRecord) :
    (s.setLine l x).journal = s.journal := rfl
@[simp] theorem State.setLine_link (l : LineNo) (x : LineRecord) : (s.setLine l x).link = s.link := rfl
@[simp] theorem State.setLine_trunk (l : LineNo) (x : LineRecord) (t : TrunkNo) : (s.setLine l x).trunk t = s.trunk t := rfl

/-! ### mapLine -/

@[simp] theorem State.mapLine_pending (l : LineNo) (f : LineRecord → LineRecord) :
    (s.mapLine l f).pending = s.pending := rfl
@[simp] theorem State.mapLine_held (l : LineNo) (f : LineRecord → LineRecord) :
    (s.mapLine l f).held = s.held := rfl
@[simp] theorem State.mapLine_lmu (l : LineNo) (f : LineRecord → LineRecord) :
    (s.mapLine l f).lmu = s.lmu := rfl
@[simp] theorem State.mapLine_lines (l : LineNo) (f : LineRecord → LineRecord) :
    (s.mapLine l f).lines = s.lines.set l (f (s.lines.get l)) := rfl
@[simp] theorem State.mapLine_events (l : LineNo) (f : LineRecord → LineRecord) :
    (s.mapLine l f).events = s.events := rfl
@[simp] theorem State.mapLine_callEnds (l : LineNo) (f : LineRecord → LineRecord) :
    (s.mapLine l f).callEnds = s.callEnds := rfl
@[simp] theorem State.mapLine_dir (l : LineNo) (f : LineRecord → LineRecord) :
    (s.mapLine l f).dir = s.dir := rfl
@[simp] theorem State.mapLine_cc (l : LineNo) (f : LineRecord → LineRecord) : (s.mapLine l f).cc = s.cc := rfl
@[simp] theorem State.mapLine_ti (l : LineNo) (f : LineRecord → LineRecord) : (s.mapLine l f).ti = s.ti := rfl
@[simp] theorem State.mapLine_ap (l : LineNo) (f : LineRecord → LineRecord) : (s.mapLine l f).ap = s.ap := rfl
@[simp] theorem State.mapLine_time (l : LineNo) (f : LineRecord → LineRecord) :
    (s.mapLine l f).time = s.time := rfl
@[simp] theorem State.mapLine_journal (l : LineNo) (f : LineRecord → LineRecord) :
    (s.mapLine l f).journal = s.journal := rfl
@[simp] theorem State.mapLine_link (l : LineNo) (f : LineRecord → LineRecord) :
    (s.mapLine l f).link = s.link := rfl
@[simp] theorem State.mapLine_trunk (l : LineNo) (f : LineRecord → LineRecord) (t : TrunkNo) : (s.mapLine l f).trunk t = s.trunk t := rfl

/-! ### setMeasurement -/

@[simp] theorem State.setMeasurement_pending (l : LineNo) (m : Measurement) :
    (s.setMeasurement l m).pending = s.pending := rfl
@[simp] theorem State.setMeasurement_held (l : LineNo) (m : Measurement) :
    (s.setMeasurement l m).held = s.held := rfl
@[simp] theorem State.setMeasurement_lmu (l : LineNo) (m : Measurement) :
    (s.setMeasurement l m).lmu = { s.lmu with records := s.lmu.records.set l m } := rfl
@[simp] theorem State.setMeasurement_lines (l : LineNo) (m : Measurement) :
    (s.setMeasurement l m).lines = s.lines := rfl
@[simp] theorem State.setMeasurement_events (l : LineNo) (m : Measurement) :
    (s.setMeasurement l m).events = s.events := rfl
@[simp] theorem State.setMeasurement_callEnds (l : LineNo) (m : Measurement) :
    (s.setMeasurement l m).callEnds = s.callEnds := rfl
@[simp] theorem State.setMeasurement_dir (l : LineNo) (m : Measurement) :
    (s.setMeasurement l m).dir = s.dir := rfl
@[simp] theorem State.setMeasurement_cc (l : LineNo) (m : Measurement) :
    (s.setMeasurement l m).cc = s.cc := rfl
@[simp] theorem State.setMeasurement_ti (l : LineNo) (m : Measurement) :
    (s.setMeasurement l m).ti = s.ti := rfl
@[simp] theorem State.setMeasurement_ap (l : LineNo) (m : Measurement) :
    (s.setMeasurement l m).ap = s.ap := rfl
@[simp] theorem State.setMeasurement_time (l : LineNo) (m : Measurement) :
    (s.setMeasurement l m).time = s.time := rfl
@[simp] theorem State.setMeasurement_journal (l : LineNo) (m : Measurement) :
    (s.setMeasurement l m).journal = s.journal := rfl
@[simp] theorem State.setMeasurement_link (l : LineNo) (m : Measurement) :
    (s.setMeasurement l m).link = s.link := rfl
@[simp] theorem State.setMeasurement_trunk (l : LineNo) (m : Measurement) (t : TrunkNo) : (s.setMeasurement l m).trunk t = s.trunk t := rfl

/-! ### setEntry -/

@[simp] theorem State.setEntry_pending (l : LineNo) (e : Entry) : (s.setEntry l e).pending = s.pending := rfl
@[simp] theorem State.setEntry_held (l : LineNo) (e : Entry) : (s.setEntry l e).held = s.held := rfl
@[simp] theorem State.setEntry_lmu (l : LineNo) (e : Entry) : (s.setEntry l e).lmu = s.lmu := rfl
@[simp] theorem State.setEntry_lines (l : LineNo) (e : Entry) : (s.setEntry l e).lines = s.lines := rfl
@[simp] theorem State.setEntry_events (l : LineNo) (e : Entry) : (s.setEntry l e).events = s.events := rfl
@[simp] theorem State.setEntry_callEnds (l : LineNo) (e : Entry) :
    (s.setEntry l e).callEnds = s.callEnds := rfl
@[simp] theorem State.setEntry_dir (l : LineNo) (e : Entry) :
    (s.setEntry l e).dir = { s.dir with working := s.dir.working.set l e } := rfl
@[simp] theorem State.setEntry_cc (l : LineNo) (e : Entry) : (s.setEntry l e).cc = s.cc := rfl
@[simp] theorem State.setEntry_ti (l : LineNo) (e : Entry) : (s.setEntry l e).ti = s.ti := rfl
@[simp] theorem State.setEntry_ap (l : LineNo) (e : Entry) : (s.setEntry l e).ap = s.ap := rfl
@[simp] theorem State.setEntry_time (l : LineNo) (e : Entry) : (s.setEntry l e).time = s.time := rfl
@[simp] theorem State.setEntry_journal (l : LineNo) (e : Entry) : (s.setEntry l e).journal = s.journal := rfl
@[simp] theorem State.setEntry_link (l : LineNo) (e : Entry) : (s.setEntry l e).link = s.link := rfl
@[simp] theorem State.setEntry_trunk (l : LineNo) (e : Entry) (t : TrunkNo) : (s.setEntry l e).trunk t = s.trunk t := rfl

/-! ### setCall -/

@[simp] theorem State.setCall_pending (p : LineNo) (c : Option Call) :
    (s.setCall p c).pending = s.pending := rfl
@[simp] theorem State.setCall_held (p : LineNo) (c : Option Call) : (s.setCall p c).held = s.held := rfl
@[simp] theorem State.setCall_lmu (p : LineNo) (c : Option Call) : (s.setCall p c).lmu = s.lmu := rfl
@[simp] theorem State.setCall_lines (p : LineNo) (c : Option Call) : (s.setCall p c).lines = s.lines := rfl
@[simp] theorem State.setCall_events (p : LineNo) (c : Option Call) : (s.setCall p c).events = s.events := rfl
@[simp] theorem State.setCall_callEnds (p : LineNo) (c : Option Call) :
    (s.setCall p c).callEnds = s.callEnds := rfl
@[simp] theorem State.setCall_dir (p : LineNo) (c : Option Call) : (s.setCall p c).dir = s.dir := rfl
@[simp] theorem State.setCall_cc (p : LineNo) (c : Option Call) :
    (s.setCall p c).cc = { s.cc with calls := s.cc.calls.set p c } := rfl
@[simp] theorem State.setCall_ti (p : LineNo) (c : Option Call) : (s.setCall p c).ti = s.ti := rfl
@[simp] theorem State.setCall_ap (p : LineNo) (c : Option Call) : (s.setCall p c).ap = s.ap := rfl
@[simp] theorem State.setCall_time (p : LineNo) (c : Option Call) : (s.setCall p c).time = s.time := rfl
@[simp] theorem State.setCall_journal (p : LineNo) (c : Option Call) :
    (s.setCall p c).journal = s.journal := rfl
@[simp] theorem State.setCall_link (p : LineNo) (c : Option Call) : (s.setCall p c).link = s.link := rfl
@[simp] theorem State.setCall_trunk (p : LineNo) (c : Option Call) (t : TrunkNo) : (s.setCall p c).trunk t = s.trunk t := rfl

/-! ### mapCall -/

@[simp] theorem State.mapCall_pending (p : LineNo) (f : Call → Call) :
    (s.mapCall p f).pending = s.pending := rfl
@[simp] theorem State.mapCall_held (p : LineNo) (f : Call → Call) : (s.mapCall p f).held = s.held := rfl
@[simp] theorem State.mapCall_lmu (p : LineNo) (f : Call → Call) : (s.mapCall p f).lmu = s.lmu := rfl
@[simp] theorem State.mapCall_lines (p : LineNo) (f : Call → Call) : (s.mapCall p f).lines = s.lines := rfl
@[simp] theorem State.mapCall_events (p : LineNo) (f : Call → Call) : (s.mapCall p f).events = s.events := rfl
@[simp] theorem State.mapCall_callEnds (p : LineNo) (f : Call → Call) :
    (s.mapCall p f).callEnds = s.callEnds := rfl
@[simp] theorem State.mapCall_dir (p : LineNo) (f : Call → Call) : (s.mapCall p f).dir = s.dir := rfl
@[simp] theorem State.mapCall_cc (p : LineNo) (f : Call → Call) :
    (s.mapCall p f).cc = { s.cc with calls := s.cc.calls.set p ((s.cc.calls.get p).map f) } := rfl
@[simp] theorem State.mapCall_ti (p : LineNo) (f : Call → Call) : (s.mapCall p f).ti = s.ti := rfl
@[simp] theorem State.mapCall_ap (p : LineNo) (f : Call → Call) : (s.mapCall p f).ap = s.ap := rfl
@[simp] theorem State.mapCall_time (p : LineNo) (f : Call → Call) : (s.mapCall p f).time = s.time := rfl
@[simp] theorem State.mapCall_journal (p : LineNo) (f : Call → Call) :
    (s.mapCall p f).journal = s.journal := rfl
@[simp] theorem State.mapCall_link (p : LineNo) (f : Call → Call) : (s.mapCall p f).link = s.link := rfl
@[simp] theorem State.mapCall_trunk (p : LineNo) (f : Call → Call) (t : TrunkNo) : (s.mapCall p f).trunk t = s.trunk t := rfl

/-! ### setQueue -/

@[simp] theorem State.setQueue_pending (q : List CallRef) : (s.setQueue q).pending = s.pending := rfl
@[simp] theorem State.setQueue_held (q : List CallRef) : (s.setQueue q).held = s.held := rfl
@[simp] theorem State.setQueue_lmu (q : List CallRef) : (s.setQueue q).lmu = s.lmu := rfl
@[simp] theorem State.setQueue_lines (q : List CallRef) : (s.setQueue q).lines = s.lines := rfl
@[simp] theorem State.setQueue_events (q : List CallRef) : (s.setQueue q).events = s.events := rfl
@[simp] theorem State.setQueue_callEnds (q : List CallRef) : (s.setQueue q).callEnds = s.callEnds := rfl
@[simp] theorem State.setQueue_dir (q : List CallRef) : (s.setQueue q).dir = s.dir := rfl
@[simp] theorem State.setQueue_cc (q : List CallRef) : (s.setQueue q).cc = { s.cc with queue := q } := rfl
@[simp] theorem State.setQueue_ti (q : List CallRef) : (s.setQueue q).ti = s.ti := rfl
@[simp] theorem State.setQueue_ap (q : List CallRef) : (s.setQueue q).ap = s.ap := rfl
@[simp] theorem State.setQueue_time (q : List CallRef) : (s.setQueue q).time = s.time := rfl
@[simp] theorem State.setQueue_journal (q : List CallRef) : (s.setQueue q).journal = s.journal := rfl
@[simp] theorem State.setQueue_link (q : List CallRef) : (s.setQueue q).link = s.link := rfl
@[simp] theorem State.setQueue_trunk (q : List CallRef) (t : TrunkNo) : (s.setQueue q).trunk t = s.trunk t := rfl

/-! ### setTrunk -/

@[simp] theorem State.setTrunk_pending (t : TrunkNo) (x : Trunk) : (s.setTrunk t x).pending = s.pending := rfl
@[simp] theorem State.setTrunk_held (t : TrunkNo) (x : Trunk) : (s.setTrunk t x).held = s.held := rfl
@[simp] theorem State.setTrunk_lmu (t : TrunkNo) (x : Trunk) : (s.setTrunk t x).lmu = s.lmu := rfl
@[simp] theorem State.setTrunk_lines (t : TrunkNo) (x : Trunk) : (s.setTrunk t x).lines = s.lines := rfl
@[simp] theorem State.setTrunk_events (t : TrunkNo) (x : Trunk) : (s.setTrunk t x).events = s.events := rfl
@[simp] theorem State.setTrunk_callEnds (t : TrunkNo) (x : Trunk) :
    (s.setTrunk t x).callEnds = s.callEnds := rfl
@[simp] theorem State.setTrunk_dir (t : TrunkNo) (x : Trunk) : (s.setTrunk t x).dir = s.dir := rfl
@[simp] theorem State.setTrunk_cc (t : TrunkNo) (x : Trunk) : (s.setTrunk t x).cc = s.cc := rfl
@[simp] theorem State.setTrunk_ti (t : TrunkNo) (x : Trunk) :
    (s.setTrunk t x).ti = { s.ti with trunks := s.ti.trunks.set t x } := rfl
@[simp] theorem State.setTrunk_ap (t : TrunkNo) (x : Trunk) : (s.setTrunk t x).ap = s.ap := rfl
@[simp] theorem State.setTrunk_time (t : TrunkNo) (x : Trunk) : (s.setTrunk t x).time = s.time := rfl
@[simp] theorem State.setTrunk_journal (t : TrunkNo) (x : Trunk) : (s.setTrunk t x).journal = s.journal := rfl
@[simp] theorem State.setTrunk_link (t : TrunkNo) (x : Trunk) : (s.setTrunk t x).link = s.link := rfl

/-! ### mapTrunk -/

@[simp] theorem State.mapTrunk_pending (t : TrunkNo) (f : Trunk → Trunk) :
    (s.mapTrunk t f).pending = s.pending := rfl
@[simp] theorem State.mapTrunk_held (t : TrunkNo) (f : Trunk → Trunk) : (s.mapTrunk t f).held = s.held := rfl
@[simp] theorem State.mapTrunk_lmu (t : TrunkNo) (f : Trunk → Trunk) : (s.mapTrunk t f).lmu = s.lmu := rfl
@[simp] theorem State.mapTrunk_lines (t : TrunkNo) (f : Trunk → Trunk) :
    (s.mapTrunk t f).lines = s.lines := rfl
@[simp] theorem State.mapTrunk_events (t : TrunkNo) (f : Trunk → Trunk) :
    (s.mapTrunk t f).events = s.events := rfl
@[simp] theorem State.mapTrunk_callEnds (t : TrunkNo) (f : Trunk → Trunk) :
    (s.mapTrunk t f).callEnds = s.callEnds := rfl
@[simp] theorem State.mapTrunk_dir (t : TrunkNo) (f : Trunk → Trunk) : (s.mapTrunk t f).dir = s.dir := rfl
@[simp] theorem State.mapTrunk_cc (t : TrunkNo) (f : Trunk → Trunk) : (s.mapTrunk t f).cc = s.cc := rfl
@[simp] theorem State.mapTrunk_ti (t : TrunkNo) (f : Trunk → Trunk) :
    (s.mapTrunk t f).ti = { s.ti with trunks := s.ti.trunks.set t (f (s.trunk t)) } := rfl
@[simp] theorem State.mapTrunk_ap (t : TrunkNo) (f : Trunk → Trunk) : (s.mapTrunk t f).ap = s.ap := rfl
@[simp] theorem State.mapTrunk_time (t : TrunkNo) (f : Trunk → Trunk) : (s.mapTrunk t f).time = s.time := rfl
@[simp] theorem State.mapTrunk_journal (t : TrunkNo) (f : Trunk → Trunk) :
    (s.mapTrunk t f).journal = s.journal := rfl
@[simp] theorem State.mapTrunk_link (t : TrunkNo) (f : Trunk → Trunk) : (s.mapTrunk t f).link = s.link := rfl

/-! ### setPlayer -/

@[simp] theorem State.setPlayer_pending (p : LineNo) (x : Player) :
    (s.setPlayer p x).pending = s.pending := rfl
@[simp] theorem State.setPlayer_held (p : LineNo) (x : Player) : (s.setPlayer p x).held = s.held := rfl
@[simp] theorem State.setPlayer_lmu (p : LineNo) (x : Player) : (s.setPlayer p x).lmu = s.lmu := rfl
@[simp] theorem State.setPlayer_lines (p : LineNo) (x : Player) : (s.setPlayer p x).lines = s.lines := rfl
@[simp] theorem State.setPlayer_events (p : LineNo) (x : Player) : (s.setPlayer p x).events = s.events := rfl
@[simp] theorem State.setPlayer_callEnds (p : LineNo) (x : Player) :
    (s.setPlayer p x).callEnds = s.callEnds := rfl
@[simp] theorem State.setPlayer_dir (p : LineNo) (x : Player) : (s.setPlayer p x).dir = s.dir := rfl
@[simp] theorem State.setPlayer_cc (p : LineNo) (x : Player) : (s.setPlayer p x).cc = s.cc := rfl
@[simp] theorem State.setPlayer_ti (p : LineNo) (x : Player) : (s.setPlayer p x).ti = s.ti := rfl
@[simp] theorem State.setPlayer_ap (p : LineNo) (x : Player) :
    (s.setPlayer p x).ap = { s.ap with players := s.ap.players.set p x } := rfl
@[simp] theorem State.setPlayer_time (p : LineNo) (x : Player) : (s.setPlayer p x).time = s.time := rfl
@[simp] theorem State.setPlayer_journal (p : LineNo) (x : Player) :
    (s.setPlayer p x).journal = s.journal := rfl
@[simp] theorem State.setPlayer_link (p : LineNo) (x : Player) : (s.setPlayer p x).link = s.link := rfl
@[simp] theorem State.setPlayer_trunk (p : LineNo) (x : Player) (t : TrunkNo) : (s.setPlayer p x).trunk t = s.trunk t := rfl

/-! ### mapLink -/

@[simp] theorem State.mapLink_pending (f : Link → Link) : (s.mapLink f).pending = s.pending := rfl
@[simp] theorem State.mapLink_held (f : Link → Link) : (s.mapLink f).held = s.held := rfl
@[simp] theorem State.mapLink_lmu (f : Link → Link) : (s.mapLink f).lmu = s.lmu := rfl
@[simp] theorem State.mapLink_lines (f : Link → Link) : (s.mapLink f).lines = s.lines := rfl
@[simp] theorem State.mapLink_events (f : Link → Link) : (s.mapLink f).events = s.events := rfl
@[simp] theorem State.mapLink_callEnds (f : Link → Link) : (s.mapLink f).callEnds = s.callEnds := rfl
@[simp] theorem State.mapLink_dir (f : Link → Link) : (s.mapLink f).dir = s.dir := rfl
@[simp] theorem State.mapLink_cc (f : Link → Link) : (s.mapLink f).cc = s.cc := rfl
@[simp] theorem State.mapLink_ti (f : Link → Link) : (s.mapLink f).ti = s.ti := rfl
@[simp] theorem State.mapLink_ap (f : Link → Link) : (s.mapLink f).ap = s.ap := rfl
@[simp] theorem State.mapLink_time (f : Link → Link) : (s.mapLink f).time = s.time := rfl
@[simp] theorem State.mapLink_journal (f : Link → Link) : (s.mapLink f).journal = s.journal := rfl
@[simp] theorem State.mapLink_link (f : Link → Link) : (s.mapLink f).link = f s.link := rfl
@[simp] theorem State.mapLink_trunk (f : Link → Link) (t : TrunkNo) : (s.mapLink f).trunk t = s.trunk t := rfl

/-! ### hand -/

@[simp] theorem State.hand_pending (e : LineEvent) : (s.hand e).pending = s.pending := rfl
@[simp] theorem State.hand_held (e : LineEvent) : (s.hand e).held = s.held := rfl
@[simp] theorem State.hand_lmu (e : LineEvent) : (s.hand e).lmu = s.lmu := rfl
@[simp] theorem State.hand_lines (e : LineEvent) : (s.hand e).lines = s.lines := rfl
@[simp] theorem State.hand_events (e : LineEvent) : (s.hand e).events = s.events ++ [e] := rfl
@[simp] theorem State.hand_callEnds (e : LineEvent) : (s.hand e).callEnds = s.callEnds := rfl
@[simp] theorem State.hand_dir (e : LineEvent) : (s.hand e).dir = s.dir := rfl
@[simp] theorem State.hand_cc (e : LineEvent) : (s.hand e).cc = s.cc := rfl
@[simp] theorem State.hand_ti (e : LineEvent) : (s.hand e).ti = s.ti := rfl
@[simp] theorem State.hand_ap (e : LineEvent) : (s.hand e).ap = s.ap := rfl
@[simp] theorem State.hand_time (e : LineEvent) : (s.hand e).time = s.time := rfl
@[simp] theorem State.hand_journal (e : LineEvent) : (s.hand e).journal = s.journal := rfl
@[simp] theorem State.hand_link (e : LineEvent) : (s.hand e).link = s.link := rfl
@[simp] theorem State.hand_trunk (e : LineEvent) (t : TrunkNo) : (s.hand e).trunk t = s.trunk t := rfl

/-! ### The trunk records -/

@[simp] theorem State.trunk_setTrunk_self (t : TrunkNo) (x : Trunk) : (s.setTrunk t x).trunk t = x := by
  simp [State.trunk]

@[simp] theorem State.trunk_setTrunk_ne {t u : TrunkNo} (x : Trunk) (h : t ≠ u) :
    (s.setTrunk t x).trunk u = s.trunk u := by
  simp [State.trunk, h]

@[simp] theorem State.trunk_mapTrunk_self (t : TrunkNo) (f : Trunk → Trunk) :
    (s.mapTrunk t f).trunk t = f (s.trunk t) := by
  simp [State.mapTrunk]

@[simp] theorem State.trunk_mapTrunk_ne {t u : TrunkNo} (f : Trunk → Trunk) (h : t ≠ u) :
    (s.mapTrunk t f).trunk u = s.trunk u := by
  simp [State.mapTrunk, h]

/-! ### report: what it leaves alone -/

@[simp] theorem State.report_pending (r : Report) : (s.report r).pending = s.pending := by
  unfold State.report; split <;> rfl
@[simp] theorem State.report_held (r : Report) : (s.report r).held = s.held := by
  unfold State.report; split <;> rfl
@[simp] theorem State.report_lmu (r : Report) : (s.report r).lmu = s.lmu := by
  unfold State.report; split <;> rfl
@[simp] theorem State.report_lines (r : Report) : (s.report r).lines = s.lines := by
  unfold State.report; split <;> rfl
@[simp] theorem State.report_events (r : Report) : (s.report r).events = s.events := by
  unfold State.report; split <;> rfl
@[simp] theorem State.report_callEnds (r : Report) : (s.report r).callEnds = s.callEnds := by
  unfold State.report; split <;> rfl
@[simp] theorem State.report_dir (r : Report) : (s.report r).dir = s.dir := by
  unfold State.report; split <;> rfl
@[simp] theorem State.report_cc (r : Report) : (s.report r).cc = s.cc := by
  unfold State.report; split <;> rfl
@[simp] theorem State.report_ti (r : Report) : (s.report r).ti = s.ti := by
  unfold State.report; split <;> rfl
@[simp] theorem State.report_ap (r : Report) : (s.report r).ap = s.ap := by
  unfold State.report; split <;> rfl
@[simp] theorem State.report_time (r : Report) : (s.report r).time = s.time := by
  unfold State.report; split <;> rfl
@[simp] theorem State.report_journal (r : Report) : (s.report r).journal = s.journal := by
  unfold State.report; split <;> rfl

/-! ### makeReady: what it leaves alone -/

@[simp] theorem State.makeReady_pending (r : Report) : (s.makeReady r).pending = s.pending := by
  unfold State.makeReady; split <;> rfl
@[simp] theorem State.makeReady_held (r : Report) : (s.makeReady r).held = s.held := by
  unfold State.makeReady; split <;> rfl
@[simp] theorem State.makeReady_lmu (r : Report) : (s.makeReady r).lmu = s.lmu := by
  unfold State.makeReady; split <;> rfl
@[simp] theorem State.makeReady_lines (r : Report) : (s.makeReady r).lines = s.lines := by
  unfold State.makeReady; split <;> rfl
@[simp] theorem State.makeReady_events (r : Report) : (s.makeReady r).events = s.events := by
  unfold State.makeReady; split <;> rfl
@[simp] theorem State.makeReady_callEnds (r : Report) : (s.makeReady r).callEnds = s.callEnds := by
  unfold State.makeReady; split <;> rfl
@[simp] theorem State.makeReady_dir (r : Report) : (s.makeReady r).dir = s.dir := by
  unfold State.makeReady; split <;> rfl
@[simp] theorem State.makeReady_cc (r : Report) : (s.makeReady r).cc = s.cc := by
  unfold State.makeReady; split <;> rfl
@[simp] theorem State.makeReady_ti (r : Report) : (s.makeReady r).ti = s.ti := by
  unfold State.makeReady; split <;> rfl
@[simp] theorem State.makeReady_ap (r : Report) : (s.makeReady r).ap = s.ap := by
  unfold State.makeReady; split <;> rfl
@[simp] theorem State.makeReady_time (r : Report) : (s.makeReady r).time = s.time := by
  unfold State.makeReady; split <;> rfl
@[simp] theorem State.makeReady_journal (r : Report) : (s.makeReady r).journal = s.journal := by
  unfold State.makeReady; split <;> rfl

/-! ### reply: what it leaves alone -/

@[simp] theorem State.reply_pending (r : Reply) : (s.reply r).pending = s.pending := rfl
@[simp] theorem State.reply_held (r : Reply) : (s.reply r).held = s.held := rfl
@[simp] theorem State.reply_lmu (r : Reply) : (s.reply r).lmu = s.lmu := rfl
@[simp] theorem State.reply_lines (r : Reply) : (s.reply r).lines = s.lines := rfl
@[simp] theorem State.reply_events (r : Reply) : (s.reply r).events = s.events := rfl
@[simp] theorem State.reply_callEnds (r : Reply) : (s.reply r).callEnds = s.callEnds := rfl
@[simp] theorem State.reply_dir (r : Reply) : (s.reply r).dir = s.dir := rfl
@[simp] theorem State.reply_cc (r : Reply) : (s.reply r).cc = s.cc := rfl
@[simp] theorem State.reply_ti (r : Reply) : (s.reply r).ti = s.ti := rfl
@[simp] theorem State.reply_ap (r : Reply) : (s.reply r).ap = s.ap := rfl
@[simp] theorem State.reply_time (r : Reply) : (s.reply r).time = s.time := rfl
@[simp] theorem State.reply_journal (r : Reply) : (s.reply r).journal = s.journal := rfl

/-! ### answer: what it leaves alone -/

@[simp] theorem State.answer_pending (code : Octet) (res : Result) (v : ReplyValues) : (s.answer code res v).pending = s.pending := rfl
@[simp] theorem State.answer_held (code : Octet) (res : Result) (v : ReplyValues) : (s.answer code res v).held = s.held := rfl
@[simp] theorem State.answer_lmu (code : Octet) (res : Result) (v : ReplyValues) : (s.answer code res v).lmu = s.lmu := rfl
@[simp] theorem State.answer_lines (code : Octet) (res : Result) (v : ReplyValues) : (s.answer code res v).lines = s.lines := rfl
@[simp] theorem State.answer_events (code : Octet) (res : Result) (v : ReplyValues) : (s.answer code res v).events = s.events := rfl
@[simp] theorem State.answer_callEnds (code : Octet) (res : Result) (v : ReplyValues) : (s.answer code res v).callEnds = s.callEnds := rfl
@[simp] theorem State.answer_dir (code : Octet) (res : Result) (v : ReplyValues) : (s.answer code res v).dir = s.dir := rfl
@[simp] theorem State.answer_cc (code : Octet) (res : Result) (v : ReplyValues) : (s.answer code res v).cc = s.cc := rfl
@[simp] theorem State.answer_ti (code : Octet) (res : Result) (v : ReplyValues) : (s.answer code res v).ti = s.ti := rfl
@[simp] theorem State.answer_ap (code : Octet) (res : Result) (v : ReplyValues) : (s.answer code res v).ap = s.ap := rfl
@[simp] theorem State.answer_time (code : Octet) (res : Result) (v : ReplyValues) : (s.answer code res v).time = s.time := rfl
@[simp] theorem State.answer_journal (code : Octet) (res : Result) (v : ReplyValues) : (s.answer code res v).journal = s.journal := rfl

/-! ### answerRun: what it leaves alone -/

@[simp] theorem State.answerRun_pending (code line : Octet) (res : Result) (v : ReplyValues) : (s.answerRun code line res v).pending = s.pending := rfl
@[simp] theorem State.answerRun_held (code line : Octet) (res : Result) (v : ReplyValues) : (s.answerRun code line res v).held = s.held := rfl
@[simp] theorem State.answerRun_lmu (code line : Octet) (res : Result) (v : ReplyValues) : (s.answerRun code line res v).lmu = s.lmu := rfl
@[simp] theorem State.answerRun_lines (code line : Octet) (res : Result) (v : ReplyValues) : (s.answerRun code line res v).lines = s.lines := rfl
@[simp] theorem State.answerRun_events (code line : Octet) (res : Result) (v : ReplyValues) : (s.answerRun code line res v).events = s.events := rfl
@[simp] theorem State.answerRun_callEnds (code line : Octet) (res : Result) (v : ReplyValues) : (s.answerRun code line res v).callEnds = s.callEnds := rfl
@[simp] theorem State.answerRun_dir (code line : Octet) (res : Result) (v : ReplyValues) : (s.answerRun code line res v).dir = s.dir := rfl
@[simp] theorem State.answerRun_cc (code line : Octet) (res : Result) (v : ReplyValues) : (s.answerRun code line res v).cc = s.cc := rfl
@[simp] theorem State.answerRun_ti (code line : Octet) (res : Result) (v : ReplyValues) : (s.answerRun code line res v).ti = s.ti := rfl
@[simp] theorem State.answerRun_ap (code line : Octet) (res : Result) (v : ReplyValues) : (s.answerRun code line res v).ap = s.ap := rfl
@[simp] theorem State.answerRun_time (code line : Octet) (res : Result) (v : ReplyValues) : (s.answerRun code line res v).time = s.time := rfl
@[simp] theorem State.answerRun_journal (code line : Octet) (res : Result) (v : ReplyValues) : (s.answerRun code line res v).journal = s.journal := rfl

/-! ### record: what it leaves alone -/

@[simp] theorem State.record_pending (k : RecordKind) : (s.record k).pending = s.pending := by
  unfold State.record; split; rfl; dsimp only; split <;> simp
@[simp] theorem State.record_held (k : RecordKind) : (s.record k).held = s.held := by
  unfold State.record; split; rfl; dsimp only; split <;> simp
@[simp] theorem State.record_lmu (k : RecordKind) : (s.record k).lmu = s.lmu := by
  unfold State.record; split; rfl; dsimp only; split <;> simp
@[simp] theorem State.record_lines (k : RecordKind) : (s.record k).lines = s.lines := by
  unfold State.record; split; rfl; dsimp only; split <;> simp
@[simp] theorem State.record_events (k : RecordKind) : (s.record k).events = s.events := by
  unfold State.record; split; rfl; dsimp only; split <;> simp
@[simp] theorem State.record_callEnds (k : RecordKind) : (s.record k).callEnds = s.callEnds := by
  unfold State.record; split; rfl; dsimp only; split <;> simp
@[simp] theorem State.record_dir (k : RecordKind) : (s.record k).dir = s.dir := by
  unfold State.record; split; rfl; dsimp only; split <;> simp
@[simp] theorem State.record_cc (k : RecordKind) : (s.record k).cc = s.cc := by
  unfold State.record; split; rfl; dsimp only; split <;> simp
@[simp] theorem State.record_ti (k : RecordKind) : (s.record k).ti = s.ti := by
  unfold State.record; split; rfl; dsimp only; split <;> simp
@[simp] theorem State.record_ap (k : RecordKind) : (s.record k).ap = s.ap := by
  unfold State.record; split; rfl; dsimp only; split <;> simp
@[simp] theorem State.record_time (k : RecordKind) : (s.record k).time = s.time := by
  unfold State.record; split; rfl; dsimp only; split <;> simp

/-! ### sendDesk: what it leaves alone -/

@[simp] theorem State.sendDesk_pending (t : TrunkNo) (m : DeskMessage) : (s.sendDesk t m).pending = s.pending := by
  unfold State.sendDesk; split
  · split <;> rfl
  · rfl
@[simp] theorem State.sendDesk_held (t : TrunkNo) (m : DeskMessage) : (s.sendDesk t m).held = s.held := by
  unfold State.sendDesk; split
  · split <;> rfl
  · rfl
@[simp] theorem State.sendDesk_lmu (t : TrunkNo) (m : DeskMessage) : (s.sendDesk t m).lmu = s.lmu := by
  unfold State.sendDesk; split
  · split <;> rfl
  · rfl
@[simp] theorem State.sendDesk_lines (t : TrunkNo) (m : DeskMessage) : (s.sendDesk t m).lines = s.lines := by
  unfold State.sendDesk; split
  · split <;> rfl
  · rfl
@[simp] theorem State.sendDesk_events (t : TrunkNo) (m : DeskMessage) : (s.sendDesk t m).events = s.events := by
  unfold State.sendDesk; split
  · split <;> rfl
  · rfl
@[simp] theorem State.sendDesk_callEnds (t : TrunkNo) (m : DeskMessage) : (s.sendDesk t m).callEnds = s.callEnds := by
  unfold State.sendDesk; split
  · split <;> rfl
  · rfl
@[simp] theorem State.sendDesk_dir (t : TrunkNo) (m : DeskMessage) : (s.sendDesk t m).dir = s.dir := by
  unfold State.sendDesk; split
  · split <;> rfl
  · rfl
@[simp] theorem State.sendDesk_cc (t : TrunkNo) (m : DeskMessage) : (s.sendDesk t m).cc = s.cc := by
  unfold State.sendDesk; split
  · split <;> rfl
  · rfl
@[simp] theorem State.sendDesk_ap (t : TrunkNo) (m : DeskMessage) : (s.sendDesk t m).ap = s.ap := by
  unfold State.sendDesk; split
  · split <;> rfl
  · rfl
@[simp] theorem State.sendDesk_time (t : TrunkNo) (m : DeskMessage) : (s.sendDesk t m).time = s.time := by
  unfold State.sendDesk; split
  · split <;> rfl
  · rfl
@[simp] theorem State.sendDesk_journal (t : TrunkNo) (m : DeskMessage) : (s.sendDesk t m).journal = s.journal := by
  unfold State.sendDesk; split
  · split <;> rfl
  · rfl
@[simp] theorem State.sendDesk_link (t : TrunkNo) (m : DeskMessage) : (s.sendDesk t m).link = s.link := by
  unfold State.sendDesk; split
  · split <;> rfl
  · rfl

/-! ### setFlag: what it leaves alone -/

@[simp] theorem State.setFlag_pending (l : LineNo) (f : StickyFlag) : (s.setFlag l f).pending = s.pending := by
  unfold State.setFlag; split <;> simp
@[simp] theorem State.setFlag_held (l : LineNo) (f : StickyFlag) : (s.setFlag l f).held = s.held := by
  unfold State.setFlag; split <;> simp
@[simp] theorem State.setFlag_lmu (l : LineNo) (f : StickyFlag) : (s.setFlag l f).lmu = s.lmu := by
  unfold State.setFlag; split <;> simp
@[simp] theorem State.setFlag_events (l : LineNo) (f : StickyFlag) : (s.setFlag l f).events = s.events := by
  unfold State.setFlag; split <;> simp
@[simp] theorem State.setFlag_callEnds (l : LineNo) (f : StickyFlag) : (s.setFlag l f).callEnds = s.callEnds := by
  unfold State.setFlag; split <;> simp
@[simp] theorem State.setFlag_dir (l : LineNo) (f : StickyFlag) : (s.setFlag l f).dir = s.dir := by
  unfold State.setFlag; split <;> simp
@[simp] theorem State.setFlag_cc (l : LineNo) (f : StickyFlag) : (s.setFlag l f).cc = s.cc := by
  unfold State.setFlag; split <;> simp
@[simp] theorem State.setFlag_ti (l : LineNo) (f : StickyFlag) : (s.setFlag l f).ti = s.ti := by
  unfold State.setFlag; split <;> simp
@[simp] theorem State.setFlag_ap (l : LineNo) (f : StickyFlag) : (s.setFlag l f).ap = s.ap := by
  unfold State.setFlag; split <;> simp
@[simp] theorem State.setFlag_time (l : LineNo) (f : StickyFlag) : (s.setFlag l f).time = s.time := by
  unfold State.setFlag; split <;> simp
@[simp] theorem State.setFlag_journal (l : LineNo) (f : StickyFlag) : (s.setFlag l f).journal = s.journal := by
  unfold State.setFlag; split <;> simp

end Sys2Proof.Machine
end

