-- ==== Sys2Proof/Laws/Calls.lean ====
section
/-! SUPPORT. What the shared operations of the Call Controller and the trunks leave alone, one lemma for each
field. -/

namespace Sys2Proof.Machine

open Sys2Proof

/-- A fold of steps that each leave `g` alone leaves `g` alone. -/
theorem foldl_same {α β : Type} (g : State → β) (f : State → α → State) (h : ∀ s a, g (f s a) = g s)
    (as : List α) (s : State) : g (as.foldl f s) = g s := by
  induction as generalizing s with
  | nil => rfl
  | cons a as ih => exact (ih _).trans (h s a)

variable (s : State)

/-! ### judgeNoTrunk -/

@[simp] theorem State.judgeNoTrunk_pending : s.judgeNoTrunk.pending = s.pending := by
  unfold State.judgeNoTrunk; dsimp only; split
  · simp
  · split <;> simp
@[simp] theorem State.judgeNoTrunk_held : s.judgeNoTrunk.held = s.held := by
  unfold State.judgeNoTrunk; dsimp only; split
  · simp
  · split <;> simp
@[simp] theorem State.judgeNoTrunk_lmu : s.judgeNoTrunk.lmu = s.lmu := by
  unfold State.judgeNoTrunk; dsimp only; split
  · simp
  · split <;> simp
@[simp] theorem State.judgeNoTrunk_lines : s.judgeNoTrunk.lines = s.lines := by
  unfold State.judgeNoTrunk; dsimp only; split
  · simp
  · split <;> simp
@[simp] theorem State.judgeNoTrunk_events : s.judgeNoTrunk.events = s.events := by
  unfold State.judgeNoTrunk; dsimp only; split
  · simp
  · split <;> simp
@[simp] theorem State.judgeNoTrunk_callEnds : s.judgeNoTrunk.callEnds = s.callEnds := by
  unfold State.judgeNoTrunk; dsimp only; split
  · simp
  · split <;> simp
@[simp] theorem State.judgeNoTrunk_dir : s.judgeNoTrunk.dir = s.dir := by
  unfold State.judgeNoTrunk; dsimp only; split
  · simp
  · split <;> simp
@[simp] theorem State.judgeNoTrunk_cc : s.judgeNoTrunk.cc = s.cc := by
  unfold State.judgeNoTrunk; dsimp only; split
  · simp
  · split <;> simp
@[simp] theorem State.judgeNoTrunk_ap : s.judgeNoTrunk.ap = s.ap := by
  unfold State.judgeNoTrunk; dsimp only; split
  · simp
  · split <;> simp
@[simp] theorem State.judgeNoTrunk_time : s.judgeNoTrunk.time = s.time := by
  unfold State.judgeNoTrunk; dsimp only; split
  · simp
  · split <;> simp
@[simp] theorem State.judgeNoTrunk_journal : s.judgeNoTrunk.journal = s.journal := by
  unfold State.judgeNoTrunk; dsimp only; split
  · simp
  · split <;> simp

/-! ### enqueue -/

@[simp] theorem State.enqueue_pending (p : LineNo) : (s.enqueue p).pending = s.pending := by
  unfold State.enqueue; split <;> rfl
@[simp] theorem State.enqueue_held (p : LineNo) : (s.enqueue p).held = s.held := by
  unfold State.enqueue; split <;> rfl
@[simp] theorem State.enqueue_lmu (p : LineNo) : (s.enqueue p).lmu = s.lmu := by
  unfold State.enqueue; split <;> rfl
@[simp] theorem State.enqueue_lines (p : LineNo) : (s.enqueue p).lines = s.lines := by
  unfold State.enqueue; split <;> rfl
@[simp] theorem State.enqueue_events (p : LineNo) : (s.enqueue p).events = s.events := by
  unfold State.enqueue; split <;> rfl
@[simp] theorem State.enqueue_callEnds (p : LineNo) : (s.enqueue p).callEnds = s.callEnds := by
  unfold State.enqueue; split <;> rfl
@[simp] theorem State.enqueue_dir (p : LineNo) : (s.enqueue p).dir = s.dir := by
  unfold State.enqueue; split <;> rfl
@[simp] theorem State.enqueue_ti (p : LineNo) : (s.enqueue p).ti = s.ti := by
  unfold State.enqueue; split <;> rfl
@[simp] theorem State.enqueue_ap (p : LineNo) : (s.enqueue p).ap = s.ap := by
  unfold State.enqueue; split <;> rfl
@[simp] theorem State.enqueue_time (p : LineNo) : (s.enqueue p).time = s.time := by
  unfold State.enqueue; split <;> rfl
@[simp] theorem State.enqueue_journal (p : LineNo) : (s.enqueue p).journal = s.journal := by
  unfold State.enqueue; split <;> rfl
@[simp] theorem State.enqueue_link (p : LineNo) : (s.enqueue p).link = s.link := by
  unfold State.enqueue; split <;> rfl

/-! ### enterIdle -/

@[simp] theorem State.enterIdle_pending (t : TrunkNo) : (s.enterIdle t).pending = s.pending := rfl
@[simp] theorem State.enterIdle_held (t : TrunkNo) : (s.enterIdle t).held = s.held := rfl
@[simp] theorem State.enterIdle_lmu (t : TrunkNo) : (s.enterIdle t).lmu = s.lmu := rfl
@[simp] theorem State.enterIdle_lines (t : TrunkNo) : (s.enterIdle t).lines = s.lines := rfl
@[simp] theorem State.enterIdle_events (t : TrunkNo) : (s.enterIdle t).events = s.events := rfl
@[simp] theorem State.enterIdle_callEnds (t : TrunkNo) : (s.enterIdle t).callEnds = s.callEnds := rfl
@[simp] theorem State.enterIdle_dir (t : TrunkNo) : (s.enterIdle t).dir = s.dir := rfl
@[simp] theorem State.enterIdle_cc (t : TrunkNo) : (s.enterIdle t).cc = s.cc := rfl
@[simp] theorem State.enterIdle_ap (t : TrunkNo) : (s.enterIdle t).ap = s.ap := rfl
@[simp] theorem State.enterIdle_time (t : TrunkNo) : (s.enterIdle t).time = s.time := rfl
@[simp] theorem State.enterIdle_journal (t : TrunkNo) : (s.enterIdle t).journal = s.journal := rfl
@[simp] theorem State.enterIdle_link (t : TrunkNo) : (s.enterIdle t).link = s.link := rfl

/-! ### enterGuard -/

@[simp] theorem State.enterGuard_pending (t : TrunkNo) : (s.enterGuard t).pending = s.pending := rfl
@[simp] theorem State.enterGuard_held (t : TrunkNo) : (s.enterGuard t).held = s.held := rfl
@[simp] theorem State.enterGuard_lmu (t : TrunkNo) : (s.enterGuard t).lmu = s.lmu := rfl
@[simp] theorem State.enterGuard_lines (t : TrunkNo) : (s.enterGuard t).lines = s.lines := rfl
@[simp] theorem State.enterGuard_events (t : TrunkNo) : (s.enterGuard t).events = s.events := rfl
@[simp] theorem State.enterGuard_callEnds (t : TrunkNo) : (s.enterGuard t).callEnds = s.callEnds := rfl
@[simp] theorem State.enterGuard_dir (t : TrunkNo) : (s.enterGuard t).dir = s.dir := rfl
@[simp] theorem State.enterGuard_cc (t : TrunkNo) : (s.enterGuard t).cc = s.cc := rfl
@[simp] theorem State.enterGuard_ap (t : TrunkNo) : (s.enterGuard t).ap = s.ap := rfl
@[simp] theorem State.enterGuard_time (t : TrunkNo) : (s.enterGuard t).time = s.time := rfl
@[simp] theorem State.enterGuard_journal (t : TrunkNo) : (s.enterGuard t).journal = s.journal := rfl
@[simp] theorem State.enterGuard_link (t : TrunkNo) : (s.enterGuard t).link = s.link := rfl

/-! ### connectTrunk -/

@[simp] theorem State.connectTrunk_pending (t : TrunkNo) (r : CallRef) : (s.connectTrunk t r).pending = s.pending := rfl
@[simp] theorem State.connectTrunk_held (t : TrunkNo) (r : CallRef) : (s.connectTrunk t r).held = s.held := rfl
@[simp] theorem State.connectTrunk_lmu (t : TrunkNo) (r : CallRef) : (s.connectTrunk t r).lmu = s.lmu := rfl
@[simp] theorem State.connectTrunk_lines (t : TrunkNo) (r : CallRef) : (s.connectTrunk t r).lines = s.lines := rfl
@[simp] theorem State.connectTrunk_events (t : TrunkNo) (r : CallRef) : (s.connectTrunk t r).events = s.events := rfl
@[simp] theorem State.connectTrunk_callEnds (t : TrunkNo) (r : CallRef) : (s.connectTrunk t r).callEnds = s.callEnds := rfl
@[simp] theorem State.connectTrunk_dir (t : TrunkNo) (r : CallRef) : (s.connectTrunk t r).dir = s.dir := rfl
@[simp] theorem State.connectTrunk_cc (t : TrunkNo) (r : CallRef) : (s.connectTrunk t r).cc = s.cc := rfl
@[simp] theorem State.connectTrunk_ap (t : TrunkNo) (r : CallRef) : (s.connectTrunk t r).ap = s.ap := rfl
@[simp] theorem State.connectTrunk_time (t : TrunkNo) (r : CallRef) : (s.connectTrunk t r).time = s.time := rfl
@[simp] theorem State.connectTrunk_journal (t : TrunkNo) (r : CallRef) : (s.connectTrunk t r).journal = s.journal := rfl
@[simp] theorem State.connectTrunk_link (t : TrunkNo) (r : CallRef) : (s.connectTrunk t r).link = s.link := rfl

/-! ### selectChain -/

@[simp] theorem State.selectChain_pending (p : LineNo) (ch : Fin 16) : (s.selectChain p ch).pending = s.pending := rfl
@[simp] theorem State.selectChain_held (p : LineNo) (ch : Fin 16) : (s.selectChain p ch).held = s.held := rfl
@[simp] theorem State.selectChain_lmu (p : LineNo) (ch : Fin 16) : (s.selectChain p ch).lmu = s.lmu := rfl
@[simp] theorem State.selectChain_lines (p : LineNo) (ch : Fin 16) : (s.selectChain p ch).lines = s.lines := rfl
@[simp] theorem State.selectChain_events (p : LineNo) (ch : Fin 16) : (s.selectChain p ch).events = s.events := rfl
@[simp] theorem State.selectChain_callEnds (p : LineNo) (ch : Fin 16) : (s.selectChain p ch).callEnds = s.callEnds := rfl
@[simp] theorem State.selectChain_dir (p : LineNo) (ch : Fin 16) : (s.selectChain p ch).dir = s.dir := rfl
@[simp] theorem State.selectChain_cc (p : LineNo) (ch : Fin 16) : (s.selectChain p ch).cc = s.cc := rfl
@[simp] theorem State.selectChain_ti (p : LineNo) (ch : Fin 16) : (s.selectChain p ch).ti = s.ti := rfl
@[simp] theorem State.selectChain_time (p : LineNo) (ch : Fin 16) : (s.selectChain p ch).time = s.time := rfl
@[simp] theorem State.selectChain_journal (p : LineNo) (ch : Fin 16) : (s.selectChain p ch).journal = s.journal := rfl
@[simp] theorem State.selectChain_link (p : LineNo) (ch : Fin 16) : (s.selectChain p ch).link = s.link := rfl

/-! ### stopPlayer -/

@[simp] theorem State.stopPlayer_pending (p : LineNo) : (s.stopPlayer p).pending = s.pending := rfl
@[simp] theorem State.stopPlayer_held (p : LineNo) : (s.stopPlayer p).held = s.held := rfl
@[simp] theorem State.stopPlayer_lmu (p : LineNo) : (s.stopPlayer p).lmu = s.lmu := rfl
@[simp] theorem State.stopPlayer_lines (p : LineNo) : (s.stopPlayer p).lines = s.lines := rfl
@[simp] theorem State.stopPlayer_events (p : LineNo) : (s.stopPlayer p).events = s.events := rfl
@[simp] theorem State.stopPlayer_callEnds (p : LineNo) : (s.stopPlayer p).callEnds = s.callEnds := rfl
@[simp] theorem State.stopPlayer_dir (p : LineNo) : (s.stopPlayer p).dir = s.dir := rfl
@[simp] theorem State.stopPlayer_cc (p : LineNo) : (s.stopPlayer p).cc = s.cc := rfl
@[simp] theorem State.stopPlayer_ti (p : LineNo) : (s.stopPlayer p).ti = s.ti := rfl
@[simp] theorem State.stopPlayer_time (p : LineNo) : (s.stopPlayer p).time = s.time := rfl
@[simp] theorem State.stopPlayer_journal (p : LineNo) : (s.stopPlayer p).journal = s.journal := rfl
@[simp] theorem State.stopPlayer_link (p : LineNo) : (s.stopPlayer p).link = s.link := rfl

/-! ### offer -/

@[simp] theorem State.offer_pending (t : TrunkNo) (p : LineNo) : (s.offer t p).pending = s.pending := by
  unfold State.offer; split
  · rfl
  · split
    · dsimp only; split <;> simp
    · rfl
@[simp] theorem State.offer_held (t : TrunkNo) (p : LineNo) : (s.offer t p).held = s.held := by
  unfold State.offer; split
  · rfl
  · split
    · dsimp only; split <;> simp
    · rfl
@[simp] theorem State.offer_lmu (t : TrunkNo) (p : LineNo) : (s.offer t p).lmu = s.lmu := by
  unfold State.offer; split
  · rfl
  · split
    · dsimp only; split <;> simp
    · rfl
@[simp] theorem State.offer_lines (t : TrunkNo) (p : LineNo) : (s.offer t p).lines = s.lines := by
  unfold State.offer; split
  · rfl
  · split
    · dsimp only; split <;> simp
    · rfl
@[simp] theorem State.offer_events (t : TrunkNo) (p : LineNo) : (s.offer t p).events = s.events := by
  unfold State.offer; split
  · rfl
  · split
    · dsimp only; split <;> simp
    · rfl
@[simp] theorem State.offer_callEnds (t : TrunkNo) (p : LineNo) : (s.offer t p).callEnds = s.callEnds := by
  unfold State.offer; split
  · rfl
  · split
    · dsimp only; split <;> simp
    · rfl
@[simp] theorem State.offer_dir (t : TrunkNo) (p : LineNo) : (s.offer t p).dir = s.dir := by
  unfold State.offer; split
  · rfl
  · split
    · dsimp only; split <;> simp
    · rfl
@[simp] theorem State.offer_ap (t : TrunkNo) (p : LineNo) : (s.offer t p).ap = s.ap := by
  unfold State.offer; split
  · rfl
  · split
    · dsimp only; split <;> simp
    · rfl
@[simp] theorem State.offer_time (t : TrunkNo) (p : LineNo) : (s.offer t p).time = s.time := by
  unfold State.offer; split
  · rfl
  · split
    · dsimp only; split <;> simp
    · rfl
@[simp] theorem State.offer_journal (t : TrunkNo) (p : LineNo) : (s.offer t p).journal = s.journal := by
  unfold State.offer; split
  · rfl
  · split
    · dsimp only; split <;> simp
    · rfl
@[simp] theorem State.offer_link (t : TrunkNo) (p : LineNo) : (s.offer t p).link = s.link := by
  unfold State.offer; split
  · rfl
  · split
    · dsimp only; split <;> simp
    · rfl

/-! ### offerHead -/

@[simp] theorem State.offerHead_pending (t : TrunkNo) : (s.offerHead t).pending = s.pending := by
  unfold State.offerHead; split <;> simp
@[simp] theorem State.offerHead_held (t : TrunkNo) : (s.offerHead t).held = s.held := by
  unfold State.offerHead; split <;> simp
@[simp] theorem State.offerHead_lmu (t : TrunkNo) : (s.offerHead t).lmu = s.lmu := by
  unfold State.offerHead; split <;> simp
@[simp] theorem State.offerHead_lines (t : TrunkNo) : (s.offerHead t).lines = s.lines := by
  unfold State.offerHead; split <;> simp
@[simp] theorem State.offerHead_events (t : TrunkNo) : (s.offerHead t).events = s.events := by
  unfold State.offerHead; split <;> simp
@[simp] theorem State.offerHead_callEnds (t : TrunkNo) : (s.offerHead t).callEnds = s.callEnds := by
  unfold State.offerHead; split <;> simp
@[simp] theorem State.offerHead_dir (t : TrunkNo) : (s.offerHead t).dir = s.dir := by
  unfold State.offerHead; split <;> simp
@[simp] theorem State.offerHead_ap (t : TrunkNo) : (s.offerHead t).ap = s.ap := by
  unfold State.offerHead; split <;> simp
@[simp] theorem State.offerHead_time (t : TrunkNo) : (s.offerHead t).time = s.time := by
  unfold State.offerHead; split <;> simp
@[simp] theorem State.offerHead_journal (t : TrunkNo) : (s.offerHead t).journal = s.journal := by
  unfold State.offerHead; split <;> simp
@[simp] theorem State.offerHead_link (t : TrunkNo) : (s.offerHead t).link = s.link := by
  unfold State.offerHead; split <;> simp

/-! ### offerQualified -/

@[simp] theorem State.offerQualified_pending (t : TrunkNo) : (s.offerQualified t).pending = s.pending := by
  unfold State.offerQualified; split <;> simp
@[simp] theorem State.offerQualified_held (t : TrunkNo) : (s.offerQualified t).held = s.held := by
  unfold State.offerQualified; split <;> simp
@[simp] theorem State.offerQualified_lmu (t : TrunkNo) : (s.offerQualified t).lmu = s.lmu := by
  unfold State.offerQualified; split <;> simp
@[simp] theorem State.offerQualified_lines (t : TrunkNo) : (s.offerQualified t).lines = s.lines := by
  unfold State.offerQualified; split <;> simp
@[simp] theorem State.offerQualified_events (t : TrunkNo) : (s.offerQualified t).events = s.events := by
  unfold State.offerQualified; split <;> simp
@[simp] theorem State.offerQualified_callEnds (t : TrunkNo) : (s.offerQualified t).callEnds = s.callEnds := by
  unfold State.offerQualified; split <;> simp
@[simp] theorem State.offerQualified_dir (t : TrunkNo) : (s.offerQualified t).dir = s.dir := by
  unfold State.offerQualified; split <;> simp
@[simp] theorem State.offerQualified_ap (t : TrunkNo) : (s.offerQualified t).ap = s.ap := by
  unfold State.offerQualified; split <;> simp
@[simp] theorem State.offerQualified_time (t : TrunkNo) : (s.offerQualified t).time = s.time := by
  unfold State.offerQualified; split <;> simp
@[simp] theorem State.offerQualified_journal (t : TrunkNo) : (s.offerQualified t).journal = s.journal := by
  unfold State.offerQualified; split <;> simp
@[simp] theorem State.offerQualified_link (t : TrunkNo) : (s.offerQualified t).link = s.link := by
  unfold State.offerQualified; split <;> simp

/-! ### startPreemption -/

@[simp] theorem State.startPreemption_pending (p : LineNo) : (s.startPreemption p).pending = s.pending := by
  unfold State.startPreemption; split
  · rfl
  · dsimp only; split <;> simp
@[simp] theorem State.startPreemption_held (p : LineNo) : (s.startPreemption p).held = s.held := by
  unfold State.startPreemption; split
  · rfl
  · dsimp only; split <;> simp
@[simp] theorem State.startPreemption_lmu (p : LineNo) : (s.startPreemption p).lmu = s.lmu := by
  unfold State.startPreemption; split
  · rfl
  · dsimp only; split <;> simp
@[simp] theorem State.startPreemption_lines (p : LineNo) : (s.startPreemption p).lines = s.lines := by
  unfold State.startPreemption; split
  · rfl
  · dsimp only; split <;> simp
@[simp] theorem State.startPreemption_events (p : LineNo) : (s.startPreemption p).events = s.events := by
  unfold State.startPreemption; split
  · rfl
  · dsimp only; split <;> simp
@[simp] theorem State.startPreemption_callEnds (p : LineNo) : (s.startPreemption p).callEnds = s.callEnds := by
  unfold State.startPreemption; split
  · rfl
  · dsimp only; split <;> simp
@[simp] theorem State.startPreemption_dir (p : LineNo) : (s.startPreemption p).dir = s.dir := by
  unfold State.startPreemption; split
  · rfl
  · dsimp only; split <;> simp
@[simp] theorem State.startPreemption_time (p : LineNo) : (s.startPreemption p).time = s.time := by
  unfold State.startPreemption; split
  · rfl
  · dsimp only; split <;> simp
@[simp] theorem State.startPreemption_journal (p : LineNo) : (s.startPreemption p).journal = s.journal := by
  unfold State.startPreemption; split
  · rfl
  · dsimp only; split <;> simp
@[simp] theorem State.startPreemption_link (p : LineNo) : (s.startPreemption p).link = s.link := by
  unfold State.startPreemption; split
  · rfl
  · dsimp only; split <;> simp

/-! ### examine -/

@[simp] theorem State.examine_pending : s.examine.pending = s.pending := by
  unfold State.examine; split <;> simp
@[simp] theorem State.examine_held : s.examine.held = s.held := by
  unfold State.examine; split <;> simp
@[simp] theorem State.examine_lmu : s.examine.lmu = s.lmu := by
  unfold State.examine; split <;> simp
@[simp] theorem State.examine_lines : s.examine.lines = s.lines := by
  unfold State.examine; split <;> simp
@[simp] theorem State.examine_events : s.examine.events = s.events := by
  unfold State.examine; split <;> simp
@[simp] theorem State.examine_callEnds : s.examine.callEnds = s.callEnds := by
  unfold State.examine; split <;> simp
@[simp] theorem State.examine_dir : s.examine.dir = s.dir := by
  unfold State.examine; split <;> simp
@[simp] theorem State.examine_time : s.examine.time = s.time := by
  unfold State.examine; split <;> simp
@[simp] theorem State.examine_journal : s.examine.journal = s.journal := by
  unfold State.examine; split <;> simp
@[simp] theorem State.examine_link : s.examine.link = s.link := by
  unfold State.examine; split <;> simp

/-! ### pass -/

@[simp] theorem State.pass_pending : s.pass.pending = s.pending := by
  unfold State.pass
  dsimp only
  rw [State.examine_pending, State.judgeNoTrunk_pending, foldl_same State.pending _ fun s t => s.offerQualified_pending t,
    foldl_same State.pending _ fun s t => s.offerHead_pending t]
@[simp] theorem State.pass_held : s.pass.held = s.held := by
  unfold State.pass
  dsimp only
  rw [State.examine_held, State.judgeNoTrunk_held, foldl_same State.held _ fun s t => s.offerQualified_held t,
    foldl_same State.held _ fun s t => s.offerHead_held t]
@[simp] theorem State.pass_lmu : s.pass.lmu = s.lmu := by
  unfold State.pass
  dsimp only
  rw [State.examine_lmu, State.judgeNoTrunk_lmu, foldl_same State.lmu _ fun s t => s.offerQualified_lmu t,
    foldl_same State.lmu _ fun s t => s.offerHead_lmu t]
@[simp] theorem State.pass_lines : s.pass.lines = s.lines := by
  unfold State.pass
  dsimp only
  rw [State.examine_lines, State.judgeNoTrunk_lines, foldl_same State.lines _ fun s t => s.offerQualified_lines t,
    foldl_same State.lines _ fun s t => s.offerHead_lines t]
@[simp] theorem State.pass_events : s.pass.events = s.events := by
  unfold State.pass
  dsimp only
  rw [State.examine_events, State.judgeNoTrunk_events, foldl_same State.events _ fun s t => s.offerQualified_events t,
    foldl_same State.events _ fun s t => s.offerHead_events t]
@[simp] theorem State.pass_callEnds : s.pass.callEnds = s.callEnds := by
  unfold State.pass
  dsimp only
  rw [State.examine_callEnds, State.judgeNoTrunk_callEnds, foldl_same State.callEnds _ fun s t => s.offerQualified_callEnds t,
    foldl_same State.callEnds _ fun s t => s.offerHead_callEnds t]
@[simp] theorem State.pass_dir : s.pass.dir = s.dir := by
  unfold State.pass
  dsimp only
  rw [State.examine_dir, State.judgeNoTrunk_dir, foldl_same State.dir _ fun s t => s.offerQualified_dir t,
    foldl_same State.dir _ fun s t => s.offerHead_dir t]
@[simp] theorem State.pass_time : s.pass.time = s.time := by
  unfold State.pass
  dsimp only
  rw [State.examine_time, State.judgeNoTrunk_time, foldl_same State.time _ fun s t => s.offerQualified_time t,
    foldl_same State.time _ fun s t => s.offerHead_time t]
@[simp] theorem State.pass_journal : s.pass.journal = s.journal := by
  unfold State.pass
  dsimp only
  rw [State.examine_journal, State.judgeNoTrunk_journal, foldl_same State.journal _ fun s t => s.offerQualified_journal t,
    foldl_same State.journal _ fun s t => s.offerHead_journal t]

/-! ### changed -/

@[simp] theorem State.changed_pending : s.changed.pending = s.pending := by
  unfold State.changed; simp
@[simp] theorem State.changed_held : s.changed.held = s.held := by
  unfold State.changed; simp
@[simp] theorem State.changed_lmu : s.changed.lmu = s.lmu := by
  unfold State.changed; simp
@[simp] theorem State.changed_lines : s.changed.lines = s.lines := by
  unfold State.changed; simp
@[simp] theorem State.changed_events : s.changed.events = s.events := by
  unfold State.changed; simp
@[simp] theorem State.changed_callEnds : s.changed.callEnds = s.callEnds := by
  unfold State.changed; simp
@[simp] theorem State.changed_dir : s.changed.dir = s.dir := by
  unfold State.changed; simp
@[simp] theorem State.changed_time : s.changed.time = s.time := by
  unfold State.changed; simp
@[simp] theorem State.changed_journal : s.changed.journal = s.journal := by
  unfold State.changed; simp

/-! ### addCall -/

@[simp] theorem State.addCall_pending (p : LineNo) (c : Call) : (s.addCall p c).pending = s.pending := rfl
@[simp] theorem State.addCall_held (p : LineNo) (c : Call) : (s.addCall p c).held = s.held := rfl
@[simp] theorem State.addCall_lmu (p : LineNo) (c : Call) : (s.addCall p c).lmu = s.lmu := rfl
@[simp] theorem State.addCall_lines (p : LineNo) (c : Call) : (s.addCall p c).lines = s.lines := rfl
@[simp] theorem State.addCall_events (p : LineNo) (c : Call) : (s.addCall p c).events = s.events := rfl
@[simp] theorem State.addCall_callEnds (p : LineNo) (c : Call) : (s.addCall p c).callEnds = s.callEnds := rfl
@[simp] theorem State.addCall_dir (p : LineNo) (c : Call) : (s.addCall p c).dir = s.dir := rfl
@[simp] theorem State.addCall_ti (p : LineNo) (c : Call) : (s.addCall p c).ti = s.ti := rfl
@[simp] theorem State.addCall_ap (p : LineNo) (c : Call) : (s.addCall p c).ap = s.ap := rfl
@[simp] theorem State.addCall_time (p : LineNo) (c : Call) : (s.addCall p c).time = s.time := rfl
@[simp] theorem State.addCall_journal (p : LineNo) (c : Call) : (s.addCall p c).journal = s.journal := rfl
@[simp] theorem State.addCall_link (p : LineNo) (c : Call) : (s.addCall p c).link = s.link := rfl

/-! ### flagCode -/

@[simp] theorem State.flagCode_pending (l : LineNo) (r : ReceivedCode) (b : Bool) : (s.flagCode l r b).pending = s.pending := by
  unfold State.flagCode; split <;> simp
@[simp] theorem State.flagCode_held (l : LineNo) (r : ReceivedCode) (b : Bool) : (s.flagCode l r b).held = s.held := by
  unfold State.flagCode; split <;> simp
@[simp] theorem State.flagCode_lmu (l : LineNo) (r : ReceivedCode) (b : Bool) : (s.flagCode l r b).lmu = s.lmu := by
  unfold State.flagCode; split <;> simp
@[simp] theorem State.flagCode_events (l : LineNo) (r : ReceivedCode) (b : Bool) : (s.flagCode l r b).events = s.events := by
  unfold State.flagCode; split <;> simp
@[simp] theorem State.flagCode_callEnds (l : LineNo) (r : ReceivedCode) (b : Bool) : (s.flagCode l r b).callEnds = s.callEnds := by
  unfold State.flagCode; split <;> simp
@[simp] theorem State.flagCode_dir (l : LineNo) (r : ReceivedCode) (b : Bool) : (s.flagCode l r b).dir = s.dir := by
  unfold State.flagCode; split <;> simp
@[simp] theorem State.flagCode_cc (l : LineNo) (r : ReceivedCode) (b : Bool) : (s.flagCode l r b).cc = s.cc := by
  unfold State.flagCode; split <;> simp
@[simp] theorem State.flagCode_ti (l : LineNo) (r : ReceivedCode) (b : Bool) : (s.flagCode l r b).ti = s.ti := by
  unfold State.flagCode; split <;> simp
@[simp] theorem State.flagCode_ap (l : LineNo) (r : ReceivedCode) (b : Bool) : (s.flagCode l r b).ap = s.ap := by
  unfold State.flagCode; split <;> simp
@[simp] theorem State.flagCode_time (l : LineNo) (r : ReceivedCode) (b : Bool) : (s.flagCode l r b).time = s.time := by
  unfold State.flagCode; split <;> simp
@[simp] theorem State.flagCode_journal (l : LineNo) (r : ReceivedCode) (b : Bool) : (s.flagCode l r b).journal = s.journal := by
  unfold State.flagCode; split <;> simp

/-! ### identify -/

@[simp] theorem State.identify_pending (p : LineNo) (r : ReceivedCode) (b : Bool) : (s.identify p r b).pending = s.pending := by
  unfold State.identify; split <;> simp
@[simp] theorem State.identify_held (p : LineNo) (r : ReceivedCode) (b : Bool) : (s.identify p r b).held = s.held := by
  unfold State.identify; split <;> simp
@[simp] theorem State.identify_lmu (p : LineNo) (r : ReceivedCode) (b : Bool) : (s.identify p r b).lmu = s.lmu := by
  unfold State.identify; split <;> simp
@[simp] theorem State.identify_events (p : LineNo) (r : ReceivedCode) (b : Bool) : (s.identify p r b).events = s.events := by
  unfold State.identify; split <;> simp
@[simp] theorem State.identify_callEnds (p : LineNo) (r : ReceivedCode) (b : Bool) : (s.identify p r b).callEnds = s.callEnds := by
  unfold State.identify; split <;> simp
@[simp] theorem State.identify_dir (p : LineNo) (r : ReceivedCode) (b : Bool) : (s.identify p r b).dir = s.dir := by
  unfold State.identify; split <;> simp
@[simp] theorem State.identify_ti (p : LineNo) (r : ReceivedCode) (b : Bool) : (s.identify p r b).ti = s.ti := by
  unfold State.identify; split <;> simp
@[simp] theorem State.identify_ap (p : LineNo) (r : ReceivedCode) (b : Bool) : (s.identify p r b).ap = s.ap := by
  unfold State.identify; split <;> simp
@[simp] theorem State.identify_time (p : LineNo) (r : ReceivedCode) (b : Bool) : (s.identify p r b).time = s.time := by
  unfold State.identify; split <;> simp
@[simp] theorem State.identify_journal (p : LineNo) (r : ReceivedCode) (b : Bool) : (s.identify p r b).journal = s.journal := by
  unfold State.identify; split <;> simp

/-! ### enterWaiting -/

@[simp] theorem State.enterWaiting_pending (p : LineNo) : (s.enterWaiting p).pending = s.pending := by
  unfold State.enterWaiting; split
  · rfl
  · dsimp only; split
    · simp
    · split <;> simp
@[simp] theorem State.enterWaiting_held (p : LineNo) : (s.enterWaiting p).held = s.held := by
  unfold State.enterWaiting; split
  · rfl
  · dsimp only; split
    · simp
    · split <;> simp
@[simp] theorem State.enterWaiting_lmu (p : LineNo) : (s.enterWaiting p).lmu = s.lmu := by
  unfold State.enterWaiting; split
  · rfl
  · dsimp only; split
    · simp
    · split <;> simp
@[simp] theorem State.enterWaiting_lines (p : LineNo) : (s.enterWaiting p).lines = s.lines := by
  unfold State.enterWaiting; split
  · rfl
  · dsimp only; split
    · simp
    · split <;> simp
@[simp] theorem State.enterWaiting_events (p : LineNo) : (s.enterWaiting p).events = s.events := by
  unfold State.enterWaiting; split
  · rfl
  · dsimp only; split
    · simp
    · split <;> simp
@[simp] theorem State.enterWaiting_callEnds (p : LineNo) : (s.enterWaiting p).callEnds = s.callEnds := by
  unfold State.enterWaiting; split
  · rfl
  · dsimp only; split
    · simp
    · split <;> simp
@[simp] theorem State.enterWaiting_dir (p : LineNo) : (s.enterWaiting p).dir = s.dir := by
  unfold State.enterWaiting; split
  · rfl
  · dsimp only; split
    · simp
    · split <;> simp
@[simp] theorem State.enterWaiting_ti (p : LineNo) : (s.enterWaiting p).ti = s.ti := by
  unfold State.enterWaiting; split
  · rfl
  · dsimp only; split
    · simp
    · split <;> simp
@[simp] theorem State.enterWaiting_time (p : LineNo) : (s.enterWaiting p).time = s.time := by
  unfold State.enterWaiting; split
  · rfl
  · dsimp only; split
    · simp
    · split <;> simp
@[simp] theorem State.enterWaiting_journal (p : LineNo) : (s.enterWaiting p).journal = s.journal := by
  unfold State.enterWaiting; split
  · rfl
  · dsimp only; split
    · simp
    · split <;> simp
@[simp] theorem State.enterWaiting_link (p : LineNo) : (s.enterWaiting p).link = s.link := by
  unfold State.enterWaiting; split
  · rfl
  · dsimp only; split
    · simp
    · split <;> simp

/-! ### connect -/

@[simp] theorem State.connect_pending (p : LineNo) (t : TrunkNo) : (s.connect p t).pending = s.pending := rfl
@[simp] theorem State.connect_held (p : LineNo) (t : TrunkNo) : (s.connect p t).held = s.held := rfl
@[simp] theorem State.connect_lmu (p : LineNo) (t : TrunkNo) : (s.connect p t).lmu = s.lmu := rfl
@[simp] theorem State.connect_lines (p : LineNo) (t : TrunkNo) : (s.connect p t).lines = s.lines := rfl
@[simp] theorem State.connect_events (p : LineNo) (t : TrunkNo) : (s.connect p t).events = s.events := rfl
@[simp] theorem State.connect_callEnds (p : LineNo) (t : TrunkNo) : (s.connect p t).callEnds = s.callEnds := rfl
@[simp] theorem State.connect_dir (p : LineNo) (t : TrunkNo) : (s.connect p t).dir = s.dir := rfl
@[simp] theorem State.connect_ti (p : LineNo) (t : TrunkNo) : (s.connect p t).ti = s.ti := rfl
@[simp] theorem State.connect_time (p : LineNo) (t : TrunkNo) : (s.connect p t).time = s.time := rfl
@[simp] theorem State.connect_journal (p : LineNo) (t : TrunkNo) : (s.connect p t).journal = s.journal := rfl
@[simp] theorem State.connect_link (p : LineNo) (t : TrunkNo) : (s.connect p t).link = s.link := rfl

/-! ### endMessage -/

@[simp] theorem State.endMessage_pending (c : Call) (k : Cause) : (s.endMessage c k).pending = s.pending := by
  unfold State.endMessage; split <;> (try split) <;> simp
@[simp] theorem State.endMessage_held (c : Call) (k : Cause) : (s.endMessage c k).held = s.held := by
  unfold State.endMessage; split <;> (try split) <;> simp
@[simp] theorem State.endMessage_lmu (c : Call) (k : Cause) : (s.endMessage c k).lmu = s.lmu := by
  unfold State.endMessage; split <;> (try split) <;> simp
@[simp] theorem State.endMessage_lines (c : Call) (k : Cause) : (s.endMessage c k).lines = s.lines := by
  unfold State.endMessage; split <;> (try split) <;> simp
@[simp] theorem State.endMessage_events (c : Call) (k : Cause) : (s.endMessage c k).events = s.events := by
  unfold State.endMessage; split <;> (try split) <;> simp
@[simp] theorem State.endMessage_callEnds (c : Call) (k : Cause) : (s.endMessage c k).callEnds = s.callEnds := by
  unfold State.endMessage; split <;> (try split) <;> simp
@[simp] theorem State.endMessage_dir (c : Call) (k : Cause) : (s.endMessage c k).dir = s.dir := by
  unfold State.endMessage; split <;> (try split) <;> simp
@[simp] theorem State.endMessage_cc (c : Call) (k : Cause) : (s.endMessage c k).cc = s.cc := by
  unfold State.endMessage; split <;> (try split) <;> simp
@[simp] theorem State.endMessage_ap (c : Call) (k : Cause) : (s.endMessage c k).ap = s.ap := by
  unfold State.endMessage; split <;> (try split) <;> simp
@[simp] theorem State.endMessage_time (c : Call) (k : Cause) : (s.endMessage c k).time = s.time := by
  unfold State.endMessage; split <;> (try split) <;> simp
@[simp] theorem State.endMessage_journal (c : Call) (k : Cause) : (s.endMessage c k).journal = s.journal := by
  unfold State.endMessage; split <;> (try split) <;> simp
@[simp] theorem State.endMessage_link (c : Call) (k : Cause) : (s.endMessage c k).link = s.link := by
  unfold State.endMessage; split <;> (try split) <;> simp

/-! ### removeCall -/

@[simp] theorem State.removeCall_pending (c : Call) : (s.removeCall c).pending = s.pending := by
  unfold State.removeCall; split <;> rfl
@[simp] theorem State.removeCall_held (c : Call) : (s.removeCall c).held = s.held := by
  unfold State.removeCall; split <;> rfl
@[simp] theorem State.removeCall_lmu (c : Call) : (s.removeCall c).lmu = s.lmu := by
  unfold State.removeCall; split <;> rfl
@[simp] theorem State.removeCall_lines (c : Call) : (s.removeCall c).lines = s.lines := by
  unfold State.removeCall; split <;> rfl
@[simp] theorem State.removeCall_events (c : Call) : (s.removeCall c).events = s.events := by
  unfold State.removeCall; split <;> rfl
@[simp] theorem State.removeCall_callEnds (c : Call) : (s.removeCall c).callEnds = s.callEnds := by
  unfold State.removeCall; split <;> rfl
@[simp] theorem State.removeCall_dir (c : Call) : (s.removeCall c).dir = s.dir := by
  unfold State.removeCall; split <;> rfl
@[simp] theorem State.removeCall_ap (c : Call) : (s.removeCall c).ap = s.ap := by
  unfold State.removeCall; split <;> rfl
@[simp] theorem State.removeCall_time (c : Call) : (s.removeCall c).time = s.time := by
  unfold State.removeCall; split <;> rfl
@[simp] theorem State.removeCall_journal (c : Call) : (s.removeCall c).journal = s.journal := by
  unfold State.removeCall; split <;> rfl
@[simp] theorem State.removeCall_link (c : Call) : (s.removeCall c).link = s.link := by
  unfold State.removeCall; split <;> rfl

/-! ### freeTrunk -/

@[simp] theorem State.freeTrunk_pending (c : Call) : (s.freeTrunk c).pending = s.pending := by
  unfold State.freeTrunk; split
  · split <;> rfl
  · rfl
@[simp] theorem State.freeTrunk_held (c : Call) : (s.freeTrunk c).held = s.held := by
  unfold State.freeTrunk; split
  · split <;> rfl
  · rfl
@[simp] theorem State.freeTrunk_lmu (c : Call) : (s.freeTrunk c).lmu = s.lmu := by
  unfold State.freeTrunk; split
  · split <;> rfl
  · rfl
@[simp] theorem State.freeTrunk_lines (c : Call) : (s.freeTrunk c).lines = s.lines := by
  unfold State.freeTrunk; split
  · split <;> rfl
  · rfl
@[simp] theorem State.freeTrunk_events (c : Call) : (s.freeTrunk c).events = s.events := by
  unfold State.freeTrunk; split
  · split <;> rfl
  · rfl
@[simp] theorem State.freeTrunk_callEnds (c : Call) : (s.freeTrunk c).callEnds = s.callEnds := by
  unfold State.freeTrunk; split
  · split <;> rfl
  · rfl
@[simp] theorem State.freeTrunk_dir (c : Call) : (s.freeTrunk c).dir = s.dir := by
  unfold State.freeTrunk; split
  · split <;> rfl
  · rfl
@[simp] theorem State.freeTrunk_cc (c : Call) : (s.freeTrunk c).cc = s.cc := by
  unfold State.freeTrunk; split
  · split <;> rfl
  · rfl
@[simp] theorem State.freeTrunk_ap (c : Call) : (s.freeTrunk c).ap = s.ap := by
  unfold State.freeTrunk; split
  · split <;> rfl
  · rfl
@[simp] theorem State.freeTrunk_time (c : Call) : (s.freeTrunk c).time = s.time := by
  unfold State.freeTrunk; split
  · split <;> rfl
  · rfl
@[simp] theorem State.freeTrunk_journal (c : Call) : (s.freeTrunk c).journal = s.journal := by
  unfold State.freeTrunk; split
  · split <;> rfl
  · rfl
@[simp] theorem State.freeTrunk_link (c : Call) : (s.freeTrunk c).link = s.link := by
  unfold State.freeTrunk; split
  · split <;> rfl
  · rfl

/-! ### handBack -/

@[simp] theorem State.handBack_pending (r : CallRef) (b : Bool) : (s.handBack r b).pending = s.pending := by
  unfold State.handBack; split <;> simp
@[simp] theorem State.handBack_held (r : CallRef) (b : Bool) : (s.handBack r b).held = s.held := by
  unfold State.handBack; split <;> simp
@[simp] theorem State.handBack_lmu (r : CallRef) (b : Bool) : (s.handBack r b).lmu = s.lmu := by
  unfold State.handBack; split <;> simp
@[simp] theorem State.handBack_lines (r : CallRef) (b : Bool) : (s.handBack r b).lines = s.lines := by
  unfold State.handBack; split <;> simp
@[simp] theorem State.handBack_events (r : CallRef) (b : Bool) : (s.handBack r b).events = s.events := by
  unfold State.handBack; split <;> simp
@[simp] theorem State.handBack_callEnds (r : CallRef) (b : Bool) : (s.handBack r b).callEnds = s.callEnds := by
  unfold State.handBack; split <;> simp
@[simp] theorem State.handBack_dir (r : CallRef) (b : Bool) : (s.handBack r b).dir = s.dir := by
  unfold State.handBack; split <;> simp
@[simp] theorem State.handBack_ti (r : CallRef) (b : Bool) : (s.handBack r b).ti = s.ti := by
  unfold State.handBack; split <;> simp
@[simp] theorem State.handBack_time (r : CallRef) (b : Bool) : (s.handBack r b).time = s.time := by
  unfold State.handBack; split <;> simp
@[simp] theorem State.handBack_journal (r : CallRef) (b : Bool) : (s.handBack r b).journal = s.journal := by
  unfold State.handBack; split <;> simp
@[simp] theorem State.handBack_link (r : CallRef) (b : Bool) : (s.handBack r b).link = s.link := by
  unfold State.handBack; split <;> simp

/-! ### endOffer -/

@[simp] theorem State.endOffer_pending (t : TrunkNo) (r : CallRef) (k : Cause) : (s.endOffer t r k).pending = s.pending := by
  unfold State.endOffer; simp
@[simp] theorem State.endOffer_held (t : TrunkNo) (r : CallRef) (k : Cause) : (s.endOffer t r k).held = s.held := by
  unfold State.endOffer; simp
@[simp] theorem State.endOffer_lmu (t : TrunkNo) (r : CallRef) (k : Cause) : (s.endOffer t r k).lmu = s.lmu := by
  unfold State.endOffer; simp
@[simp] theorem State.endOffer_lines (t : TrunkNo) (r : CallRef) (k : Cause) : (s.endOffer t r k).lines = s.lines := by
  unfold State.endOffer; simp
@[simp] theorem State.endOffer_events (t : TrunkNo) (r : CallRef) (k : Cause) : (s.endOffer t r k).events = s.events := by
  unfold State.endOffer; simp
@[simp] theorem State.endOffer_callEnds (t : TrunkNo) (r : CallRef) (k : Cause) : (s.endOffer t r k).callEnds = s.callEnds := by
  unfold State.endOffer; simp
@[simp] theorem State.endOffer_dir (t : TrunkNo) (r : CallRef) (k : Cause) : (s.endOffer t r k).dir = s.dir := by
  unfold State.endOffer; simp
@[simp] theorem State.endOffer_time (t : TrunkNo) (r : CallRef) (k : Cause) : (s.endOffer t r k).time = s.time := by
  unfold State.endOffer; simp
@[simp] theorem State.endOffer_journal (t : TrunkNo) (r : CallRef) (k : Cause) : (s.endOffer t r k).journal = s.journal := by
  unfold State.endOffer; simp

/-! ### sendIdent -/

@[simp] theorem State.sendIdent_pending (t : TrunkNo) (p : LineNo) : (s.sendIdent t p).pending = s.pending := by
  unfold State.sendIdent; split <;> simp
@[simp] theorem State.sendIdent_held (t : TrunkNo) (p : LineNo) : (s.sendIdent t p).held = s.held := by
  unfold State.sendIdent; split <;> simp
@[simp] theorem State.sendIdent_lmu (t : TrunkNo) (p : LineNo) : (s.sendIdent t p).lmu = s.lmu := by
  unfold State.sendIdent; split <;> simp
@[simp] theorem State.sendIdent_lines (t : TrunkNo) (p : LineNo) : (s.sendIdent t p).lines = s.lines := by
  unfold State.sendIdent; split <;> simp
@[simp] theorem State.sendIdent_events (t : TrunkNo) (p : LineNo) : (s.sendIdent t p).events = s.events := by
  unfold State.sendIdent; split <;> simp
@[simp] theorem State.sendIdent_callEnds (t : TrunkNo) (p : LineNo) : (s.sendIdent t p).callEnds = s.callEnds := by
  unfold State.sendIdent; split <;> simp
@[simp] theorem State.sendIdent_dir (t : TrunkNo) (p : LineNo) : (s.sendIdent t p).dir = s.dir := by
  unfold State.sendIdent; split <;> simp
@[simp] theorem State.sendIdent_cc (t : TrunkNo) (p : LineNo) : (s.sendIdent t p).cc = s.cc := by
  unfold State.sendIdent; split <;> simp
@[simp] theorem State.sendIdent_ap (t : TrunkNo) (p : LineNo) : (s.sendIdent t p).ap = s.ap := by
  unfold State.sendIdent; split <;> simp
@[simp] theorem State.sendIdent_time (t : TrunkNo) (p : LineNo) : (s.sendIdent t p).time = s.time := by
  unfold State.sendIdent; split <;> simp
@[simp] theorem State.sendIdent_journal (t : TrunkNo) (p : LineNo) : (s.sendIdent t p).journal = s.journal := by
  unfold State.sendIdent; split <;> simp
@[simp] theorem State.sendIdent_link (t : TrunkNo) (p : LineNo) : (s.sendIdent t p).link = s.link := by
  unfold State.sendIdent; split <;> simp

/-! ### confirm -/

@[simp] theorem State.confirm_pending (t : TrunkNo) (q : DeskRequest) : (s.confirm t q).pending = s.pending := by
  unfold State.confirm; simp
@[simp] theorem State.confirm_held (t : TrunkNo) (q : DeskRequest) : (s.confirm t q).held = s.held := by
  unfold State.confirm; simp
@[simp] theorem State.confirm_lmu (t : TrunkNo) (q : DeskRequest) : (s.confirm t q).lmu = s.lmu := by
  unfold State.confirm; simp
@[simp] theorem State.confirm_lines (t : TrunkNo) (q : DeskRequest) : (s.confirm t q).lines = s.lines := by
  unfold State.confirm; simp
@[simp] theorem State.confirm_events (t : TrunkNo) (q : DeskRequest) : (s.confirm t q).events = s.events := by
  unfold State.confirm; simp
@[simp] theorem State.confirm_callEnds (t : TrunkNo) (q : DeskRequest) : (s.confirm t q).callEnds = s.callEnds := by
  unfold State.confirm; simp
@[simp] theorem State.confirm_dir (t : TrunkNo) (q : DeskRequest) : (s.confirm t q).dir = s.dir := by
  unfold State.confirm; simp
@[simp] theorem State.confirm_cc (t : TrunkNo) (q : DeskRequest) : (s.confirm t q).cc = s.cc := by
  unfold State.confirm; simp
@[simp] theorem State.confirm_ap (t : TrunkNo) (q : DeskRequest) : (s.confirm t q).ap = s.ap := by
  unfold State.confirm; simp
@[simp] theorem State.confirm_time (t : TrunkNo) (q : DeskRequest) : (s.confirm t q).time = s.time := by
  unfold State.confirm; simp
@[simp] theorem State.confirm_journal (t : TrunkNo) (q : DeskRequest) : (s.confirm t q).journal = s.journal := by
  unfold State.confirm; simp
@[simp] theorem State.confirm_link (t : TrunkNo) (q : DeskRequest) : (s.confirm t q).link = s.link := by
  unfold State.confirm; simp

/-! ### refuse -/

@[simp] theorem State.refuse_pending (t : TrunkNo) (q : DeskRequest) (r : Reason) : (s.refuse t q r).pending = s.pending := by
  unfold State.refuse; simp
@[simp] theorem State.refuse_held (t : TrunkNo) (q : DeskRequest) (r : Reason) : (s.refuse t q r).held = s.held := by
  unfold State.refuse; simp
@[simp] theorem State.refuse_lmu (t : TrunkNo) (q : DeskRequest) (r : Reason) : (s.refuse t q r).lmu = s.lmu := by
  unfold State.refuse; simp
@[simp] theorem State.refuse_lines (t : TrunkNo) (q : DeskRequest) (r : Reason) : (s.refuse t q r).lines = s.lines := by
  unfold State.refuse; simp
@[simp] theorem State.refuse_events (t : TrunkNo) (q : DeskRequest) (r : Reason) : (s.refuse t q r).events = s.events := by
  unfold State.refuse; simp
@[simp] theorem State.refuse_callEnds (t : TrunkNo) (q : DeskRequest) (r : Reason) : (s.refuse t q r).callEnds = s.callEnds := by
  unfold State.refuse; simp
@[simp] theorem State.refuse_dir (t : TrunkNo) (q : DeskRequest) (r : Reason) : (s.refuse t q r).dir = s.dir := by
  unfold State.refuse; simp
@[simp] theorem State.refuse_cc (t : TrunkNo) (q : DeskRequest) (r : Reason) : (s.refuse t q r).cc = s.cc := by
  unfold State.refuse; simp
@[simp] theorem State.refuse_ap (t : TrunkNo) (q : DeskRequest) (r : Reason) : (s.refuse t q r).ap = s.ap := by
  unfold State.refuse; simp
@[simp] theorem State.refuse_time (t : TrunkNo) (q : DeskRequest) (r : Reason) : (s.refuse t q r).time = s.time := by
  unfold State.refuse; simp
@[simp] theorem State.refuse_journal (t : TrunkNo) (q : DeskRequest) (r : Reason) : (s.refuse t q r).journal = s.journal := by
  unfold State.refuse; simp
@[simp] theorem State.refuse_link (t : TrunkNo) (q : DeskRequest) (r : Reason) : (s.refuse t q r).link = s.link := by
  unfold State.refuse; simp

/-! ### endCall -/

@[simp] theorem State.endCall_pending (p : LineNo) (k : Cause) : (s.endCall p k).pending = s.pending := by
  unfold State.endCall
  split
  · rfl
  · dsimp only
    split <;> split <;> simp
@[simp] theorem State.endCall_held (p : LineNo) (k : Cause) : (s.endCall p k).held = s.held := by
  unfold State.endCall
  split
  · rfl
  · dsimp only
    split <;> split <;> simp
@[simp] theorem State.endCall_lmu (p : LineNo) (k : Cause) : (s.endCall p k).lmu = s.lmu := by
  unfold State.endCall
  split
  · rfl
  · dsimp only
    split <;> split <;> simp
@[simp] theorem State.endCall_lines (p : LineNo) (k : Cause) : (s.endCall p k).lines = s.lines := by
  unfold State.endCall
  split
  · rfl
  · dsimp only
    split <;> split <;> simp
@[simp] theorem State.endCall_events (p : LineNo) (k : Cause) : (s.endCall p k).events = s.events := by
  unfold State.endCall
  split
  · rfl
  · dsimp only
    split <;> split <;> simp
@[simp] theorem State.endCall_dir (p : LineNo) (k : Cause) : (s.endCall p k).dir = s.dir := by
  unfold State.endCall
  split
  · rfl
  · dsimp only
    split <;> split <;> simp
@[simp] theorem State.endCall_time (p : LineNo) (k : Cause) : (s.endCall p k).time = s.time := by
  unfold State.endCall
  split
  · rfl
  · dsimp only
    split <;> split <;> simp

/-- A command on a running part answers its meaning. -/
@[simp] theorem State.running_of (f : State → State) (h : s.held = false) : s.running f = .next (f s) := by
  simp [State.running, h]

/-- A command while a power-on reset is held changes nothing. -/
@[simp] theorem State.running_held (f : State → State) (h : s.held = true) : s.running f = .next s := by
  simp [State.running, h]

end Sys2Proof.Machine
end

