-- ==== Sys2Proof/Laws/Chains.lean ====
section
/-! SUPPORT. The octets that send a chain are accepted, and read as its steps, exactly as R151 has them. -/

namespace Sys2Proof.Machine

open Sys2Proof

/-- The step decoder accepts four octets exactly where they send the step in the ranges of R151. -/
theorem chainStepOf_eq_some {clip mode count gap : Octet} {step : ChainStep} :
    chainStepOf clip mode count gap = some step ↔ step.coded clip mode count gap := by
  obtain ⟨c, m, g⟩ := step
  have h0 : mode.toNat = 0 ↔ mode = 0 := by bv_omega
  have h1 : mode.toNat = 1 ↔ mode = 1 := by bv_omega
  have h2 : mode.toNat = 2 ↔ mode = 2 := by bv_omega
  have hg : (gap.toNat = g ∧ g ≤ 50) ↔ (gap.toNat ≤ 50 ∧ gap.toNat = g) := by omega
  have := c.isLt
  simp only [chainStepOf, indexOf, ChainStep.coded]
  split
  next hc =>
    split
    next hm =>
      have hm := h0.mp hm
      subst hm
      cases m <;> simp [Fin.ext_iff]; omega
    next hm =>
      have hm := h1.mp hm
      subst hm
      by_cases hk : 2 ≤ count.toNat ∧ count.toNat ≤ 15
      · cases m <;> simp [hk, Fin.ext_iff]; omega
      · cases m <;> simp [hk]; omega
    next hm =>
      have hm := h2.mp hm
      subst hm
      cases m <;> simp [Fin.ext_iff]; omega
    next h0' h1' h2' =>
      have := mt h0.mpr h0'
      have := mt h1.mpr h1'
      have := mt h2.mpr h2'
      cases m <;> simp_all
  next hc =>
    simp
    omega

/-- A list of steps keeps LOOP last exactly where each LOOP step is the last one (R151). -/
theorem loopOnlyLast_iff {steps : List ChainStep} :
    loopOnlyLast steps = true ↔
      ∀ i (step : ChainStep), steps[i]? = some step → step.mode = .loop → i + 1 = steps.length := by
  induction steps with
  | nil => simp [loopOnlyLast]
  | cons a rest ih =>
    cases rest with
    | nil =>
      simp only [loopOnlyLast, true_iff]
      intro i step h _
      cases i <;> simp_all
    | cons b rest =>
      simp only [loopOnlyLast, Bool.and_eq_true, decide_eq_true_eq, ih]
      constructor
      · rintro ⟨ha, h⟩ i step hi hl
        cases i with
        | zero => simp_all
        | succ i => simpa using h i step (by simpa using hi) hl
      · intro h
        refine ⟨fun hl => by simpa using h 0 a rfl hl, fun i step hi hl => ?_⟩
        simpa using h (i + 1) step (by simpa using hi) hl

/-- The octets give a list of steps exactly where each step is sent by its four (R151). -/
theorem chainStepsOf_eq_some {os : List Octet} {steps : List ChainStep} :
    chainStepsOf os = some steps ↔ os.length = 4 * steps.length ∧ ∀ i (step : ChainStep), steps[i]? = some step →
      step.coded (os.getD (4 * i) 0) (os.getD (4 * i + 1) 0) (os.getD (4 * i + 2) 0) (os.getD (4 * i + 3) 0) := by
  induction steps generalizing os with
  | nil => 
    match os with
    | [] => simp [chainStepsOf]
    | [_] | [_, _] | [_, _, _] => simp [chainStepsOf]
    | clip :: mode :: count :: gap :: rest => simp [chainStepsOf, Option.bind_eq_some_iff]
  | cons a rest ih =>
    match os with
    | [] => simp [chainStepsOf]
    | [_] | [_, _] | [_, _, _] => simp [chainStepsOf]; omega
    | clip :: mode :: count :: gap :: os =>
      simp only [chainStepsOf, Option.bind_eq_bind, Option.bind_eq_some_iff, Option.some.injEq, List.cons.injEq]
      constructor
      · rintro ⟨_, ha, _, hr, rfl, rfl⟩
        have ⟨hl, h⟩ := ih.mp hr
        refine ⟨by simp [hl]; omega, fun i step hi => ?_⟩
        cases i with
        | zero => 
          cases hi
          exact chainStepOf_eq_some.mp ha
        | succ i => exact h i step hi
      · rintro ⟨hl, h⟩
        exact ⟨a, chainStepOf_eq_some.mpr (h 0 a rfl), rest,
          ih.mpr ⟨by simp at hl; omega, fun i step hi => h (i + 1) step (by simpa using hi)⟩, rfl, rfl⟩

/-- The octets of a CHAIN SET are accepted exactly where they send the steps in the ranges of R151. -/
theorem chainOf_eq_some {os : List Octet} {steps : List ChainStep} :
    chainOf os = some steps ↔ chainCoded os steps := by
  simp only [chainOf, Option.bind_eq_bind, Option.bind_eq_some_iff, Option.ite_none_right_eq_some, chainCoded]
  constructor
  · rintro ⟨_, hs, ⟨hn, hl⟩, ⟨⟩⟩
    have ⟨hc, h⟩ := chainStepsOf_eq_some.mp hs
    exact ⟨hn, hc, fun i step hi => ⟨h i step hi, loopOnlyLast_iff.mp hl i step hi⟩⟩
  · rintro ⟨hn, hc, h⟩
    exact ⟨steps, chainStepsOf_eq_some.mpr ⟨hc, fun i step hi => (h i step hi).1⟩,
      ⟨hn, loopOnlyLast_iff.mpr fun i step hi => (h i step hi).2⟩, rfl⟩

end Sys2Proof.Machine
end

