-- ==== Sys2Proof/Laws/Entries.lean ====
section
/-! SUPPORT. The octets of a calibration and of an entry image are accepted, and read as what they send, exactly as
R53 and R56 have them. -/

namespace Sys2Proof.Machine

open Sys2Proof

/-- Four octets give a calibration exactly where they send it in the ranges of R53 and R56. -/
theorem calibrationOf_eq_some {g1 g0 o1 o0 : Octet} {c : Calibration} :
    calibrationOf g1 g0 o1 o0 = some c ↔ c.coded g1 g0 o1 o0 := by
  obtain ⟨gain, offset⟩ := c
  have hb : be16 o1 o0 < 65536 := by
    have := o1.isLt
    have := o0.isLt
    unfold be16
    omega
  have hs : signed16 o1 o0 = if be16 o1 o0 < 32768 then (be16 o1 o0 : Int) else (be16 o1 o0 : Int) - 65536 := rfl
  simp only [calibrationOf, Calibration.coded, Calibration.inRange]
  generalize signed16 o1 o0 = x at hs
  split at hs <;> split <;> simp <;> omega

theorem isPostChar_iff {o : Octet} : isPostChar o = true ↔ postCharacter o := by
  simp [isPostChar, postCharacter, or_assoc]

/-- A field gives a post number exactly where it is that number, in range and padded with 0x00 (R53). -/
theorem postOf_eq_some {field text : List Octet} (hf : field.length = 8) :
    postOf field = some text ↔
      text ≠ [] ∧ text.length ≤ 8 ∧ (∀ o ∈ text, postCharacter o) ∧
        field = text ++ List.replicate (8 - text.length) 0 := by
  simp only [postOf, Option.ite_none_right_eq_some, Option.some.injEq, List.all_eq_true, decide_eq_true_eq,
    isPostChar_iff]
  constructor
  · rintro ⟨⟨hn, hc, hz⟩, rfl⟩
    have hl := (List.takeWhile_sublist (l := field) (fun o : Octet => decide (o ≠ 0))).length_le
    refine ⟨hn, by omega, hc, ?_⟩
    have hp := List.prefix_iff_eq_append.mp (List.takeWhile_prefix (l := field) (fun o : Octet => decide (o ≠ 0)))
    have hr := List.eq_replicate_iff.mpr ⟨rfl, hz⟩
    rw [List.length_drop, hf] at hr
    rw [← hr, hp]
  · rintro ⟨hn, hl, hc, rfl⟩
    have ht : (text ++ List.replicate (8 - text.length) 0).takeWhile (fun o : Octet => decide (o ≠ 0)) = text := by
      rw [List.takeWhile_append_of_pos]
      · simp
      · intro o ho
        have := hc o ho
        simp only [decide_eq_true_eq]
        rintro rfl
        simp [postCharacter] at this
    rw [ht]
    refine ⟨⟨hn, hc, fun o ho => ?_⟩, rfl⟩
    simp at ho
    exact ho.2

theorem carriagewayOf_eq_some {o : Octet} {c : Carriageway} :
    carriagewayOf o = some c ↔ (o.toNat, c) ∈ [(0, Carriageway.a), (1, .b), (2, .link)] := by
  unfold carriagewayOf
  split <;> cases c <;> simp_all

theorem zoneOf_eq_some {o : Octet} {z : Zone} :
    zoneOf o = some z ↔ (o.toNat, z) ∈ [(0, Zone.tunnel), (1, .structure_), (2, .open_), (3, .depot)] := by
  unfold zoneOf
  split <;> cases z <;> simp_all

theorem setChoiceOf_eq_some {o : Octet} {c : SetChoice} :
    setChoiceOf o = some c ↔ (o.toNat, c) ∈ [(0, SetChoice.a), (1, .b)] := by
  unfold setChoiceOf
  split <;> cases c <;> simp_all

theorem indexOf_eq_some {n : Nat} {o : Octet} {i : Fin n} : indexOf n o = some i ↔ o.toNat = i.val := by
  have := i.isLt
  unfold indexOf
  split
  · simp [Fin.ext_iff]
  · simp
    omega

theorem expectedOf_eq_some {n : Nat} {x : Option Nat} :
    expectedOf n = some x ↔ n = x.getD 65535 ∧ ∀ k, x = some k → k ≤ 8999 := by
  unfold expectedOf
  split
  · cases x <;> simp <;> omega
  · split <;> cases x <;> simp <;> omega

theorem boreOf_eq_some {z : Zone} {o : Octet} {b : Option Nat} :
    boreOf z o = some b ↔
      o.toNat = b.getD 0 ∧ (z = .tunnel → ∃ k, b = some k ∧ 1 ≤ k ∧ k ≤ 4) ∧ (z ≠ .tunnel → b = none) := by
  have h0 : o = 0 ↔ o.toNat = 0 := by bv_omega
  unfold boreOf
  split
  next hz =>
    split <;> cases b <;> simp [hz] <;> omega
  next hz =>
    split <;> cases b <;> simp_all

/-- The naming fields of an image are accepted exactly where it sends them in the ranges of R53. -/
theorem namedOf_eq_some {f : NamedFields} {st p0 p1 p2 p3 p4 p5 p6 p7 x1 x0 way c2 c1 c0 zone bore : Octet}
    {rest : List Octet} :
    namedOf [p0, p1, p2, p3, p4, p5, p6, p7] x1 x0 way c2 c1 c0 zone bore = some f ↔
      f.coded (st :: p0 :: p1 :: p2 :: p3 :: p4 :: p5 :: p6 :: p7 :: x1 :: x0 :: way :: c2 :: c1 :: c0 :: zone ::
        bore :: rest) := by
  obtain ⟨expected, ⟨text, carriageway, chainage, z, b⟩⟩ := f
  simp only [namedOf, Option.bind_eq_bind, Option.bind_eq_some_iff, postOf_eq_some (field := [_, _, _, _, _, _, _, _]) rfl,
    expectedOf_eq_some, carriagewayOf_eq_some, zoneOf_eq_some, boreOf_eq_some, Option.ite_none_right_eq_some,
    Option.some.injEq, NamedFields.mk.injEq, Naming.mk.injEq, NamedFields.coded, NamedFields.inRange]
  constructor
  · rintro ⟨_, ⟨h1, h2, h3, h4⟩, _, ⟨h5, h6⟩, _, h7, _, h8, _, ⟨h9, h10, h11⟩, h12, rfl, rfl, rfl, rfl, rfl, rfl⟩
    exact ⟨⟨h1, h2, h3, h6, h12, h10, h11⟩, h4, h5, h7, rfl, h8, h9⟩
  · rintro ⟨⟨h1, h2, h3, h6, h12, h10, h11⟩, h4, h5, h7, rfl, h8, h9⟩
    exact ⟨_, ⟨h1, h2, h3, h4⟩, _, ⟨h5, h6⟩, _, h7, _, h8, _, ⟨h9, h10, h11⟩, h12, rfl, rfl, rfl, rfl, rfl, rfl⟩

/-- The naming fields under an entry state are accepted exactly where EMPTY or NAMED is sent, the latter with fields in
the ranges of R53. -/
theorem namingOf_eq_some {named : Option NamedFields} {st p0 p1 p2 p3 p4 p5 p6 p7 x1 x0 way c2 c1 c0 zone bore : Octet}
    {rest : List Octet} :
    namingOf st [p0, p1, p2, p3, p4, p5, p6, p7] x1 x0 way c2 c1 c0 zone bore = some named ↔
      match named with
      | none => st = 0
      | some f => st = 1 ∧ f.coded (st :: p0 :: p1 :: p2 :: p3 :: p4 :: p5 :: p6 :: p7 :: x1 :: x0 :: way :: c2 :: c1 ::
          c0 :: zone :: bore :: rest) := by
  have h0 : st = 0 ↔ st.toNat = 0 := by bv_omega
  have h1 : st = 1 ↔ st.toNat = 1 := by bv_omega
  rw [namingOf]
  split
  next h =>
    cases named with
    | none => simp only [h0, h]
    | some f => simp only [h1, h]; simp
  next h =>
    cases named with
    | none => simp only [h0, h]; simp
    | some f =>
      simp only [Option.map_eq_some_iff, Option.some.injEq, exists_eq_right, h1, h, true_and]
      exact namedOf_eq_some
  next n0 n1 => cases named <;> simp only [h0, h1] <;> simp_all

/-- An image of 27 octets is accepted exactly where it sends an entry in the ranges of R53; the entry has the service
it is given. -/
theorem entryOf_eq_some {sv : EntryService} {image : List Octet} {e : Entry} (hl : image.length = 27) :
    entryOf sv image = some e ↔ e.coded image ∧ e.service = sv := by
  match image, hl with
  | [st, p0, p1, p2, p3, p4, p5, p6, p7, x1, x0, way, c2, c1, c0, zone, bore, chain, set_, lg1, lg0, lo1, lo0, gg1, gg0,
      go1, go0], _ =>
    obtain ⟨named, wc, ts, lc, gc, service⟩ := e
    simp only [entryOf, Option.bind_eq_bind, Option.bind_eq_some_iff,
      namingOf_eq_some (rest := [chain, set_, lg1, lg0, lo1, lo0, gg1, gg0, go1, go0]), indexOf_eq_some,
      setChoiceOf_eq_some, calibrationOf_eq_some, Option.some.injEq, Entry.mk.injEq]
    constructor
    · rintro ⟨_, h1, _, h2, _, h3, _, h4, _, h5, rfl, rfl, rfl, rfl, rfl, rfl⟩
      exact ⟨⟨h1, h2, h3, h4, h5⟩, rfl⟩
    · rintro ⟨⟨h1, h2, h3, h4, h5⟩, rfl⟩
      exact ⟨_, h1, _, h2, _, h3, _, h4, _, h5, rfl, rfl, rfl, rfl, rfl, rfl⟩

end Sys2Proof.Machine
end

