-- ==== Sys2Proof/Laws/Kept.lean ====
section
/-! SUPPORT. What an allocation pass can do to the calls: a WAITING call may be OFFERED and a CONNECTED one
PREEMPTING; every other change of a call is made elsewhere. -/

namespace Sys2Proof.Machine

open Sys2Proof

/-- `b` is `a`, or `a` taken by a pass: OFFERED from WAITING, or PREEMPTING from CONNECTED, its identity kept. -/
def Call.taken (a b : Call) : Prop :=
  b.ref = a.ref ∧ b.line = a.line ∧ b.sequence = a.sequence ∧ b.origin = a.origin ∧ b.identity = a.identity ∧
    b.createdAt = a.createdAt ∧ b.offerCount = a.offerCount ∧ b.holdCount = a.holdCount ∧
    b.rescued = a.rescued ∧
    (b.state = a.state ∨ a.state = .waiting ∧ b.state = .offered ∨
      a.state = .connected ∧ b.state = .preempting)

theorem Call.taken_refl (a : Call) : a.taken a := ⟨rfl, rfl, rfl, rfl, rfl, rfl, rfl, rfl, rfl, .inl rfl⟩

theorem Call.taken_trans {a b c : Call} (h : a.taken b) (g : b.taken c) : a.taken c := by
  obtain ⟨h1, h2, h3, h4, h5, h6, h7, h8, h9, h10⟩ := h
  obtain ⟨g1, g2, g3, g4, g5, g6, g7, g8, g9, g10⟩ := g
  refine ⟨g1.trans h1, g2.trans h2, g3.trans h3, g4.trans h4, g5.trans h5, g6.trans h6, g7.trans h7,
    g8.trans h8, g9.trans h9, ?_⟩
  rcases h10 with h | ⟨h, h'⟩ | ⟨h, h'⟩ <;> rcases g10 with g | ⟨g, g'⟩ | ⟨g, g'⟩ <;> simp_all

/-- A call taken by a pass is the same call. -/
theorem Call.taken_sameCall {a b : Call} (h : a.taken b) : a.sameCall b :=
  ⟨h.1, h.2.1, h.2.2.1, h.2.2.2.1, h.2.2.2.2.2.1, fun _ => by rw [h.2.2.2.2.1]⟩

/-- Every place holds in `t` what it holds in `s`, or that call taken by a pass. -/
def State.takenTo (s t : State) : Prop :=
  ∀ p, (s.cc.calls.get p = none → t.cc.calls.get p = none) ∧
    ∀ a, s.cc.calls.get p = some a → ∃ b, t.cc.calls.get p = some b ∧ a.taken b

theorem State.takenTo_of_calls {s t : State} (h : t.cc.calls = s.cc.calls) : s.takenTo t :=
  fun _ => ⟨fun hp => h ▸ hp, fun a ha => ⟨a, h ▸ ha, a.taken_refl⟩⟩

theorem State.takenTo_trans {s t u : State} (h : s.takenTo t) (g : t.takenTo u) : s.takenTo u := by
  refine fun p => ⟨fun hp => (g p).1 ((h p).1 hp), fun a ha => ?_⟩
  obtain ⟨b, hb, hab⟩ := (h p).2 a ha
  obtain ⟨c, hc, hbc⟩ := (g p).2 b hb
  exact ⟨c, hc, Call.taken_trans hab hbc⟩

/-- One place given a taken call. -/
theorem State.takenTo_set {s t : State} {p : LineNo} {a b : Call} (ha : s.cc.calls.get p = some a)
    (hab : a.taken b) (ht : t.cc.calls = s.cc.calls.set p (some b)) : s.takenTo t := by
  intro q
  rw [ht, Table.get_set]
  by_cases hq : p = q
  · subst hq
    simp only [ha, if_true]
    refine ⟨nofun, fun c hc => ⟨b, rfl, ?_⟩⟩
    cases hc
    exact hab
  · simp only [if_neg hq]
    exact ⟨id, fun c hc => ⟨c, hc, c.taken_refl⟩⟩

theorem State.takenTo_foldl {α : Type} (f : State → α → State) (h : ∀ (s : State) x, s.takenTo (f s x)) (xs : List α)
    (s : State) : s.takenTo (xs.foldl f s) := by
  induction xs generalizing s with
  | nil => exact takenTo_of_calls rfl
  | cons x xs ih => exact takenTo_trans (h s x) (ih _)

/-- A message made for a desk touches no call (R106). -/
@[simp] theorem State.sendDesk_calls (s : State) (t : TrunkNo) (m : DeskMessage) :
    (s.sendDesk t m).cc.calls = s.cc.calls := by
  unfold State.sendDesk
  split
  · split <;> rfl
  · rfl

/-- An offer makes its WAITING call OFFERED and touches no other (R87). -/
theorem State.offer_takenTo (s : State) (t : TrunkNo) (p : LineNo) : s.takenTo (s.offer t p) := by
  unfold State.offer
  split
  · exact takenTo_of_calls rfl
  · next c hc =>
    split
    · next hw =>
      refine takenTo_set hc
        (b := { c with state := .offered, trunk := some t, lastTrunk := some t, queueEntry := none,
                       agingMark := none })
        ⟨rfl, rfl, rfl, rfl, rfl, rfl, rfl, rfl, rfl, .inr (.inl ⟨hw, rfl⟩)⟩ ?_
      dsimp only
      split
      · rw [sendDesk_calls]; rfl
      · rfl
    · exact takenTo_of_calls rfl

theorem State.offerHead_takenTo (s : State) (t : TrunkNo) : s.takenTo (s.offerHead t) := by
  unfold State.offerHead
  split
  · exact offer_takenTo _ _ _
  · exact takenTo_of_calls rfl

theorem State.offerQualified_takenTo (s : State) (t : TrunkNo) : s.takenTo (s.offerQualified t) := by
  unfold State.offerQualified
  split
  · exact offer_takenTo _ _ _
  · exact takenTo_of_calls rfl

/-- The chosen call of a preemption is CONNECTED (R140, condition 3). -/
theorem State.preemptionChoice_connected {s : State} {p : LineNo} (h : s.preemptionChoice = some p) :
    ∃ c, s.cc.calls.get p = some c ∧ c.state = .connected := by
  unfold State.preemptionChoice at h
  dsimp only at h
  split at h
  · have hp := List.mem_of_mem_head? h
    rw [List.mem_insertionSort, List.mem_filterMap] at hp
    obtain ⟨t, -, ht⟩ := hp
    unfold State.candidate at ht
    dsimp only at ht
    split at ht
    · split at ht
      · split at ht
        · next hc =>
          cases ht
          cases hg : s.cc.calls.get p with
          | none => simp [hg] at hc
          | some c =>
            rw [hg, Option.any_some, Bool.and_eq_true, Bool.and_eq_true] at hc
            exact ⟨c, rfl, of_decide_eq_true hc.1.2⟩
        · cases ht
      · cases ht
    · cases ht
  · cases h

/-- An examination makes at most the chosen CONNECTED call PREEMPTING (R141). -/
theorem State.examine_takenTo (s : State) : s.takenTo s.examine := by
  unfold State.examine
  split
  · next p hp =>
    obtain ⟨c, hc, hs⟩ := preemptionChoice_connected hp
    unfold State.startPreemption
    rw [hc]
    refine takenTo_set hc
      (b := { c with state := .preempting, connectedMark := none, preemptionTimer := some Config.preemptionTime })
      ⟨rfl, rfl, rfl, rfl, rfl, rfl, rfl, rfl, rfl, .inr (.inr ⟨hs, rfl⟩)⟩ ?_
    dsimp only
    split
    · rw [sendDesk_calls]; rfl
    · rfl
  · exact takenTo_of_calls rfl

/-- What an allocation pass can do to the calls (R84–R86, R140). -/
theorem State.pass_takenTo (s : State) : s.takenTo s.pass := by
  have h := takenTo_foldl State.offerHead offerHead_takenTo (s.eligibleTrunks .primary) s
  have g := takenTo_foldl State.offerQualified offerQualified_takenTo
    (((s.eligibleTrunks .primary).foldl State.offerHead s).eligibleTrunks .overflow)
    ((s.eligibleTrunks .primary).foldl State.offerHead s)
  exact takenTo_trans (takenTo_trans h g) <|
    takenTo_trans (takenTo_of_calls (by rw [judgeNoTrunk_cc])) (examine_takenTo _)

/-- What a change of the queue or the trunks can do to the calls (R84, R121). -/
theorem State.changed_takenTo (s : State) : s.takenTo s.changed :=
  takenTo_trans (takenTo_of_calls (by rw [judgeNoTrunk_cc])) (pass_takenTo _)

end Sys2Proof.Machine
end

