-- ==== Sys2Proof/Laws/Lines.lean ====
section
/-! SUPPORT. What the rows that name a moment of an evaluation can do. -/

namespace Sys2Proof.Machine

open Sys2Proof

variable {s : State} {e : LineSample} {due : LineRecord → EvalResult → Bool}

/-- Such a row does nothing, or the LSC takes the result of an evaluation that brings its moment (R17, R24). -/
theorem State.evaluateWhere_cases (s : State) (e : LineSample) (due : LineRecord → EvalResult → Bool) :
    s.evaluateWhere e due = s ∨
      ∃ m r, s.measure e.line e.loop.toInt e.ground.toInt = (m, some r) ∧ due (s.lines.get e.line) r = true ∧
        s.evaluateWhere e due = (s.setMeasurement e.line m).takeResult e.line r := by
  unfold State.evaluateWhere
  split
  · next m r h =>
    split
    · next hd => exact .inr ⟨m, r, h, hd, rfl⟩
    · exact .inl rfl
  · exact .inl rfl

/-- An evaluation that brings the moment is carried out whole. -/
theorem State.evaluateWhere_due {m : Measurement} {r : EvalResult}
    (h : s.measure e.line e.loop.toInt e.ground.toInt = (m, some r)) (hd : due (s.lines.get e.line) r = true) :
    s.evaluateWhere e due = (s.setMeasurement e.line m).takeResult e.line r := by
  simp [State.evaluateWhere, h, hd]

/-- An evaluation that does not bring the moment is not the row's. -/
theorem State.evaluateWhere_not_due {m : Measurement} {r : EvalResult}
    (h : s.measure e.line e.loop.toInt e.ground.toInt = (m, some r)) (hd : due (s.lines.get e.line) r = false) :
    s.evaluateWhere e due = s := by
  simp [State.evaluateWhere, h, hd]

/-- A sample that closes no evaluation is not the row's. -/
theorem State.evaluateWhere_open (h : (s.measure e.line e.loop.toInt e.ground.toInt).2 = none) :
    s.evaluateWhere e due = s := by
  unfold State.evaluateWhere
  split
  · next hm => simp [hm] at h
  · rfl

end Sys2Proof.Machine
end

