-- ==== Sys2Proof/Laws/Memory.lean ====
section
/-! SUPPORT. The prompt store: every operation keeps its canonical form, and reading after writing. -/

namespace Sys2Proof.Machine

open Sys2Proof

/-- The canonical form one entry at a time: the first entry is not silence and lies below the next. -/
theorem Memory.wf_cons (a : Nat) (w : Octet) (m : Memory) :
    Memory.wf ((a, w) :: m) = true ↔
      w ≠ Memory.silent ∧ (∀ b v, m.head? = some (b, v) → a < b) ∧ Memory.wf m = true := by
  cases m with
  | nil => simp [Memory.wf]
  | cons x m =>
    obtain ⟨b, v⟩ := x
    simp [Memory.wf, and_assoc]

/-- A write begins with the address written or with the address that stood first. -/
theorem Memory.head_write (m : Memory) (a : Nat) (v : Octet) (b : Nat) (w : Octet)
    (hm : Memory.wf m = true) (h : (Memory.write m a v).head? = some (b, w)) :
    b = a ∨ (∃ c u, m.head? = some (c, u) ∧ c ≤ b) := by
  cases m with
  | nil =>
    unfold Memory.write at h
    split at h
    · simp at h
    · left; simp_all
  | cons x m =>
    obtain ⟨c, u⟩ := x
    unfold Memory.write at h
    rw [Memory.wf_cons] at hm
    split at h
    · split at h
      · right; refine ⟨c, u, rfl, ?_⟩; simp at h; omega
      · left; simp at h; exact h.1.symm
    · split at h
      · split at h
        · right; exact ⟨c, u, rfl, (hm.2.1 b w h).le⟩
        · left; simp at h; omega
      · right; refine ⟨c, u, rfl, ?_⟩; simp at h; omega

/-- A write keeps the canonical form. -/
theorem Memory.wf_write (m : Memory) (a : Nat) (v : Octet) (h : Memory.wf m = true) :
    Memory.wf (Memory.write m a v) = true := by
  induction m with
  | nil =>
    unfold Memory.write
    split
    · rfl
    · next hv => simp [Memory.wf, hv]
  | cons x m ih =>
    obtain ⟨c, u⟩ := x
    have hc := (Memory.wf_cons c u m).1 h
    unfold Memory.write
    split
    · next hlt =>
      split
      · exact h
      · next hv => exact (Memory.wf_cons _ _ _).2 ⟨hv, by simp; omega, h⟩
    · next hge =>
      split
      · next he =>
        subst he
        split
        · exact hc.2.2
        · next hv => exact (Memory.wf_cons _ _ _).2 ⟨hv, hc.2.1, hc.2.2⟩
      · next hne =>
        refine (Memory.wf_cons _ _ _).2 ⟨hc.1, fun b w hb => ?_, ih hc.2.2⟩
        rcases Memory.head_write m a v b w hc.2.2 hb with rfl | ⟨d, y, hd, hle⟩
        · omega
        · exact lt_of_lt_of_le (hc.2.1 d y hd) hle

/-- Writing octets one after another keeps the canonical form. -/
theorem Memory.wf_writeAll (m : Memory) (a : Nat) (os : List Octet) (h : Memory.wf m = true) :
    Memory.wf (Memory.writeAll m a os) = true := by
  induction os generalizing m a with
  | nil => exact h
  | cons o os ih => exact ih _ _ (Memory.wf_write m a o h)

/-- The store after a power-on reset has the canonical form. -/
theorem Memory.wf_reset : Memory.wf State.reset.ap.prompt = true := rfl

/-- Below the first entry of a canonical store everything is silence. -/
theorem Memory.read_below (m : Memory) (a : Nat) (h : Memory.wf m = true)
    (hlt : ∀ b v, m.head? = some (b, v) → a < b) : Memory.read m a = Memory.silent := by
  induction m with
  | nil => rfl
  | cons x m ih =>
    obtain ⟨c, u⟩ := x
    have hc := (Memory.wf_cons c u m).1 h
    have hac := hlt c u rfl
    unfold Memory.read
    rw [if_neg (by omega)]
    exact ih hc.2.2 fun b v hb => lt_trans hac (hc.2.1 b v hb)

/-- Reading the address just written gives what was written. -/
theorem Memory.read_write_self (m : Memory) (a : Nat) (v : Octet) (h : Memory.wf m = true) :
    Memory.read (Memory.write m a v) a = v := by
  induction m with
  | nil =>
    unfold Memory.write
    split
    · next hv => rw [hv]; rfl
    · simp [Memory.read]
  | cons x m ih =>
    obtain ⟨c, u⟩ := x
    have hc := (Memory.wf_cons c u m).1 h
    unfold Memory.write
    split
    · next hlt =>
      split
      · next hv => rw [hv]; exact Memory.read_below _ _ h (by simp; omega)
      · simp [Memory.read]
    · split
      · next he =>
        subst he
        split
        · next hv => rw [hv]; exact Memory.read_below _ _ hc.2.2 hc.2.1
        · simp [Memory.read]
      · next hne =>
        unfold Memory.read
        rw [if_neg (Ne.symm hne)]
        exact ih hc.2.2

/-- A write leaves every other address as it was. -/
theorem Memory.read_write_ne (m : Memory) {a b : Nat} (v : Octet) (hab : a ≠ b) :
    Memory.read (Memory.write m a v) b = Memory.read m b := by
  induction m with
  | nil =>
    unfold Memory.write
    split
    · rfl
    · simp [Memory.read, hab]
  | cons x m ih =>
    obtain ⟨c, u⟩ := x
    unfold Memory.write
    split
    · split
      · rfl
      · simp [Memory.read, hab]
    · split
      · next he =>
        subst he
        split <;> simp [Memory.read, hab]
      · simp [Memory.read, ih]

/-- Writing octets from `a` on leaves every address outside them as it was. -/
theorem Memory.read_writeAll_outside (m : Memory) (a : Nat) (os : List Octet) (b : Nat)
    (h : b < a ∨ a + os.length ≤ b) : Memory.read (Memory.writeAll m a os) b = Memory.read m b := by
  induction os generalizing m a with
  | nil => rfl
  | cons o os ih =>
    simp only [List.length_cons] at h
    unfold Memory.writeAll
    rw [ih _ _ (by omega), Memory.read_write_ne _ _ (by omega)]

/-- Writing octets from `a` on, each is read back at its place. -/
theorem Memory.read_writeAll_inside (m : Memory) (a : Nat) (os : List Octet) (h : Memory.wf m = true) (i : Nat)
    (hi : i < os.length) : Memory.read (Memory.writeAll m a os) (a + i) = os[i] := by
  induction os generalizing m a i with
  | nil => simp at hi
  | cons o os ih =>
    unfold Memory.writeAll
    cases i with
    | zero =>
      rw [Memory.read_writeAll_outside _ _ _ _ (by omega)]
      exact Memory.read_write_self m a o h
    | succ i =>
      have := ih (Memory.write m a o) (a + 1) (Memory.wf_write m a o h) i (by simpa using hi)
      simpa [Nat.add_assoc, Nat.add_comm 1 i] using this

end Sys2Proof.Machine
end

