-- ==== Sys2Proof/Laws/PerInstr.lean ====
section
/-! SUPPORT. What holds of every command as syntax: the request of a command that can reach the part fits a
frame that the receiver accepts (R177, R178). One lemma for each command. -/

namespace Sys2Proof.Laws.RequestFits

open Machine

/-- The request of a command that can reach the part has a code below 0x40 and a body of at most 199 octets. -/
def Statement (i : Instr) : Prop :=
  i.wellFormed = true → ∀ f, i.request = some f → f.code.toNat < 0x40 ∧ f.body.length ≤ 199

/-- A request of a fixed code whose body is the command's own. -/
theorem of_body {code : Octet} {body : List Octet} (hc : code.toNat < 0x40) (hw : fitsBody body = true)
    (f : Frame) (hf : some (⟨code, body⟩ : Frame) = some f) : f.code.toNat < 0x40 ∧ f.body.length ≤ 199 := by
  cases hf
  exact ⟨hc, of_decide_eq_true hw⟩

/-- A PARAM SET, whose body is the identifier and the value. -/
theorem of_value {n : Octet} {value : List Octet} (hw : fitsValue value = true) (f : Frame)
    (hf : some (⟨0x02, n :: value⟩ : Frame) = some f) : f.code.toNat < 0x40 ∧ f.body.length ≤ 199 := by
  cases hf
  exact ⟨show (2 : Nat) < 64 by decide, Nat.succ_le_succ (of_decide_eq_true hw)⟩

theorem powerOnReset : Statement .powerOnReset := fun _ _ hf => nomatch hf
theorem powerOnResetRelease : Statement .powerOnResetRelease := fun _ _ hf => nomatch hf
theorem samplePair (line : LineNo) (loop ground : BitVec 12) : Statement (.samplePair line loop ground) := fun _ _ hf => nomatch hf
theorem codeTimerExpiry (sample : LineSample) : Statement (.codeTimerExpiry sample) := fun _ _ hf => nomatch hf
theorem lockoutCountExpiry (sample : LineSample) : Statement (.lockoutCountExpiry sample) := fun _ _ hf => nomatch hf
theorem ringPhaseChange (sample : LineSample) : Statement (.ringPhaseChange sample) := fun _ _ hf => nomatch hf
theorem seizure (line : LineNo) : Statement (.seizure line) := fun _ _ hf => nomatch hf
theorem codeResult (line : LineNo) (code : CodeResult) : Statement (.codeResult line code) := fun _ _ hf => nomatch hf
theorem offHookAtStart (line : LineNo) : Statement (.offHookAtStart line) := fun _ _ hf => nomatch hf
theorem lockoutExpiry (line : LineNo) : Statement (.lockoutExpiry line) := fun _ _ hf => nomatch hf
theorem hangUp (line : LineNo) : Statement (.hangUp line) := fun _ _ hf => nomatch hf
theorem lineLost (line : LineNo) : Statement (.lineLost line) := fun _ _ hf => nomatch hf
theorem lineFault (line : LineNo) (kind : FaultKind) : Statement (.lineFault line kind) := fun _ _ hf => nomatch hf
theorem answered (line : LineNo) : Statement (.answered line) := fun _ _ hf => nomatch hf
theorem callEnded (line : LineNo) : Statement (.callEnded line) := fun _ _ hf => nomatch hf
theorem aging (call : CallRef) : Statement (.aging call) := fun _ _ hf => nomatch hf
theorem trunkFrameReceived (trunk : TrunkNo) (frame : Option TrunkFrame) : Statement (.trunkFrameReceived trunk frame) := fun _ _ hf => nomatch hf
theorem trunkFrameSent (trunk : TrunkNo) : Statement (.trunkFrameSent trunk) := fun _ _ hf => nomatch hf
theorem accept (trunk : TrunkNo) (call : CallRef) : Statement (.accept trunk call) := fun _ _ hf => nomatch hf
theorem decline (trunk : TrunkNo) (call : CallRef) : Statement (.decline trunk call) := fun _ _ hf => nomatch hf
theorem release (trunk : TrunkNo) (call : CallRef) : Statement (.release trunk call) := fun _ _ hf => nomatch hf
theorem hold (trunk : TrunkNo) (call : CallRef) : Statement (.hold trunk call) := fun _ _ hf => nomatch hf
theorem retrieve (trunk : TrunkNo) : Statement (.retrieve trunk) := fun _ _ hf => nomatch hf
theorem identRequest (trunk : TrunkNo) (call : CallRef) : Statement (.identRequest trunk call) := fun _ _ hf => nomatch hf
theorem callback (trunk : TrunkNo) (line : Octet) : Statement (.callback trunk line) := fun _ _ hf => nomatch hf
theorem offerTimerExpiry (trunk : TrunkNo) : Statement (.offerTimerExpiry trunk) := fun _ _ hf => nomatch hf
theorem guardTimerExpiry (trunk : TrunkNo) : Statement (.guardTimerExpiry trunk) := fun _ _ hf => nomatch hf
theorem holdReminder (call : CallRef) : Statement (.holdReminder call) := fun _ _ hf => nomatch hf
theorem minimumHoldServed (call : CallRef) : Statement (.minimumHoldServed call) := fun _ _ hf => nomatch hf
theorem preemptionTimerExpiry (call : CallRef) : Statement (.preemptionTimerExpiry call) := fun _ _ hf => nomatch hf
theorem ringingTimeout (call : CallRef) : Statement (.ringingTimeout call) := fun _ _ hf => nomatch hf
theorem audioBlockTick (fromLines : Table 48 Block) : Statement (.audioBlockTick fromLines) := fun _ _ hf => nomatch hf
theorem secondPulse : Statement .secondPulse := fun _ _ hf => nomatch hf
theorem pulseWatchdogExpiry : Statement .pulseWatchdogExpiry := fun _ _ hf => nomatch hf
theorem storeCompletionDone : Statement .storeCompletionDone := fun _ _ hf => nomatch hf
theorem storeCompletionFault : Statement .storeCompletionFault := fun _ _ hf => nomatch hf
theorem frameReceived (octets : List RxOctet) : Statement (.frameReceived octets) := fun _ _ hf => nomatch hf
theorem interOctetTimeout : Statement .interOctetTimeout := fun _ _ hf => nomatch hf
theorem replySent : Statement .replySent := fun _ _ hf => nomatch hf
theorem unknownRequest (code : Octet) (body : List Octet) : Statement (.unknownRequest code body) := fun h f hf => by
  have h := Bool.and_eq_true_iff.mp h
  exact of_body (of_decide_eq_true h.1) h.2 f hf
theorem status (body : List Octet) : Statement (.status body) := of_body (by decide)
theorem paramSetThresholdSet (setB : Bool) (value : List Octet) : Statement (.paramSetThresholdSet setB value) := of_value
theorem paramSetAgingPeriod (value : List Octet) : Statement (.paramSetAgingPeriod value) := of_value
theorem paramSetEscalationThreshold (value : List Octet) : Statement (.paramSetEscalationThreshold value) := of_value
theorem paramSetOfferTime (value : List Octet) : Statement (.paramSetOfferTime value) := of_value
theorem paramSetGuardTime (value : List Octet) : Statement (.paramSetGuardTime value) := of_value
theorem paramSetMinimumHold (value : List Octet) : Statement (.paramSetMinimumHold value) := of_value
theorem paramSetHoldChain (value : List Octet) : Statement (.paramSetHoldChain value) := of_value
theorem paramSetWarningChain (value : List Octet) : Statement (.paramSetWarningChain value) := of_value
theorem paramSetJournalThreshold (value : List Octet) : Statement (.paramSetJournalThreshold value) := of_value
theorem paramQuery (body : List Octet) : Statement (.paramQuery body) := of_body (by decide)
theorem lineQuery (body : List Octet) : Statement (.lineQuery body) := of_body (by decide)
theorem lineSet (body : List Octet) : Statement (.lineSet body) := of_body (by decide)
theorem lineTest (body : List Octet) : Statement (.lineTest body) := of_body (by decide)
theorem calSet (body : List Octet) : Statement (.calSet body) := of_body (by decide)
theorem dirRead (body : List Octet) : Statement (.dirRead body) := of_body (by decide)
theorem dirWrite (body : List Octet) : Statement (.dirWrite body) := of_body (by decide)
theorem dirEnable (body : List Octet) : Statement (.dirEnable body) := of_body (by decide)
theorem dirCommit (body : List Octet) : Statement (.dirCommit body) := of_body (by decide)
theorem dirLock (body : List Octet) : Statement (.dirLock body) := of_body (by decide)
theorem dirErase (body : List Octet) : Statement (.dirErase body) := of_body (by decide)
theorem callList (body : List Octet) : Statement (.callList body) := of_body (by decide)
theorem callQuery (body : List Octet) : Statement (.callQuery body) := of_body (by decide)
theorem clearArm (body : List Octet) : Statement (.clearArm body) := of_body (by decide)
theorem clearCall (body : List Octet) : Statement (.clearCall body) := of_body (by decide)
theorem trunkSet (body : List Octet) : Statement (.trunkSet body) := of_body (by decide)
theorem trunkQuery (body : List Octet) : Statement (.trunkQuery body) := of_body (by decide)
theorem promptWrite (body : List Octet) : Statement (.promptWrite body) := of_body (by decide)
theorem clipSet (body : List Octet) : Statement (.clipSet body) := of_body (by decide)
theorem chainSet (body : List Octet) : Statement (.chainSet body) := of_body (by decide)
theorem journalRead (body : List Octet) : Statement (.journalRead body) := of_body (by decide)
theorem timeSet (body : List Octet) : Statement (.timeSet body) := of_body (by decide)
theorem timeQuery (body : List Octet) : Statement (.timeQuery body) := of_body (by decide)
theorem repeatPrefix (body : List Octet) : Statement (.repeatPrefix body) := of_body (by decide)
theorem reset (body : List Octet) : Statement (.reset body) := of_body (by decide)
theorem trunkResetAfterDrain (trunk : TrunkNo) : Statement (.trunkResetAfterDrain trunk) := fun _ _ hf => nomatch hf
theorem reportSent : Statement .reportSent := fun _ _ hf => nomatch hf
theorem startOctetReceived : Statement .startOctetReceived := fun _ _ hf => nomatch hf
theorem internalSecondBoundary : Statement .internalSecondBoundary := fun _ _ hf => nomatch hf

end Sys2Proof.Laws.RequestFits
end

