-- ==== Sys2Proof/Laws/Requests.lean ====
section
/-! SUPPORT. What taking a request, a desk request or a line event comes to when it can be taken now. -/

namespace Sys2Proof.Machine

open Sys2Proof

/-- A request that can be taken is taken and served. -/
theorem State.serve_ready {s : State} {code : Octet} {body : List Octet} (h : s.ready code body)
    (g : State → State) : s.serve ⟨code, body⟩ g = g (s.mapLink Link.serving) := by
  simp [State.serve, h.2]

/-- A request that cannot be taken changes nothing (R180). -/
theorem State.serve_not_ready {s : State} {f : Frame} (h : s.canTake f = false) (g : State → State) :
    s.serve f g = s := by
  simp [State.serve, h]

/-- A request of an allowed length that can be taken is taken and served once. -/
theorem State.serveOnce_ready {s : State} {code : Octet} {body : List Octet} {allowed : Nat → Bool}
    (h : s.ready code body) (hl : allowed body.length = true) (g : State → State) :
    s.serveOnce code allowed body g = g (s.mapLink Link.serving) := by
  simp [State.serveOnce, serve_ready h, hl]

/-- A request of a length that is not allowed is refused RANGE (R180, step 3). -/
theorem State.serveOnce_length {s : State} {code : Octet} {body : List Octet} {allowed : Nat → Bool}
    (h : s.ready code body) (hl : allowed body.length = false) (g : State → State) :
    s.serveOnce code allowed body g = s.answered ⟨code, .range, none, .nothing⟩ := by
  simp [State.serveOnce, serve_ready h, hl]
  rfl

/-- The reply of a request just taken, in the terms of the statements. -/
theorem State.answer_serving (s : State) (code : Octet) (r : Result) (v : ReplyValues) :
    (s.mapLink Link.serving).answer code r v = s.answered ⟨code, r, none, v⟩ := rfl

/-- Nothing is taken from a trunk on which no desk request waits. -/
theorem State.tookRequest_nil {s : State} {t : TrunkNo} (h : (s.trunk t).requests = []) :
    s.tookRequest t = s := by
  have hx : { s.trunk t with requests := (s.trunk t).requests.tail } = s.trunk t := by
    cases hx : s.trunk t
    simp_all
  simp only [State.tookRequest, State.mapTrunk, hx]
  simp [State.setTrunk, State.trunk]

/-- A desk request that can be taken now is taken from the list and served. -/
theorem State.takeDesk_ready {s : State} {t : TrunkNo} {q : DeskRequest} (h : s.deskReady t q)
    (f : State → State) : s.takeDesk t q f = f (s.tookRequest t) := by
  obtain ⟨-, hl, hd, hr⟩ := h
  cases hq : (s.trunk t).requests with
  | nil => simp [State.takeDesk, hl, hd, hq, State.tookRequest_nil hq]
  | cons q' rest =>
    have := hr q' (by simp [hq])
    subst this
    simp [State.takeDesk, hl, hd, hq, State.tookRequest, State.mapTrunk]

/-- A line event that can be taken now is taken from its way and acted on. -/
theorem State.takeEvent_ready {s : State} {e : LineEvent} (h : s.eventReady e) (f : State → State) :
    s.takeEvent e f = f (s.tookEvent e) := by
  unfold State.takeEvent
  split
  next he =>
    have hn : e ∉ s.events := fun hm => by simpa using List.find?_eq_none.mp he e hm
    simp [State.tookEvent, List.erase_of_not_mem hn]
  next e' he =>
    have := h.2 e' he
    subst this
    simp [State.tookEvent]

/-- With the references distinct, the place of a live call is the one found by its reference (R72). -/
theorem State.placeOfRef_of_sound {s : State} (h : s.callsSound) {p : LineNo} {c : Call}
    (hc : s.cc.calls.get p = some c) : s.placeOfRef c.ref = some p := by
  obtain ⟨-, -, hd⟩ := h
  have hs : (s.placeOfRef c.ref).isSome := by
    rw [State.placeOfRef, State.placeWhere, List.find?_isSome]
    exact ⟨p, List.mem_finRange p, by simp [hc]⟩
  obtain ⟨q, hq⟩ := Option.isSome_iff_exists.mp hs
  have hm := List.find?_some hq
  cases hg : s.cc.calls.get q with
  | none => simp [hg] at hm
  | some d =>
    simp only [hg, Option.map_some, beq_iff_eq, Option.some.injEq] at hm
    rw [hq, hd p q c d hc hg (.inl hm.symm)]

/-- With the references distinct, a live call is the one found by its reference (R72). -/
theorem State.callOfRef_of_sound {s : State} (h : s.callsSound) {p : LineNo} {c : Call}
    (hc : s.cc.calls.get p = some c) : s.callOfRef c.ref = some c := by
  simp [State.callOfRef, State.placeOfRef_of_sound h hc, hc]

/-- The call of a place, found by its reference. -/
theorem State.callAt_callOfRef {s : State} {p : LineNo} {c : Call} (h : s.callAt p c) :
    s.callOfRef c.ref = some c := by
  simp [State.callOfRef, h.2.1, h.1]

end Sys2Proof.Machine
end

