-- ==== Sys2Proof/Tests/Slice0.lean ====
section
/-! SUPPORT. Tests of the model: ill-formed commands refused, results that the manual states, and for each
statement with hypotheses a state and operands that meet them. -/

namespace Sys2Proof.Tests

open Sys2Proof Sys2Proof.Machine

/-! ### WellFormed refuses what cannot reach the part -/

theorem test_refuses_code_above_3F : (Instr.unknownRequest 0x40 []).wellFormed = false := by decide
theorem test_refuses_unknown_body_of_200 :
    (Instr.unknownRequest 0x07 (List.replicate 200 0)).wellFormed = false := by
  show (decide ((0x07 : Octet).toNat < 0x40) && decide ((List.replicate 200 (0 : Octet)).length ≤ 199)) = false
  rw [List.length_replicate]
  decide
theorem test_refuses_body_of_200 : (Instr.status (List.replicate 200 0)).wellFormed = false := by
  show decide ((List.replicate 200 (0 : Octet)).length ≤ 199) = false
  rw [List.length_replicate]
  decide
theorem test_refuses_value_of_199 : (Instr.paramSetOfferTime (List.replicate 199 0)).wellFormed = false := by
  show decide ((List.replicate 199 (0 : Octet)).length ≤ 198) = false
  rw [List.length_replicate]
  decide
theorem test_refuses_reference_0 : (Instr.aging 0).wellFormed = false := by decide
theorem test_refuses_no_octets : (Instr.frameReceived []).wellFormed = false := by decide
theorem test_accepts_body_of_199 : (Instr.status (List.replicate 199 0)).wellFormed = true := by
  show decide ((List.replicate 199 (0 : Octet)).length ≤ 199) = true
  rw [List.length_replicate]
  decide

/-! ### Small states -/

/-- The state a command answers, or the state before it. -/
def after (i : Instr) (s : State) : State :=
  match exec i s with
  | .next t => t
  | .fault _ => s
  | .refused _ => s

/-- A call of reference 1 on line 0. -/
def callIn (st : CallState) (t : Option TrunkNo) : Call where
  ref := 1
  line := 0
  state := st
  sequence := 1
  origin := ⟨0, 0, .unset⟩
  identity := some ⟨⟨0, none, 0, .missing, .unnamed⟩, .maintenance, 3, 3⟩
  offerCount := 0
  rescued := false
  trunk := t
  queueEntry := none
  agingMark := none
  connectTime := none
  holdCount := 0
  createdAt := 0
  firstConnectedAt := none
  lastTrunk := t
  connectedMark := none
  heldAt := none
  reminderIn := none
  preemptionTimer := none
  ringingTimer := none

/-- The reset state with call `c` in place 0, line 0 in state `st`. -/
def withCall (c : Call) (st : LineState) : State :=
  let s := State.reset.setCall 0 (some c)
  { s with lines := s.lines.set 0 (LineRecord.fresh st StickyFlags.clear) }

/-- Trunk 2 with its link UP, in state `st` with current call `cur`. -/
def withTrunk (st : TrunkState) (cur : Option CallRef) (s : State) : State :=
  s.setTrunk 2 { Trunk.initial .primary with link := .up, state := st, current := cur }

/-- The reset state with line record `x` on line 0. -/
def withLine (x : LineRecord) : State := { State.reset with lines := State.reset.lines.set 0 x }

/-- A line record in state `st` with nothing counted. -/
def line (st : LineState) : LineRecord := LineRecord.fresh st StickyFlags.clear

/-- The measurement record of the example of chapter 1, one sample pair before its group closes. -/
def exampleMeasurement : Measurement :=
  { Measurement.empty with
    groupPosition := 7, loopSum := 4203, groundSum := 63, bandMemory := some .present
    loopWindow := [610, 598, 603, 600], groundWindow := [9, 9, 9, 9] }

/-- Line 7 of the example of chapter 1: gain 2080 and offset −3 on the loop channel. -/
def exampleLine : State :=
  { State.reset with
    lines := State.reset.lines.set 7 (line .idle)
    dir := { State.reset.dir with
      working := State.reset.dir.working.set 7 { Entry.erased .inService with loopCal := ⟨2080, -3⟩ } }
    lmu := { State.reset.lmu with records := State.reset.lmu.records.set 7 exampleMeasurement } }

/-- The result of the last reply on the output list. -/
def lastResult (s : State) : Option Result :=
  match s.link.output.getLast? with
  | some (.reply r) => some r.result
  | _ => none

/-! ### Results that the manual states -/

/-- R3: a sum of 4 gives 1, of −4 gives 0, of −5 gives −1. -/
theorem test_stage_a_rounds_up : stageA 4 = 1 ∧ stageA (-4) = 0 ∧ stageA (-5) = -1 := by decide

/-- The example of chapter 1: samples 601 … 602 and windows 598, 603, 600 give 601, corrected to 302. -/
theorem test_example_evaluation :
    (((after (.samplePair 7 602 9) exampleLine).lmu.records.get 7).loopC = some 302) := by decide

/-- R9: a line drawing 80 after PRESENT stays PRESENT under set A, and one at 100 after LOOP stays LOOP. -/
theorem test_gap_keeps_band :
    classify Thresholds.factoryA (some .present) 80 = some .present ∧
      classify Thresholds.factoryA (some .loop) 100 = some .loop := by decide

/-- R11: under set B 48 lies in a gap and 95 in LOOP. -/
theorem test_set_b_bands : Thresholds.factoryB.bandOf 48 = none ∧ Thresholds.factoryB.bandOf 95 = some .loop := by
  decide

/-- The sample that closes the evaluation of the example of chapter 1, and line 7 in state `x` before it. -/
def closingSample : LineSample := ⟨7, 602, 9⟩
def beforeClosing (x : LineRecord) : State := { exampleLine with lines := exampleLine.lines.set 7 x }

/-- R36: the 125th position of ON is followed by position 1 of OFF. -/
theorem test_ring_on_ends :
    ((after (.ringPhaseChange closingSample)
        (beforeClosing { line .ringing with ringPhase := some .on, ringPosition := 125 })).lines.get 7).ringPhase =
      some .off := by decide

/-- R30: a pulse counted but not ended as a digit when the code timer runs out is lost, and the code is MISSING. -/
theorem test_code_timer_loses_pulse :
    (after (.codeTimerExpiry closingSample)
        (beforeClosing { line .collecting with
          runKind := some .brk, runLength := 4, codeTimer := 319, digits := [2, 4, 0] })).events =
      [.codeResult 7 .missing] := by decide

/-- R30: a fourth digit that ends at the 320th evaluation gives a complete code. -/
theorem test_code_timer_fourth_digit :
    (after (.codeTimerExpiry closingSample)
        (beforeClosing { line .collecting with
          runKind := some .make, runLength := 29, pulses := 7, codeTimer := 319, digits := [2, 4, 0] })).events =
      [.codeResult 7 (.digits 2407)] := by decide

/-- R34: CALL ENDED takes a line off-hook to LOCKOUT. -/
theorem test_call_ended_off_hook_locks_out :
    ((after (.callEnded 0) (withLine { line .active with runKind := some .make })).lines.get 0).state =
      .lockout := by decide

/-- R73: the first call after a reset takes reference 1. -/
theorem test_first_reference : ((after (.seizure 5) State.reset).cc.calls.get 0).map Call.ref = some 1 := by decide

/-- Section 10.3: ACCEPT of call 503 is A5 03 01 01 F7 00 FC. -/
theorem test_accept_octets :
    (([0xA5, 0x03, 0x01, 0x01, 0xF7, 0x00, 0xFC] : List Octet).foldl Trunk.takeOctet
      (Trunk.initial .primary)).requests = [.accept 503] := by decide

/-- R193: a length octet of 4 for ACCEPT discards the message and counts an error. -/
theorem test_wrong_length_counts :
    (([0xA5, 0x04, 0x01] : List Octet).foldl Trunk.takeOctet (Trunk.initial .primary)).messageErrors = 1 := by
  decide

/-- Section 10.3: RELEASE of call 1 confirmed is A5 04 48 03 00 01 00 50. -/
theorem test_confirm_octets :
    (DeskMessage.confirm (.release 1)).octets = [0xA5, 0x04, 0x48, 0x03, 0x00, 0x01, 0x00, 0x50] := by decide

/-- R129: RETRIEVE with an empty stack is refused STATE. -/
theorem test_retrieve_empty_stack :
    ((after (.retrieve 2) (withTrunk .idle none State.reset)).trunk 2).transmit = [.refuse .retrieve .state] := by
  decide

/-- R133: CALLBACK to line 48 is refused LINE UNAVAILABLE. -/
theorem test_callback_line_48 :
    ((after (.callback 2 48) (withTrunk .idle none State.reset)).trunk 2).transmit =
      [.refuse (.callback 48) .lineUnavailable] := by decide

/-- Section 10.2: STATUS is 5A 01 01 00 02. -/
theorem test_status_frame :
    (after (.frameReceived (([0x5A, 0x01, 0x01, 0x00, 0x02] : List Octet).map fun o => ⟨o, true⟩))
      State.reset).link.inputs = [⟨0x01, []⟩] := by decide

/-- R178: a frame whose check fails sets the link error flag. -/
theorem test_bad_check_sets_link_error :
    (after (.frameReceived (([0x5A, 0x01, 0x01, 0x00, 0x03] : List Octet).map fun o => ⟨o, true⟩))
      State.reset).link.linkError = true := by decide

/-- Section 10.2 and R190: READY after a power-on reset, every bank check good and no bank locked. -/
theorem test_ready_octets :
    (Report.ready .powerOn (Table.fill 3 true) (Table.fill 3 false) 1).octets =
      [0x5A, 0x09, 0xC0, 0x00, 0x01, 0x01, 0x01, 0x00, 0x00, 0x00, 0x01, 0x00, 0xCD] := by decide

/-- R186: a threshold set sent in 3 octets is refused RANGE. -/
theorem test_short_threshold_set :
    lastResult (after (.paramSetThresholdSet false [0, 1]) State.reset) = some .range := by decide

/-- R183: REPEAT of 48 is refused RANGE. -/
theorem test_repeat_48 : lastResult (after (.repeatPrefix [48]) State.reset) = some .range := by decide

/-- R57: DIR ERASE without the latch is refused NOT ENABLED. -/
theorem test_erase_without_latch : lastResult (after (.dirErase [0]) State.reset) = some .notEnabled := by decide

/-- R151: a CHAIN SET of seven steps is refused RANGE. -/
theorem test_seven_steps : lastResult (after (.chainSet (0 :: List.replicate 28 0)) State.reset) = some .range := by
  decide

/-- R176 and R174: the first record read after a power-on reset is its RESET record, number 1. -/
theorem test_first_record :
    (after (.journalRead [1]) State.reset).journal.records = [] ∧
      State.reset.journal.records.map Record.sequence = [1] := by decide

/-- R167: a pulse 3 ms into the second is good and sets the phase to 0. -/
theorem test_good_pulse :
    (after .secondPulse { State.reset with time := { State.reset.time with phase := 3 } }).time.lastOffset = some 3 := by
  decide

/-- R164: the phase after 999 is 0 of the next second. -/
theorem test_second_boundary :
    (after .internalSecondBoundary { State.reset with time := { State.reset.time with phase := 999 } }).time.seconds =
      1 := by decide

/-- No row of the table has bits, so no word spells a command. -/
theorem test_no_word_spells_a_command : decodeTableWord 8 0 = none := by decide

/-! ### States and operands that meet the statements' hypotheses -/

theorem reset_ready (code : Octet) (body : List Octet) : State.reset.ready code body := ⟨rfl, rfl⟩

theorem reset_no_calls (p : LineNo) : State.reset.cc.calls.get p = none := by
  revert p
  decide

/-- The reset state with NCL `k`. -/
def withLink (k : Link) : State := { State.reset with link := k }

/-- A call of reference 1 on line 0 that trunk 2 carries in state `st`. -/
def carried (st : CallState) (ts : TrunkState) : State :=
  withTrunk ts (some 1) (withCall (callIn st (some 2)) .active)

theorem callIn_at (st : CallState) (t : Option TrunkNo) (l : LineState) :
    (withCall (callIn st t) l).callAt 0 (callIn st t) := by
  refine ⟨?_, ?_, ?_⟩ <;> rfl

theorem carried_at (st : CallState) (ts : TrunkState) : (carried st ts).callAt 0 (callIn st (some 2)) := by
  refine ⟨?_, ?_, ?_⟩ <;> rfl

/-- A desk request is ready on an UP trunk on which none waits. -/
theorem desk_ready {s : State} {u : TrunkNo} (q : DeskRequest) (hh : s.held = false) (hl : (s.trunk u).link = .up)
    (hd : (s.trunk u).draining = false) (hr : (s.trunk u).requests = []) : s.deskReady u q :=
  ⟨hh, hl, hd, fun _ h => by simp [hr] at h⟩

/-- A desk request is ready on an UP trunk on which it is the oldest that waits. -/
theorem desk_ready_oldest {s : State} {u : TrunkNo} {q : DeskRequest} {rest : List DeskRequest}
    (hh : s.held = false) (hl : (s.trunk u).link = .up) (hd : (s.trunk u).draining = false)
    (hr : (s.trunk u).requests = q :: rest) : s.deskReady u q :=
  ⟨hh, hl, hd, fun _ h => by simpa [hr, eq_comm] using h⟩

/-- A line event is ready where none of its line is on its way. -/
theorem event_ready {s : State} {e : LineEvent} (hh : s.held = false) (he : s.oldestEvent e.line = none) :
    s.eventReady e := ⟨hh, fun _ h => by simp [he] at h⟩

/-- A line event is ready where it is the oldest of its line. -/
theorem event_ready_oldest {s : State} {e : LineEvent} (hh : s.held = false)
    (he : s.oldestEvent e.line = some e) : s.eventReady e := ⟨hh, fun _ h => by simpa [he, eq_comm] using h⟩

theorem carried_ready (st : CallState) (ts : TrunkState) (q : DeskRequest) : (carried st ts).deskReady 2 q :=
  desk_ready q rfl rfl rfl rfl

/-- The state with `e` handed to the CC before it was `s`. -/
def handed (e : LineEvent) (s : State) : State := { s with events := [e] }

/-- The state with `q` completed on trunk 2 in `s`. -/
def asked (q : DeskRequest) (s : State) : State := s.mapTrunk 2 fun x => { x with requests := [q] }

/-- A trunk that carries and holds no call, with the state, timers and fields that its service and link give it. -/
def atRest (x : Trunk) : Prop :=
  (x.service = .outOfService ↔ x.state = .outOfService) ∧
    (x.service = .inService ∧ x.link = .down ↔ x.state = .linkDown) ∧ x.state ≠ .offering ∧ x.state ≠ .connected ∧
    x.current = none ∧ x.offerTimer = none ∧ (x.state = .guard_ ↔ x.guardTimer ≠ none) ∧
    (x.state = .idle ↔ x.idleSince ≠ none) ∧ x.stack = []

/-- A trunk at rest stands in its place. -/
theorem atRest_placed {s : State} {u : TrunkNo} (h : atRest (s.trunk u)) : s.trunkPlaced u := by
  obtain ⟨a, b, c1, c2, d, e, f, g, i⟩ := h
  exact ⟨a, b, by simp [c1, c2, d], by simp [c1, e], f, g, by simp [d], by simp [i], by simp [i], fun _ => i,
    fun _ => ⟨d, i⟩⟩

theorem reset_atRest (u : TrunkNo) : atRest (State.reset.trunk u) := by
  revert u
  unfold atRest
  decide

/-- The one live call is the only one. -/
theorem only_call {s : State} {c : Call} (h0 : s.cc.calls.get 0 = some c)
    (h1 : ∀ p, p ≠ 0 → s.cc.calls.get p = none) (p : LineNo) (d : Call) (h : s.cc.calls.get p = some d) :
    p = 0 ∧ d = c := by
  by_cases hp : p = 0
  · subst hp
    exact ⟨rfl, by simpa [h0, eq_comm] using h⟩
  · simp [h1 p hp] at h

/-- A call set in place 0 of the reset state leaves every other place free. -/
theorem reset_others {c : Option Call} (p : LineNo) (hp : p ≠ 0) : (State.reset.cc.calls.set 0 c).get p = none :=
  (Table.get_set_ne _ _ hp.symm).trans (reset_no_calls p)

/-- With one live call, WAITING and alone in the queue, and every trunk at rest, every call stands in its place. -/
theorem one_waiting_placed {s : State} {c : Call} (h0 : s.cc.calls.get 0 = some c)
    (h1 : ∀ p, p ≠ 0 → s.cc.calls.get p = none) (hq : s.cc.queue = [c.ref]) (hn : s.cc.nextRef ≠ 0)
    (hr : c.ref ≠ 0) (hs : c.state = .waiting) (ht : c.trunk = none) (hu : ∀ u, atRest (s.trunk u)) :
    s.callsPlaced := by
  have only := only_call h0 h1
  refine ⟨⟨hn, fun p d h => ?_, fun p q d e hd he _ => ?_⟩, ⟨?_, fun r => ⟨fun h => ?_, ?_⟩, ?_⟩, fun p d h => ?_,
    fun u => ?_⟩
  · exact (only p d h).2 ▸ hr
  · rw [(only p d hd).1, (only q e he).1]
  · simp [hq]
  · exact ⟨0, c, h0, by simpa [hq, eq_comm] using h, hs⟩
  · rintro ⟨p, d, hd, rfl, -⟩
    simp [hq, (only p d hd).2]
  · simp [hq]
  · simp [State.callPlaced, (only p d h).2, hs, ht]
  · exact atRest_placed (hu u)

/-- Call `c` WAITING in place 0 and queued, trunk 2 being `x`, at running time `now`. -/
def waitingFor (c : Call) (x : Trunk) (now : Word32) : State :=
  let s := ((withCall c .active).setQueue [c.ref]).setTrunk 2 x
  { s with cc := { s.cc with now := now } }

theorem waitingFor_placed (c : Call) (x : Trunk) (now : Word32) (hr : c.ref ≠ 0) (hs : c.state = .waiting)
    (ht : c.trunk = none) (hx : atRest x) : (waitingFor c x now).callsPlaced := by
  refine one_waiting_placed (c := c) rfl reset_others rfl
    (show State.reset.cc.nextRef ≠ 0 by decide) hr hs ht fun u => ?_
  show atRest ((State.reset.ti.trunks.set 2 x).get u)
  rw [Table.get_set]
  split
  · exact hx
  · exact reset_atRest u

/-- A primary or overflow trunk with its link UP, IDLE. -/
def idleTrunk (g : TrunkGroup) : Trunk := { Trunk.initial g with link := .up, state := .idle, idleSince := some 0 }

/-- The same in GUARD with its timer run out. -/
def guardTrunk (g : TrunkGroup) : Trunk := { Trunk.initial g with link := .up, state := .guard_, guardTimer := some 0 }

theorem idleTrunk_atRest (g : TrunkGroup) : atRest (idleTrunk g) := by
  unfold atRest
  simp [idleTrunk, Trunk.initial]

theorem guardTrunk_atRest (g : TrunkGroup) : atRest (guardTrunk g) := by
  unfold atRest
  simp [guardTrunk, Trunk.initial]

/-- A trunk with its link UP, OUT OF SERVICE. -/
def outTrunk (g : TrunkGroup) : Trunk :=
  { Trunk.initial g with link := .up, service := .outOfService, state := .outOfService }

theorem outTrunk_atRest (g : TrunkGroup) : atRest (outTrunk g) := by
  unfold atRest
  simp [outTrunk, Trunk.initial]

/-- The reset state with trunk 2 as `x`. -/
def trunkTwo (x : Trunk) : State := State.reset.setTrunk 2 x

theorem witness_EmptyQueueLetsAMillisecondPass :
    (State.heldInReset (Table.fill 3 StoreArea.factory)).held = true ∧
      (State.heldInReset (Table.fill 3 StoreArea.factory)).pending = [] ∧
      State.reset.pending = [] ∧ State.reset.held = false ∧ State.reset.dir.operation = none ∧
      State.reset.link.receiver = .hunting ∧ State.reset.cc.calls.get 0 = none ∧
      (∀ st, (carried st .connected).pending = [] ∧ (carried st .connected).held = false ∧
        (carried st .connected).cc.calls.get 0 = some (callIn st (some 2))) ∧
      (∀ op, ({ State.reset with dir := { State.reset.dir with operation := op } } : State).dir.operation = op) ∧
      (∀ r, (withLink { State.reset.link with receiver := r }).link.receiver = r) :=
  ⟨rfl, rfl, rfl, rfl, rfl, rfl, reset_no_calls 0, fun _ => ⟨rfl, rfl, rfl⟩, fun _ => rfl, fun _ => rfl⟩

/-- R108: an offer timer with 7 ms left has 6 left a millisecond later. -/
theorem test_offer_timer_runs :
    ((trunkTwo { idleTrunk .primary with offerTimer := some 7 }).idle.trunk 2).offerTimer = some 6 := by decide

theorem witness_HeldResetFreezesPart :
    (State.heldInReset (Table.fill 3 StoreArea.factory)).held = true ∧
      Instr.secondPulse ≠ .powerOnReset ∧ Instr.secondPulse ≠ .powerOnResetRelease := by decide

/-- The reset state with the internal second boundary commanded. -/
def queued : State := { State.reset with pending := [.internalSecondBoundary] }

theorem witness_StepKeepsPromptStoreTimeBaseAndJournal :
    queued.promptSound ∧ queued.timeSound ∧ queued.journal.sound ∧ step queued = .next State.reset := by
  refine ⟨⟨rfl, nofun⟩, by unfold State.timeSound; decide, by unfold Journal.sound; decide, rfl⟩

theorem witness_StepKeepsLinkBounds : queued.linkSound ∧ step queued = .next State.reset := by
  refine ⟨⟨nofun, ?_⟩, rfl⟩
  unfold Link.sound
  decide

theorem witness_StepKeepsTrunkBounds : queued.trunksSound ∧ step queued = .next State.reset := by
  refine ⟨?_, rfl⟩
  unfold State.trunksSound Trunk.sound
  decide

theorem witness_StepKeepsLineRecords : queued.linesSound ∧ step queued = .next State.reset := by
  refine ⟨?_, rfl⟩
  simp only [State.linesSound, LineRecord.sound, Measurement.sound, inCorrectedRange, inRawRange, inSumRange]
  decide

theorem witness_StepKeepsCallsDistinct : queued.callsSound ∧ step queued = .next State.reset := by
  refine ⟨⟨by decide, fun p c h => ?_, fun p q c d h => ?_⟩, rfl⟩ <;>
    exact nomatch (reset_no_calls p).symm.trans h

theorem witness_LiveCallKeepsItsIdentity :
    exec .powerOnResetRelease (carried .connected .connected) = .next (carried .connected .connected) ∧
      (carried .connected .connected).cc.calls.get 0 = some (callIn .connected (some 2)) := ⟨rfl, rfl⟩

theorem witness_RequestFrameIsReceived :
    (Instr.status []).wellFormed = true ∧ (Instr.status []).request = some ⟨0x01, []⟩ ∧
      (Instr.unknownRequest 0x3F [0]).wellFormed = true ∧
      (Instr.unknownRequest 0x3F [0]).request = some ⟨0x3F, [0]⟩ ∧
      State.reset.link.receiver = .hunting ∧ State.reset.link.service ≠ .starting := by decide

theorem witness_DeskMessageIsReceived :
    deskRequestOf 0x01 [0x01, 0xF7] = some (.accept 503) ∧ deskRequestOf 0x05 [] = some .retrieve ∧
      deskRequestOf 0x07 [48] = some (.callback 48) ∧ (Trunk.initial .primary).receiver = .between ∧
      (4 : Octet) ≠ 0 ∧
      (∀ pair : Nat × Nat,
        pair = ((1 : Octet).toNat, (4 : Octet).toNat) ∨ pair = ((8 : Octet).toNat, (4 : Octet).toNat) →
        pair ∉ [(1, 3), (2, 3), (3, 3), (4, 3), (5, 1), (6, 3), (7, 2)]) ∧
      ([] : List Octet).length ≤ (4 : Octet).toNat + 1 ∧
      ([1, 2, 0xA5, 4, 5] : List Octet).length = (4 : Octet).toNat + 1 ∧
      ((5 : Octet).toNat, (1 : Octet).toNat) ∈ [(1, 3), (2, 3), (3, 3), (4, 3), (5, 1), (6, 3), (7, 2)] ∧
      ([] : List Octet).length + 1 = (1 : Octet).toNat ∧
      be16 0 7 ≠ (([1, 5] : List Octet).map BitVec.toNat).sum % 65536 :=
  ⟨by decide, by decide, by decide, rfl, by decide, by rintro _ (rfl | rfl) <;> decide, by decide, by decide,
    by decide, by decide, by decide⟩

/-- An entry at the ends of its ranges. -/
def fullEntry : Entry :=
  ⟨some ⟨some 8999, ⟨[0x41, 0x5A, 0x30, 0x39, 0x2D, 0x41, 0x41, 0x41], .link, 999999, .tunnel, some 4⟩⟩, 15, .b,
    ⟨1024, -200⟩, ⟨4095, 200⟩, .inService⟩

theorem witness_EntryImageReadsBack : fullEntry.inRange ∧ (Entry.erased .unequipped).inRange := by
  refine ⟨⟨fun f h => ?_, ?_, ?_⟩, nofun, ?_, ?_⟩
  · cases h
    refine ⟨by decide, by decide, by unfold postCharacter; decide, ?_, by decide, fun _ => ⟨4, rfl, by decide⟩, by decide⟩
    intro n h
    cases h
    decide
  all_goals unfold Calibration.inRange; decide

theorem witness_SamplePairIsMeasured :
    State.reset.held = false ∧ (State.reset.lines.get 0).state = .unequipped ∧
      ((withLine (line .idle)).lines.get 0).state ≠ .unequipped ∧
      ((withLine (line .idle)).lmu.records.get 0).groupPosition.val < 7 ∧
      ({ Measurement.empty with groupPosition := 7, loopWindow := [1, 2], groundWindow := [1, 2] }
        : Measurement).loopWindow.length < 3 ∧
      ((withLine (line .outOfService)).lines.get 0).state = .outOfService := by decide

theorem witness_ClosingPairEvaluatesTheLine :
    exampleLine.held = false ∧ (exampleLine.lines.get 7).state ≠ .unequipped ∧
      exampleLine.lmu.records.get 7 = exampleMeasurement ∧ exampleMeasurement.groupPosition = 7 ∧
      3 ≤ exampleMeasurement.loopWindow.length ∧ exampleMeasurement.loopWindow.length ≤ 4 ∧
      exampleMeasurement.groundWindow.length = exampleMeasurement.loopWindow.length := by decide

theorem witness_BandIsItsEntryInterval : Thresholds.factoryA.accepted ∧ Thresholds.factoryB.accepted := by
  unfold Thresholds.accepted
  decide

/-- A line one LOOP evaluation short of its seizure. -/
def nearlySeized : State := withLine { line .idle with runKind := some .make, loopCount := 5 }

theorem witness_SixthLoopSeizesIdleLine :
    (nearlySeized.lines.get 0).state = .idle ∧ (nearlySeized.lines.get 0).runKind = some .make ∧
      (nearlySeized.lines.get 0).pendingBreak = 0 ∧ (nearlySeized.lines.get 0).loopCount = 5 ∧
      6 ≤ ((nearlySeized.lines.get 0).update (.band .loop)).loopCount ∧
      ((nearlySeized.lines.get 0).update (.band .loop)).dwellCount < 250 ∧
      ((withLine (line .settling)).lines.get 0).state = .settling ∧
      ((withLine { line .fault with faultKind := some .short }).lines.get 0).faultKind = some .short ∧
      ({ line .ringing with ringPhase := some .off, ringPosition := 6 } : LineRecord).cadence.counted = true ∧
      ({ line .ringing with ringPhase := some .off, ringPosition := 6 } : LineRecord).cadence.ringPosition = 7 ∧
      ({ line .ringing with ringPhase := some .on, ringPosition := 124 } : LineRecord).cadence.ringPosition = 125 ∧
      ({ line .ringing with dwellBand := some .short, dwellCount := 249 } : LineRecord).dwellBand = some .short ∧
      250 ≤ (({ line .ringing with dwellBand := some .short, dwellCount := 249 } : LineRecord).update
        (.band .short)).dwellCount ∧
      ((withLine (line .outOfService)).lines.get 0).state = .outOfService ∧ State.reset.link.reports < 15 := by
  decide

/-- Lines one evaluation short of the ends of their code timer, lockout count and ring phase. -/
def dialling : LineRecord :=
  { line .collecting with runKind := some .make, runLength := 8, codeTimer := 319, digits := [1, 2, 3] }
def locked : LineRecord := { line .lockout with runKind := some .make, lockoutCount := 3749 }
def rung (ph : RingPhase) (n : Nat) : LineRecord :=
  { line .ringing with ringPhase := some ph, ringPosition := n }

theorem witness_LineTimersReachTheirEnds :
    ((beforeClosing dialling).measure 7 (602 : BitVec 12).toInt (9 : BitVec 12).toInt).2 =
        some ⟨.band .loop, false, false, false⟩ ∧
      (beforeClosing dialling).held = false ∧ (beforeClosing dialling).lines.get 7 = dialling ∧
      (dialling.update (.band .loop)).dwellCount < 250 ∧
      (dialling.update (.band .loop)).runKind = some .make ∧
      ((beforeClosing locked).measure 7 (602 : BitVec 12).toInt (9 : BitVec 12).toInt).2 =
        some ⟨.band .loop, false, false, false⟩ ∧
      (beforeClosing locked).lines.get 7 = locked ∧ (locked.update (.band .loop)).lockoutCount = 3750 ∧
      (locked.update (.band .loop)).dwellCount < 250 ∧
      ((beforeClosing (rung .on 125)).lines.get 7).ringPosition = 125 ∧
      ((beforeClosing (rung .off 250)).lines.get 7).ringPosition = 250 ∧
      ((beforeClosing (rung .on 125)).measure 7 (602 : BitVec 12).toInt (9 : BitVec 12).toInt).2 =
        some ⟨.band .loop, false, false, false⟩ ∧
      (State.reset.measure 7 (602 : BitVec 12).toInt (9 : BitVec 12).toInt).2 = none ∧
      ({ line .idle with dwellBand := some .short, dwellCount := 249 } : LineRecord).dwellBand = some .short ∧
      250 ≤ (({ line .idle with dwellBand := some .short, dwellCount := 249 } : LineRecord).update
        (.band .short)).dwellCount ∧
      250 ≤ (({ line .fault with faultKind := some .short, clearCount := 249 } : LineRecord).update
        (.band .present)).clearCount ∧
      (({ line .active with runKind := some .brk, runLength := 49 } : LineRecord).update
        (.band .present)).runLength = 50 ∧
      (({ line .lockout with runKind := some .make, lockoutCount := 3749 } : LineRecord).update
        (.band .loop)).lockoutCount = 3750 ∧
      ({ line .collecting with runKind := some .brk, runLength := 15 } : LineRecord).digits.length ≤ 3 ∧
      State.reset.link.reports < 16 ∧ State.reset.journal.exhausted = false := by decide

theorem witness_CallEndedMovesTheLine :
    ((withLine (line .collecting)).lines.get 0).state = .collecting ∧
      ((withLine (line .active)).lines.get 0).state = .active ∧
      ((withLine (line .ringing)).lines.get 0).state = .ringing ∧
      ((withLine (line .fault)).lines.get 0).state = .fault ∧ State.reset.held = false := by decide

theorem witness_SeizureCreatesOneCall :
    State.reset.eventReady (.seizure 5) ∧ (handed (.seizure 5) State.reset).eventReady (.seizure 5) ∧
      State.reset.placeOfLine 5 = none ∧ State.reset.freePlace = some 0 ∧ State.reset.cc.nextRef ≠ 0 ∧
      (withCall (callIn .waiting none) .active).eventReady (.codeResult 0 .missing) ∧
      (handed (.answered 0) (withCall (callIn .waiting none) .active)).eventReady (.answered 0) ∧
      (withCall (callIn .waiting none) .active).cc.calls.get 0 = some (callIn .waiting none) ∧
      (withCall (callIn .waiting none) .active).placeOfLine 0 = some 0 :=
  ⟨event_ready rfl rfl, event_ready_oldest rfl rfl, rfl, rfl, by decide, event_ready rfl rfl,
    event_ready_oldest rfl rfl, rfl, rfl⟩

theorem witness_CodeResultEntersCallIntoWaiting :
    (withCall (callIn .originating none) .active).eventReady (.codeResult 0 .missing) ∧
      (handed (.codeResult 0 .missing) (withCall (callIn .originating none) .active)).eventReady
        (.codeResult 0 .missing) ∧
      (withCall (callIn .originating none) .active).callAt 0 (callIn .originating none) ∧
      (callIn .originating none).line = 0 ∧ (callIn .originating none).state = .originating ∧
      (verify fullEntry (receivedOf .missing) false).2 = some .codeMissing ∧
      (verify (Entry.erased .inService) (receivedOf .missing) false).2 = none :=
  ⟨event_ready rfl rfl, event_ready_oldest rfl rfl, callIn_at _ _ _, rfl, rfl, by decide, by decide⟩

theorem witness_SnapshotFollowsEntryAndCode :
    (Entry.erased .inService).named = none ∧ fullEntry.named ≠ none ∧
      fullEntry.named.map NamedFields.expected = some (some 8999) ∧
      ReceivedCode.digits 9000 ≠ .digits 8999 ∧
      (composeIdentity fullEntry 0 (.digits 9000) false).kind = .maintenance ∧
      (composeIdentity fullEntry 0 (.digits 8999) false).kind ≠ .maintenance ∧
      (composeIdentity fullEntry 0 .absent true).kind = .callback := by decide

theorem witness_OffHookOpensCallAndAnsweredConnectsCallback :
    State.reset.eventReady (.offHookAtStart 0) ∧
      (handed (.lockoutExpiry 0) State.reset).eventReady (.lockoutExpiry 0) ∧
      State.reset.placeOfLine 0 = none ∧ State.reset.freePlace = some 0 ∧
      (carried .ringing .connected).eventReady (.answered 0) ∧
      (handed (.answered 0) (carried .ringing .connected)).eventReady (.answered 0) ∧
      (carried .ringing .connected).callAt 0 (callIn .ringing (some 2)) ∧
      (callIn .ringing (some 2)).trunk = some 2 :=
  ⟨event_ready rfl rfl, event_ready_oldest rfl rfl, rfl, rfl, event_ready rfl rfl, event_ready_oldest rfl rfl,
    carried_at _ _, rfl⟩

theorem witness_LineEventsAndTimersEndTheCall :
    (carried .connected .connected).eventReady (.hangUp 0) ∧
      (handed (.lineLost 0) (carried .connected .connected)).eventReady (.lineLost 0) ∧
      (handed (.lineFault 0 .short) State.reset).eventReady (.lineFault 0 .short) ∧
      (carried .connected .connected).callAt 0 (callIn .connected (some 2)) ∧
      (carried .ringing .connected).callAt 0 (callIn .ringing (some 2)) ∧
      (withCall (callIn .waiting none) .active).callAt 0 (callIn .waiting none) ∧
      (withCall { callIn .preempting (some 2) with preemptionTimer := some 0 } .active).callAt 0
        { callIn .preempting (some 2) with preemptionTimer := some 0 } ∧
      (withCall { callIn .ringing (some 2) with ringingTimer := some 0 } .ringing).callAt 0
        { callIn .ringing (some 2) with ringingTimer := some 0 } :=
  ⟨event_ready rfl rfl, event_ready_oldest rfl rfl, event_ready_oldest rfl rfl, carried_at _ _, carried_at _ _,
    callIn_at _ _ _, ⟨rfl, rfl, rfl⟩, ⟨rfl, rfl, rfl⟩⟩

/-- The calls of references 1 and 2, the first of the lower origination sequence. -/
def lookTwo (r : CallRef) : Option Call :=
  if r = 1 then some (callIn .waiting none)
  else if r = 2 then some { callIn .waiting none with ref := 2, line := 1, sequence := 2 }
  else none

/-- A WAITING call on its waiting chain, whose HANG_UP is commanded. -/
def waitingHeard : State :=
  let s := waitingFor (callIn .waiting none) (idleTrunk .primary) 0
  { s with ap := { s.ap with players := s.ap.players.set 0 (.active 0 none) }, pending := [.hangUp 0] }

theorem waitingHeard_placed : waitingHeard.callsPlaced ∧ waitingHeard.channelsPlaced := by
  refine ⟨waitingFor_placed (callIn .waiting none) (idleTrunk .primary) 0 (by decide) rfl rfl (idleTrunk_atRest _), ?_,
    fun p c h => ?_⟩
  · decide
  · obtain ⟨rfl, rfl⟩ := only_call (c := callIn .waiting none) rfl reset_others p c h
    exact ⟨by decide, by decide, fun i _ hi => ⟨none, by cases hi; rfl⟩⟩

theorem witness_InsertionKeepsQueueOrder :
    lookTwo (callIn .waiting none).ref = some (callIn .waiting none) ∧ (∀ r ∈ [(2 : CallRef)], lookTwo r ≠ none) ∧
      [(2 : CallRef)].Pairwise
        (fun r r' => ∀ d d', lookTwo r = some d → lookTwo r' = some d' → d'.before d = false) ∧
      waitingHeard.callsPlaced ∧ waitingHeard.channelsPlaced ∧ ∃ t, step waitingHeard = .next t :=
  ⟨rfl, by simp [lookTwo], List.pairwise_singleton _ _, waitingHeard_placed.1, waitingHeard_placed.2, _, rfl⟩

/-- A WAITING call of class `cls` whose mark was set at time 0. -/
def agingCall (cls : Nat) : Call :=
  { callIn .waiting none with
    identity := some ⟨⟨0, none, 0, .missing, .unnamed⟩, .emergency, 1, cls⟩, agingMark := some 0 }

/-- That call in the queue 20 s after its mark, its trunk in GUARD. -/
def agingState (cls : Nat) : State := waitingFor (agingCall cls) (guardTrunk .primary) 20000

theorem agingState_placed (cls : Nat) : (agingState cls).callsPlaced :=
  waitingFor_placed _ _ _ (show (1 : CallRef) ≠ 0 by decide) rfl rfl (guardTrunk_atRest _)

theorem agingState_at (cls : Nat) : (agingState cls).callAt 0 (agingCall cls) := ⟨rfl, rfl, rfl⟩

/-- The call that trunk 2 carries CONNECTED stands in its place. -/
theorem carried_placed : (carried .connected .connected).callsPlaced := by
  have only := only_call (s := carried .connected .connected) (c := callIn .connected (some 2)) rfl reset_others
  refine ⟨⟨by decide, fun p d h => ?_, fun p q d e hd he _ => ?_⟩, ⟨List.nodup_nil, fun r => ⟨fun h => ?_, ?_⟩,
    List.Pairwise.nil⟩, fun p d h => ?_, fun u => ?_⟩
  · rw [(only p d h).2]
    decide
  · rw [(only p d hd).1, (only q e he).1]
  · exact nomatch h
  · rintro ⟨p, d, hd, -, hw⟩
    simp [(only p d hd).2, callIn] at hw
  · rw [(only p d h).2]
    exact ⟨2, rfl, rfl, rfl⟩
  · by_cases hu : u = 2
    · subst hu
      exact ⟨by decide, by decide, by decide, by decide, by decide, by decide,
        fun r h => ⟨0, callIn .connected (some 2), rfl, Option.some.inj h, rfl, by decide⟩, fun r h => absurd h (List.not_mem_nil),
        List.nodup_nil, by decide, by decide⟩
    · refine atRest_placed ?_
      rw [show (carried .connected .connected).trunk u = State.reset.trunk u from
        Table.get_set_ne _ _ (Ne.symm hu)]
      exact reset_atRest u

/-- Trunk 2 OUT OF SERVICE, a message left on its list. -/
def leftOver : State := trunkTwo { outTrunk .primary with transmit := [.clear 9 .reset] }

theorem witness_SoftResetEndsCallsAndReloads :
    State.reset.ready 0x3F [] ∧ State.reset.dir.operation = none ∧
      State.reset.journal.nextSequence + State.reset.liveCalls.length = 2 ∧
      State.reset.link.reports + State.reset.liveCalls.length < 12 ∧
      ({ State.reset.journal with nextSequence := 4294967296 } : Journal).exhausted = true ∧
      leftOver.ready 0x3F [] ∧ leftOver.dir.operation = none ∧ (leftOver.trunk 2).transmit ≠ [] ∧
      (agingState 1).ready 0x3F [] ∧ (agingState 1).dir.operation = none ∧ (agingState 1).callsPlaced ∧
      [agingCall 1].Perm (agingState 1).liveCalls ∧
      [agingCall 1].Pairwise (fun a b => a.sequence.toNat < b.sequence.toNat) ∧
      (agingState 1).link.reports + [agingCall 1].length < 12 ∧
      (carried .connected .connected).ready 0x3F [] ∧ (carried .connected .connected).dir.operation = none ∧
      (carried .connected .connected).callsPlaced ∧
      [callIn .connected (some 2)].Perm (carried .connected .connected).liveCalls ∧
      (callIn .connected (some 2)).endMessage .reset = some (.clear 1 .reset) ∧
      ((carried .connected .connected).trunk 2).link = .up ∧
      ({ State.reset with dir := { State.reset.dir with operation := some ⟨0, .erase, 400⟩ } } : State).ready 0x3F
        [] :=
  ⟨reset_ready _ _, rfl, by decide, by decide, by decide, ⟨rfl, rfl⟩, rfl, by decide, ⟨rfl, rfl⟩, rfl,
    agingState_placed 1, by simp [show (agingState 1).liveCalls = [agingCall 1] from rfl], List.pairwise_singleton _ _,
    by decide, ⟨rfl, rfl⟩, rfl, carried_placed,
    by simp [show (carried .connected .connected).liveCalls = [callIn .connected (some 2)] from rfl], rfl, rfl, rfl,
    rfl⟩

/-- A held call whose reminder comes due now. -/
def heldCall : Call := { callIn .held (some 2) with heldAt := some 0, reminderIn := some 0 }

/-- That call 120 s after its HOLD. -/
def heldState : State :=
  let s := withTrunk .idle none (withCall heldCall .active)
  { s with cc := { s.cc with now := 120000 } }

theorem witness_AgingAndHoldReminderComeDue :
    (agingState 0).callAt 0 (agingCall 0) ∧
      (agingState 0).agingDue (agingState 0).cc.agingPeriod (agingCall 0) = true ∧
      (agingState 1).callAt 0 (agingCall 1) ∧ (agingState 1).callsPlaced ∧
      (agingState 1).agingDue (agingState 1).cc.agingPeriod (agingCall 1) = true ∧ (agingCall 1).effective = 1 ∧
      heldState.callAt 0 heldCall ∧ heldCall.heldAt = some 0 ∧ heldCall.reminderIn = some 0 :=
  ⟨agingState_at 0, by decide, agingState_at 1, agingState_placed 1, by decide, rfl, ⟨rfl, rfl, rfl⟩, rfl, rfl⟩

/-- A maintenance call connected at time 0. -/
def servedCall : Call := { callIn .connected (some 2) with connectedMark := some 0 }

/-- That call 60 s later, with an emergency call waiting if `b`. -/
def servedState (b : Bool) : State :=
  let s := (carried .connected .connected).setCall 0 (some servedCall)
  let s := { s with cc := { s.cc with now := 60000 } }
  if b then (s.setCall 1 (some { agingCall 0 with ref := 2, line := 1 })).setQueue [2] else s

theorem servedState_calledFor : (servedState true).preemptionCalledFor := by
  refine ⟨⟨2, { agingCall 0 with ref := 2, line := 1 }, by decide, rfl, .inl rfl⟩, by decide, fun p c h => ?_⟩
  have hp : ∀ q : LineNo, (((servedState true).cc.calls.get q).map Call.state) ≠ some .preempting := by decide
  intro hc
  exact hp p (by simp [h, hc])

theorem witness_PreemptionStartsWhenHoldIsServed :
    (servedState false).callAt 0 servedCall ∧ (servedState true).callAt 0 servedCall ∧
      servedCall.trunk = some 2 ∧ servedCall.isKind .maintenance = true ∧ servedCall.state = .connected ∧
      ((servedState true).trunk 2).group = .primary ∧ (servedState true).served servedCall = true ∧
      (servedState true).preemptionCalledFor ∧ (servedState true).preemptable 0 servedCall ∧
      (servedState false).cc.queue = [] :=
  ⟨⟨rfl, rfl, rfl⟩, ⟨rfl, rfl, rfl⟩, rfl, by decide, rfl, by decide, by decide, servedState_calledFor,
    ⟨rfl, rfl, by decide, rfl, ⟨0, rfl, by decide⟩, 2, by decide, by decide, by decide⟩, rfl⟩

/-- A call being preempted on trunk 3, the served call connected on trunk 2 and the emergency call of line 1 waiting, in
that order of origination sequence. -/
def preemptedCall : Call := { callIn .preempting (some 3) with ref := 3, line := 2, sequence := 0 }
def queuedCall : Call := { agingCall 0 with ref := 2, line := 1, sequence := 2 }
def preemptingState : State :=
  let s := ((servedState true).setCall 1 (some queuedCall)).setCall 2 (some preemptedCall)
  s.setTrunk 3 { Trunk.initial .primary with link := .up, state := .connected, current := some 3 }

/-- The three calls of that state are all its live calls. -/
theorem preempting_calls (p : LineNo) (c : Call) (h : preemptingState.cc.calls.get p = some c) :
    p = 0 ∧ c = servedCall ∨ p = 1 ∧ c = queuedCall ∨ p = 2 ∧ c = preemptedCall := by
  have hp : p = 0 ∨ p = 1 ∨ p = 2 := by
    have : ∀ q : LineNo, (preemptingState.cc.calls.get q).isSome = true → q = 0 ∨ q = 1 ∨ q = 2 := by decide
    exact this p (by simp [h])
  rcases hp with rfl | rfl | rfl
  · exact .inl ⟨rfl, (Option.some.inj h).symm⟩
  · exact .inr (.inl ⟨rfl, (Option.some.inj h).symm⟩)
  · exact .inr (.inr ⟨rfl, (Option.some.inj h).symm⟩)

theorem preempting_atRest (u : TrunkNo) : u ≠ 2 → u ≠ 3 → atRest (preemptingState.trunk u) := by
  revert u
  unfold atRest
  decide

theorem preemptingState_placed : preemptingState.callsPlaced := by
  refine ⟨⟨by decide, fun p c h => ?_, fun p q c d hc hd h => ?_⟩, ⟨by decide, fun r => ⟨fun h => ?_, ?_⟩, ?_⟩,
    fun p c h => ?_, fun u => ?_⟩
  · rcases preempting_calls p c h with ⟨-, rfl⟩ | ⟨-, rfl⟩ | ⟨-, rfl⟩ <;> decide
  · rcases preempting_calls p c hc with ⟨rfl, rfl⟩ | ⟨rfl, rfl⟩ | ⟨rfl, rfl⟩ <;>
      rcases preempting_calls q d hd with ⟨rfl, rfl⟩ | ⟨rfl, rfl⟩ | ⟨rfl, rfl⟩ <;>
      first | rfl | exact absurd h (by decide)
  · exact ⟨1, queuedCall, rfl, (List.mem_singleton.1 h).symm, rfl⟩
  · rintro ⟨p, c, h, rfl, hs⟩
    rcases preempting_calls p c h with ⟨-, rfl⟩ | ⟨-, rfl⟩ | ⟨-, rfl⟩
    · exact absurd hs (by decide)
    · exact List.mem_singleton.2 rfl
    · exact absurd hs (by decide)
  · exact List.pairwise_singleton _ _
  · rcases preempting_calls p c h with ⟨-, rfl⟩ | ⟨-, rfl⟩ | ⟨-, rfl⟩
    · exact ⟨2, rfl, by decide, by decide⟩
    · exact (rfl : queuedCall.trunk = none)
    · exact ⟨3, rfl, by decide, by decide⟩
  · by_cases h2 : u = 2
    · subst h2
      exact ⟨by decide, by decide, by decide, by decide, by decide, by decide,
        fun r h => ⟨0, servedCall, rfl, Option.some.inj h, rfl, by decide⟩, fun r h => absurd h (List.not_mem_nil),
        List.nodup_nil, by decide, by decide⟩
    · by_cases h3 : u = 3
      · subst h3
        exact ⟨by decide, by decide, by decide, by decide, by decide, by decide,
          fun r h => ⟨2, preemptedCall, rfl, Option.some.inj h, rfl, by decide⟩,
          fun r h => absurd h (List.not_mem_nil), List.nodup_nil, by decide, by decide⟩
      · exact atRest_placed (preempting_atRest u h2 h3)

/-- A soft reset in which a preemption starts meets the hypotheses of SoftResetEndsCallsAndReloads. -/
theorem witness_SoftResetEndsCallsAndReloads_preemption :
    preemptingState.ready 0x3F [] ∧ preemptingState.dir.operation = none ∧ preemptingState.callsPlaced ∧
      [preemptedCall, servedCall, queuedCall].Perm preemptingState.liveCalls ∧
      [preemptedCall, servedCall, queuedCall].Pairwise (fun a b => a.sequence.toNat < b.sequence.toNat) ∧
      preemptingState.link.reports + [preemptedCall, servedCall, queuedCall].length < 12 :=
  ⟨⟨rfl, rfl⟩, rfl, preemptingState_placed, by decide, by decide, by decide⟩

/-- R140 and R143: the end of a preemption in a soft reset is followed by an examination, which warns the next desk. -/
theorem test_reset_examines_preemption :
    ((preemptingState.beginSoftReset.endCall 2 .reset).trunk 2).transmit = [.preemptWarn 1 10] := by decide

/-- R91, R93 and R140: the messages of that soft reset for the desk of trunk 2. -/
theorem test_reset_messages :
    preemptingState.resetMessages [preemptedCall, servedCall, queuedCall] 2 =
      [.preemptWarn 1 10, .clear 1 .reset] := by decide

/-- A valid frame of silence that carries RETRIEVE, or fill alone. -/
def framed (message : Bool) : TrunkFrame :=
  ⟨0x3CC3, Config.silenceBlock,
    if message then Table.ofFn fun i => ([0xA5, 1, 5, 0, 6] : List Octet).getD i.val 0 else Table.fill 16 0⟩

theorem witness_TrunkFramesAreJudged :
    (framed true).marker = 0x3CC3 ∧ deskRequestOf 0x05 [] = some .retrieve ∧
      (framed true).signalling.cells = enclose Config.messageStart 0x05 [] ++ List.replicate 11 0 ∧
      (framed false).signalling = Table.fill 16 0 ∧
      ((trunkTwo (idleTrunk .primary)).trunk 2).receiver = .between ∧
      ((trunkTwo (idleTrunk .primary)).trunk 2).link = .up ∧
      ((trunkTwo (idleTrunk .primary)).trunk 2).draining = false ∧
      ((trunkTwo { idleTrunk .primary with draining := true }).trunk 2).draining = true ∧
      (State.reset.trunk 2).link = .down ∧ (State.reset.trunk 2).goodRun < 9 ∧
      ((trunkTwo { idleTrunk .primary with badRun := 1, receiver := .inside [3] }).trunk 2).badRun < 2 ∧
      ((trunkTwo { idleTrunk .primary with badRun := 1, receiver := .inside [3] }).trunk 2).receiver = .inside [3] ∧
      ((trunkTwo { Trunk.initial .primary with goodRun := 9 }).trunk 2).goodRun = 9 ∧
      ((trunkTwo { Trunk.initial .primary with goodRun := 9 }).trunk 2).link = .down ∧
      ((trunkTwo { Trunk.initial .primary with goodRun := 9 }).trunk 2).state = .linkDown ∧
      ((trunkTwo { Trunk.initial .primary with goodRun := 9, state := .outOfService }).trunk 2).state = .outOfService ∧
      State.reset.link.reports + (if State.reset.journal.levelDue then 1 else 0) < 16 ∧
      State.reset.journal.exhausted = false := by decide

/-- State `s` with trunk 2 two bad frames into a run. -/
def nearlyLost (s : State) : State := s.setTrunk 2 { s.trunk 2 with link := .up, badRun := 2 }

/-- The call of reference 1 held on the stack of trunk 2, which carries no other. -/
def heldOnStack : State :=
  withTrunk .idle none (withCall (callIn .held (some 2)) .active) |>.mapTrunk 2 fun x => { x with stack := [1] }

theorem witness_ThirdBadFrameRescuesTheCall :
    (∀ s, (nearlyLost s).held = s.held ∧ ((nearlyLost s).trunk 2).link = .up ∧ ((nearlyLost s).trunk 2).badRun = 2) ∧
      (∀ st ts, (carried st ts).held = false ∧ (nearlyLost (carried st ts)).callAt 0 (callIn st (some 2)) ∧
        ((nearlyLost (carried st ts)).trunk 2).current = some (callIn st (some 2)).ref ∧
        ((nearlyLost (carried st ts)).trunk 2).stack = [] ∧ ((nearlyLost (carried st ts)).trunk 2).state = ts ∧
        (nearlyLost (carried st ts)).link.reports < 12 ∧
        (nearlyLost (carried st ts)).journal.exhausted = false ∧
        (nearlyLost (carried st ts)).journal.nextSequence < 4294967295) ∧
      (nearlyLost heldOnStack).callAt 0 (callIn .held (some 2)) ∧
      (callIn .held (some 2)).ref ∈ ((nearlyLost heldOnStack).trunk 2).stack ∧
      ((nearlyLost heldOnStack).trunk 2).state ≠ .outOfService ∧
      (callIn .held (some 2)).isKind .maintenance = true ∧
      (∀ st, (nearlyLost (withTrunk .connected (some 1) (withCall { agingCall 2 with state := st } .active))).callAt 0
          { agingCall 2 with state := st } ∧
        ({ agingCall 2 with state := st } : Call).isKind .maintenance = false) ∧
      (nearlyLost (trunkTwo (idleTrunk .primary))).cc.queue = [] ∧
      ((nearlyLost (trunkTwo (idleTrunk .primary))).trunk 2).current = none ∧
      ((nearlyLost (trunkTwo (outTrunk .primary))).trunk 2).state = .outOfService ∧
      (nearlyLost (trunkTwo (outTrunk .primary))).ti.noTrunk = false ∧
      (nearlyLost (waitingFor (agingCall 0) (idleTrunk .primary) 0)).callsPlaced ∧
      (nearlyLost (waitingFor (agingCall 0) (outTrunk .primary) 0)).callsPlaced ∧
      (framed false).marker = 0x3CC3 ∧ ({ framed false with marker := 0 } : TrunkFrame).marker ≠ 0x3CC3 := by
  refine ⟨fun s => ⟨rfl, ?_, ?_⟩, fun st ts => ⟨rfl, ⟨rfl, rfl, rfl⟩, rfl, rfl, rfl,
      show State.reset.link.reports < 12 by decide, show State.reset.journal.exhausted = false by decide,
      show State.reset.journal.nextSequence < 4294967295 by decide⟩,
    ⟨rfl, rfl, rfl⟩, by decide, by decide, by decide, fun _ => ⟨⟨rfl, rfl, rfl⟩, rfl⟩, rfl, rfl, rfl, rfl, ?_, ?_, rfl, by decide⟩
  · simp [nearlyLost]
  · simp [nearlyLost]
  · exact waitingFor_placed (agingCall 0) { idleTrunk .primary with badRun := 2 } 0 (by decide) rfl rfl
      (by unfold atRest; simp [idleTrunk, Trunk.initial])
  · exact waitingFor_placed (agingCall 0) { outTrunk .primary with badRun := 2 } 0 (by decide) rfl rfl
      (by unfold atRest; simp [outTrunk, Trunk.initial])

/-- A trunk with one block to send and the messages `ms`. -/
def sending (ms : List DeskMessage) : State :=
  let s := State.reset.setTrunk 2 { Trunk.initial .primary with transmit := ms }
  { s with ap := { s.ap with send := s.ap.send.set 2 ⟨[Config.silenceBlock], false, none⟩ } }

theorem witness_TrunkFrameCarriesMessageAndFill :
    ((sending []).trunk 2).sentOctets = 0 ∧ ((sending []).trunk 2).transmit = [] ∧
      ((sending []).ap.send.get 2).blocks = [Config.silenceBlock] ∧
      ((sending [.confirm .retrieve]).trunk 2).transmit = [.confirm .retrieve] ∧
      (DeskMessage.confirm .retrieve).octets.length ≤ 16 ∧
      ((sending [.offer 1 0 0 ⟨1, ⟨0, none, 0, .missing, .unnamed⟩⟩, .confirm .retrieve]).trunk 2).transmit.length =
        2 ∧
      16 < (DeskMessage.offer 1 0 0 ⟨1, ⟨0, none, 0, .missing, .unnamed⟩⟩).octets.length ∧
      (State.reset.ap.send.get 2).blocks = [] ∧ (State.reset.ap.send.get 2).last = none ∧
      (⟨[], false, some Config.silenceBlock⟩ : Buffer).repeated = false ∧
      (⟨[], true, some Config.silenceBlock⟩ : Buffer).last ≠ none :=
  ⟨rfl, rfl, rfl, rfl, by decide, rfl, by decide, by decide, by decide, rfl, nofun⟩

theorem witness_EndedOfferReturnsTheCall :
    ((carried .offered .offering).setTrunk 2
        { (carried .offered .offering).trunk 2 with offerTimer := some 0 }).callAt 0 (callIn .offered (some 2)) ∧
      (((carried .offered .offering).setTrunk 2
        { (carried .offered .offering).trunk 2 with offerTimer := some 0 }).trunk 2).offerTimer = some 0 ∧
      (carried .offered .offering).deskReady 2 (.decline 1) ∧
      (asked (.decline 1) (carried .offered .offering)).deskReady 2 (.decline 1) ∧
      (carried .offered .offering).callAt 0 (callIn .offered (some 2)) ∧
      ((carried .offered .offering).trunk 2).state = .offering ∧
      ((carried .offered .offering).trunk 2).current = some 1 ∧
      ((carried .offered .offering).trunk 2).transmit = [] :=
  ⟨⟨rfl, rfl, rfl⟩, rfl, carried_ready _ _ _, desk_ready_oldest rfl rfl rfl rfl, carried_at _ _, rfl, rfl, rfl⟩

/-- The no-trunk flag set, with trunk 2 UP or no trunk UP, and no call waiting. -/
def trunkless (available : Bool) : State :=
  let s := trunkTwo (if available then idleTrunk .primary else Trunk.initial .primary)
  { s with ti := { s.ti with noTrunk := true } }

theorem witness_GuardEndsAndDrainedTrunkResets :
    (∀ g, (waitingFor (agingCall 0) (guardTrunk g) 0).callsPlaced ∧
        (waitingFor (agingCall 0) (guardTrunk g) 0).callAt 0 (agingCall 0) ∧
        ((waitingFor (agingCall 0) (guardTrunk g) 0).trunk 2).guardTimer = some 0 ∧
        (waitingFor (agingCall 0) (guardTrunk g) 0).cc.queue.head? = some (agingCall 0).ref) ∧
      (∀ v, ((waitingFor (agingCall 0) (guardTrunk .primary) 0).trunk v).eligible = false) ∧
      (waitingFor (agingCall 0) (guardTrunk .overflow) 0).mayOverflow (agingCall 0) ∧
      (agingCall 0).identity ≠ none ∧
      (∀ g, (waitingFor (agingCall 0) (idleTrunk g) 0).callsPlaced) ∧
      (waitingFor (agingCall 0) (idleTrunk .primary) 0).firstIdle .primary 2 ∧
      (waitingFor (agingCall 0) (idleTrunk .overflow) 0).firstIdle .overflow 2 ∧
      (waitingFor (agingCall 0) (idleTrunk .overflow) 0).cc.queue = [] ++ (agingCall 0).ref :: [] ∧
      ((State.reset.setTrunk 2 { Trunk.initial .primary with draining := true }).trunk 2).draining = true ∧
      (Trunk.initial .primary).transmit = [] ∧
      (waitingFor (agingCall 0) (Trunk.initial .primary) 0).ti.noTrunk = false ∧
      (waitingFor (agingCall 0) (Trunk.initial .primary) 0).changed.ti.noTrunk = true ∧
      (waitingFor (agingCall 0) (Trunk.initial .primary) 0).link.reports < 16 ∧
      ∀ available : Bool,
        (trunkless available).ti.noTrunk = true ∧ (trunkless available).changed.ti.noTrunk = false ∧
          (trunkless available).link.reports < 16 ∧
          ((trunkless available).changed.trunk 2).link = if available then .up else .down := by
  refine ⟨fun g => ⟨waitingFor_placed _ _ _ (by decide) rfl rfl (guardTrunk_atRest g), ⟨rfl, rfl, rfl⟩, rfl, rfl⟩,
    by decide, ⟨by decide, .inl (by decide)⟩, by decide,
    fun g => waitingFor_placed _ _ _ (by decide) rfl rfl (idleTrunk_atRest g), ?_, ?_, rfl, by decide, rfl, rfl,
    by decide, by decide, by decide⟩
  all_goals unfold State.firstIdle; decide

theorem witness_AcceptAndReleaseActOnTheCurrentCall :
    (carried .offered .offering).deskReady 2 (.accept 1) ∧
      (asked (.accept 1) (carried .offered .offering)).deskReady 2 (.accept 1) ∧
      (carried .offered .offering).callAt 0 (callIn .offered (some 2)) ∧
      ((carried .offered .offering).trunk 2).state = .offering ∧
      ((carried .offered .offering).trunk 2).current = some (callIn .offered (some 2)).ref ∧
      (carried .connected .connected).deskReady 2 (.release 1) ∧
      (asked (.release 1) (carried .preempting .connected)).deskReady 2 (.release 1) ∧
      (carried .connected .connected).callAt 0 (callIn .connected (some 2)) ∧
      ((carried .connected .connected).trunk 2).state = .connected ∧
      ((carried .connected .connected).trunk 2).transmit = [] ∧
      (∀ v, v ≠ 2 → ((carried .connected .connected).trunk v).state ≠ .connected) :=
  ⟨carried_ready _ _ _, desk_ready_oldest rfl rfl rfl rfl, carried_at _ _, rfl, rfl, carried_ready _ _ _,
    desk_ready_oldest rfl rfl rfl rfl, carried_at _ _, rfl, rfl, by decide⟩

/-- A CONNECTED trunk with the calls of references `q` on its stack. -/
def stacked (st : CallState) (q : List CallRef) : State :=
  let s := carried st .connected
  s.setTrunk 2 { s.trunk 2 with stack := q }

theorem witness_HoldStacksTheCallOrIsRefused :
    (stacked .connected [2, 3]).deskReady 2 (.hold 1) ∧
      (asked (.hold 1) (stacked .connected [2, 3])).deskReady 2 (.hold 1) ∧
      (stacked .connected [2, 3]).callAt 0 (callIn .connected (some 2)) ∧
      ((stacked .connected [2, 3]).trunk 2).stack.length < 3 ∧
      3 ≤ ((stacked .connected [2, 3, 4]).trunk 2).stack.length ∧
      (stacked .connected [2, 3, 4]).callAt 0 (callIn .connected (some 2)) ∧
      (stacked .preempting []).callAt 0 (callIn .preempting (some 2)) ∧
      ((withTrunk .idle none State.reset).trunk 2).state ≠ .connected :=
  ⟨desk_ready _ rfl rfl rfl rfl, desk_ready_oldest rfl rfl rfl rfl, ⟨rfl, rfl, rfl⟩, by decide, by decide,
    ⟨rfl, rfl, rfl⟩, ⟨rfl, rfl, rfl⟩, by decide⟩

/-- A trunk in state `ts` with the one call on its stack. -/
def holding (ts : TrunkState) : State :=
  let s := withTrunk ts none (withCall heldCall .active)
  s.setTrunk 2 { s.trunk 2 with stack := [1] }

/-- The held call on the stack of a trunk that offers the call of reference 2 of line 1. -/
def offeringOver : State :=
  let s := (holding .offering).setCall 1 (some { callIn .offered (some 2) with ref := 2, line := 1 })
  s.setTrunk 2 { s.trunk 2 with current := some 2 }

theorem witness_RetrieveAndIdentRequestAreAnswered :
    (holding .idle).deskReady 2 .retrieve ∧ (asked .retrieve (holding .guard_)).deskReady 2 .retrieve ∧
      (holding .idle).callAt 0 heldCall ∧ (holding .guard_).callAt 0 heldCall ∧
      ((holding .guard_).trunk 2).stack = [heldCall.ref] ∧ (1 : CallRef) ∈ ((holding .idle).trunk 2).stack ∧
      offeringOver.deskReady 2 .retrieve ∧ offeringOver.callAt 0 heldCall ∧
      offeringOver.callAt 1 { callIn .offered (some 2) with ref := 2, line := 1 } ∧
      (offeringOver.trunk 2).current = some 2 ∧ (offeringOver.trunk 2).stack = [heldCall.ref] ∧
      ((carried .connected .connected).trunk 2).state = .connected ∧
      ((withTrunk .idle none State.reset).trunk 2).stack = [] ∧
      (holding .idle).deskReady 2 (.identRequest 2) ∧ (2 : CallRef) ∉ ((holding .idle).trunk 2).stack :=
  ⟨desk_ready _ rfl rfl rfl rfl, desk_ready_oldest rfl rfl rfl rfl, ⟨rfl, rfl, rfl⟩, ⟨rfl, rfl, rfl⟩, rfl,
    by decide, desk_ready _ rfl rfl rfl rfl, ⟨rfl, rfl, rfl⟩, ⟨rfl, rfl, rfl⟩, rfl, rfl, by decide, by decide,
    desk_ready _ rfl rfl rfl rfl, by decide⟩

theorem witness_CallbackTakesRingsOrIsRefused :
    (withTrunk .idle none (withCall (callIn .waiting none) .active)).deskReady 2 (.callback (lineOctet 0)) ∧
      (asked (.callback 0) (withTrunk .idle none (withCall (callIn .waiting none) .active))).deskReady 2
        (.callback (lineOctet 0)) ∧
      (withTrunk .idle none (withCall (callIn .waiting none) .active)).callAt 0 (callIn .waiting none) ∧
      ((withTrunk .idle none (withCall (callIn .waiting none) .active)).lines.get 0).state = .active ∧
      (withTrunk .idle none (withCall (callIn .offered (some 3)) .active)).callAt 0 (callIn .offered (some 3)) ∧
      (3 : TrunkNo) ≠ 2 ∧
      (withTrunk .idle none (withLine (line .idle))).deskReady 2 (.callback (lineOctet 0)) ∧
      ((withTrunk .idle none (withLine (line .idle))).lines.get 0).state = .idle ∧
      (withTrunk .idle none (withLine (line .idle))).placeOfLine 0 = none ∧
      (withTrunk .idle none (withLine (line .idle))).freePlace = some 0 ∧ 48 ≤ (48 : Octet).toNat ∧
      ((withTrunk .guard_ none State.reset).trunk 2).state ≠ .idle ∧
      ((withTrunk .idle none State.reset).lines.get 47).state = .unequipped ∧
      ((withTrunk .idle none (withLine (line .lockout))).lines.get 0).state = .lockout ∧
      (withTrunk .idle none (withLine (line .lockout))).placeOfLine 0 = none ∧
      (withTrunk .idle none (withCall (callIn .originating none) .collecting)).callAt 0 (callIn .originating none) ∧
      (withTrunk .idle none (withCall (callIn .held (some 3)) .active)).callAt 0 (callIn .held (some 3)) :=
  ⟨desk_ready _ rfl rfl rfl rfl, desk_ready_oldest rfl rfl rfl rfl, ⟨rfl, rfl, rfl⟩, by decide, ⟨rfl, rfl, rfl⟩,
    by decide, desk_ready _ rfl rfl rfl rfl, by decide, rfl, rfl, by decide, by decide, by decide, by decide, rfl,
    ⟨rfl, rfl, rfl⟩, ⟨rfl, rfl, rfl⟩⟩

/-- A CONNECTED call whose trunk has a block received. -/
def audible : State :=
  let s := carried .connected .connected
  { s with ap := { s.ap with receive := s.ap.receive.set 2 ⟨[Config.silenceBlock], false, none⟩ } }

/-- A CONNECTED call whose trunk's receive buffer is empty. -/
def drained (repeated : Bool) (last : Option Block) : State :=
  let s := carried .connected .connected
  { s with ap := { s.ap with receive := s.ap.receive.set 2 ⟨[], repeated, last⟩ } }

/-- A WAITING call whose channel is in the last block of the last play of the one step of its chain. -/
def announced (mode : StepMode) (gap : Nat) : State :=
  let s := withCall (callIn .waiting none) .active
  { s with
    ap := { s.ap with
      clips := s.ap.clips.set 31 (some ⟨0, 1, .w8⟩), chains := s.ap.chains.set 15 [⟨31, mode, gap⟩]
      players := s.ap.players.set 0 (.active 15 (some ⟨1, .nth 1, .clip, 0⟩)) } }

/-- A CONNECTED call whose trunk's send buffer is full. -/
def crowded : State :=
  let s := carried .connected .connected
  { s with ap := { s.ap with send := s.ap.send.set 2 ⟨List.replicate 4 Config.silenceBlock, false, none⟩ } }

theorem witness_AudioTickJoinsPostAndDesk :
    audible.held = false ∧ (audible.ap.receive.get 2).blocks = [Config.silenceBlock] ∧
      audible.callAt 0 (callIn .connected (some 2)) ∧ (audible.lines.get 0).state ≠ .unequipped ∧
      (audible.trunk 2).state = .connected ∧ (audible.trunk 2).current = some 1 ∧
      (audible.ap.send.get 2).blocks.length < 4 ∧ (crowded.ap.send.get 2).blocks.length = 4 ∧
      crowded.callAt 0 (callIn .connected (some 2)) ∧ (crowded.trunk 2).current = some 1 ∧
      (crowded.trunk 3).state ≠ .connected ∧ (audible.lines.get 1).state = .unequipped ∧
      (∀ mode gap, (announced mode gap).callAt 0 (callIn .waiting none) ∧
        (announced mode gap).ap.players.get 0 = .active 15 (some ⟨1, .nth 1, .clip, 0⟩) ∧
        ((announced mode gap).ap.chains.get 15)[0]? = some ⟨31, mode, gap⟩ ∧
        (announced mode gap).ap.clips.get 31 = some ⟨0, 1, .w8⟩) ∧
      (carried .ringing .connected).callAt 0 (callIn .ringing (some 2)) ∧
      (∀ b last, (drained b last).held = false ∧ ((drained b last).ap.receive.get 2).blocks = [] ∧
        ((drained b last).ap.receive.get 2).last = last ∧ ((drained b last).ap.receive.get 2).repeated = b ∧
        (drained b last).callAt 0 (callIn .connected (some 2))) ∧
      (carried .preempting .connected).callAt 0 (callIn .preempting (some 2)) ∧
      (carried .preempting .connected).ap.players.get 0 = .inactive :=
  ⟨rfl, rfl, ⟨rfl, rfl, rfl⟩, by decide, by decide, by decide, by decide, rfl, ⟨rfl, rfl, rfl⟩, rfl, by decide,
    by decide, fun _ _ => ⟨⟨rfl, rfl, rfl⟩, rfl, rfl, rfl⟩, carried_at _ _, fun _ _ => ⟨rfl, rfl, rfl, rfl, rfl, rfl, rfl⟩,
    carried_at _ _, by decide⟩

theorem witness_PulsesWatchdogAndSecondBoundary :
    State.reset.held = false ∧ State.reset.time.pendingLoad = none ∧
      ({ State.reset.time with phase := 949, state := .locked, watchdog := some 3000 } : TimeBase).watchdog =
        some 3000 ∧
      ({ State.reset.time with state := .holdover, pendingLoad := some 7, badRun := 2 } : TimeBase).pendingLoad =
        some 7 ∧
      ((50 : Int) = if (50 : Nat) ≤ 499 then ((50 : Nat) : Int) else ((50 : Nat) : Int) - 1000) ∧
      ((-51 : Int) = if (949 : Nat) ≤ 499 then ((949 : Nat) : Int) else ((949 : Nat) : Int) - 1000) ∧
      State.reset.link.reports < 16 ∧
      ({ State.reset with time := { State.reset.time with phase := 999 } } : State).time.phase = 999 ∧
      ({ State.reset with time := { State.reset.time with phase := 999 } } : State).held = false := by decide

theorem witness_StoreCompletionsTakeEffect :
    ({ State.reset with
        dir := { State.reset.dir with operation := some ⟨2, .lock, 0⟩ } } : State).dir.operation =
        some ⟨2, .lock, 0⟩ ∧
      (⟨2, .lock, 0⟩ : StoreOp).remaining = 0 ∧ State.reset.held = false ∧
      State.reset.link.reports + (if State.reset.journal.levelDue then 1 else 0) < 16 ∧
      State.reset.journal.exhausted = false := by decide

theorem witness_LinkReceiverEvents :
    State.reset.held = false ∧ State.reset.link.service ≠ .starting ∧ State.reset.link.receiver = .hunting ∧
      (∀ os gap, (withLink { State.reset.link with receiver := .receiving os gap }).link.receiver = .receiving os gap ∧
        (withLink { State.reset.link with receiver := .receiving os gap }).held = false ∧
        (withLink { State.reset.link with receiver := .receiving os gap }).link.service ≠ .starting) ∧
      (0x3F : Octet).toNat < 0x40 ∧ State.reset.link.inputs.length < 2 ∧
      (withLink { State.reset.link with inputs := [⟨1, []⟩, ⟨1, []⟩] }).link.inputs.length = 2 ∧
      (withLink { State.reset.link with inputs := [⟨1, []⟩, ⟨1, []⟩] }).link.receiver = .hunting ∧
      ¬ ((0x5A : Octet) = 0x5A ∧ false = true) ∧ ¬ ((0x5B : Octet) = 0x5A ∧ true = true) ∧
      200 < (201 : Octet).toNat ∧ (200 : Octet) ≠ 0 ∧ (200 : Octet).toNat ≤ 200 ∧ 0x40 ≤ (0x40 : Octet).toNat ∧
      ([] : List Octet).length + 1 = (1 : Octet).toNat ∧
      be16 0 1 ≠ (([1, 1] : List Octet).map BitVec.toNat).sum % 65536 :=
  ⟨rfl, by decide, rfl, fun _ _ => ⟨rfl, rfl, nofun⟩, by decide, by decide, by decide, rfl, by decide, by decide,
    by decide, by decide, by decide, by decide, by decide, by decide⟩

/-- The NCL SERVING, with the reply `r` on its way out and the repetition `rep`. -/
def servingReply (r : Reply) (rep : Option Repetition) : State :=
  withLink { State.reset.link with service := .serving, output := [.reply r], repetition := rep }

theorem witness_SendingFreesTheOutputList :
    (∀ r rep, (servingReply r rep).held = false ∧ (servingReply r rep).link.output = [.reply r] ∧
        (servingReply r rep).link.service = .serving ∧ (servingReply r rep).link.repetition = rep) ∧
      (withLink { State.reset.link with output := [.reply ⟨0x01, .done, none, .nothing⟩] }).link.service ≠ .serving ∧
      (⟨0x3F, .done, none, .nothing⟩ : Reply).result = .done ∧ (⟨0x3F, .range, none, .nothing⟩ : Reply).result ≠ .done ∧
      (⟨0x12, [46], 46, 0⟩ : Repetition).remaining = 0 ∧ (⟨0x12, [47], 47, 3⟩ : Repetition).index.val = 47 ∧
      (47 : LineNo).val = (46 : LineNo).val + 1 ∧ (1 : LineNo).val = (0 : LineNo).val + 1 ∧
      ([2] : List Octet).length = 1 ∧ ([] : List Octet).length = 0 ∧ ([0, 4, 0, 0, 5] : List Octet).length = 5 ∧
      (withLink { State.reset.link with output := [.report (.noTrunk 1)] }).link.heldReady = none ∧
      (withLink { State.reset.link with
        output := [.report (.noTrunk 1)]
        heldReady := some (.ready .soft (Table.fill 3 true) (Table.fill 3 false) 2) }).link.heldReady =
        some (.ready .soft (Table.fill 3 true) (Table.fill 3 false) 2) :=
  ⟨fun _ _ => ⟨rfl, rfl, rfl, rfl⟩, by decide, rfl, by decide, rfl, rfl, rfl, rfl, rfl, rfl, rfl, rfl, rfl⟩

theorem witness_UnknownRepeatAndStatus :
    State.reset.ready 0x04 [] ∧
      (0x04 : Octet).toNat ∉ [0x01, 0x02, 0x03, 0x10, 0x11, 0x12, 0x13, 0x14, 0x15, 0x16, 0x17, 0x18, 0x19, 0x20,
        0x21, 0x22, 0x23, 0x24, 0x25, 0x28, 0x29, 0x2A, 0x30, 0x31, 0x32, 0x3E, 0x3F] ∧
      State.reset.ready 0x02 [11, 0, 1] ∧ 10 < (11 : Octet).toNat ∧ State.reset.ready 0x3E [47] ∧
      State.reset.ready 0x01 [] ∧ (Instr.lineQuery [0]).request = some ⟨0x10, [0]⟩ ∧
      State.reset.ready 0x10 [0] ∧ (requestLength 0x10).map (· [(0 : Octet)].length) = some false ∧
      (requestLength 0x2A).map (· 5) = some true ∧ (requestLength 0x2A).map (· 4) = some false :=
  ⟨reset_ready _ _, by decide, reset_ready _ _, by decide, reset_ready _ _, reset_ready _ _, rfl, reset_ready _ _,
    by decide, by decide, by decide⟩

theorem witness_ThresholdSetIsReplacedWhole :
    State.reset.ready 0x02 (1 :: Thresholds.factoryA.octets) ∧ Thresholds.factoryA.accepted ∧
      State.reset.ready 0x02 (2 :: ({ Thresholds.factoryA with openMin := -20 } : Thresholds).octets) ∧
      ¬ ({ Thresholds.factoryA with openMin := -20 } : Thresholds).accepted ∧
      State.reset.ready 0x02 ((if false then 2 else 1) :: [0, 1]) ∧ ([0, 1] : List Octet).length ≠ 16 := by
  refine ⟨reset_ready _ _, ?_, reset_ready _ _, ?_, reset_ready _ _, by decide⟩ <;> unfold Thresholds.accepted <;> decide

theorem witness_ParametersTakeValuesInRange :
    State.reset.ready 0x02 [3, 0, 5] ∧ (be16 0 5 = 0 ∨ 5 ≤ be16 0 5 ∧ be16 0 5 ≤ 120) ∧
      ¬ (be16 0 4 = 0 ∨ 5 ≤ be16 0 4 ∧ be16 0 4 ≤ 120) ∧
      (agingState 1).callsPlaced ∧ (agingState 1).ready 0x02 [3, 0, 20] ∧
      (agingState 1).cc.calls.get 0 = some (agingCall 1) ∧ (agingState 1).agingDue 20 (agingCall 1) = true ∧
      (agingState 1).agingDue 21 (agingCall 1) = false ∧
      (∀ p c, State.reset.cc.calls.get p = some c → State.reset.agingDue 5 c = false) ∧
      State.reset.ready 0x02 [4, 0, 15] ∧ State.reset.ready 0x02 [5, 0, 60] ∧ State.reset.ready 0x02 [6, 7, 208] ∧
      State.reset.ready 0x02 [7, 2, 88] ∧ State.reset.ready 0x02 [8, 0, 15] ∧ State.reset.ready 0x02 [9, 0, 16] ∧
      State.reset.ready 0x02 [10, 1, 0] ∧ State.reset.ready 0x02 (10 :: Thresholds.factoryA.octets) ∧
      Thresholds.factoryA.octets.length ≠ 2 := by
  refine ⟨reset_ready _ _, by decide, by decide, agingState_placed 1, ⟨rfl, rfl⟩, rfl, by decide, by decide,
    fun p c h => ?_, reset_ready _ _, reset_ready _ _, reset_ready _ _,
    reset_ready _ _, reset_ready _ _, reset_ready _ _, reset_ready _ _, reset_ready _ _, by decide⟩
  exact nomatch (reset_no_calls p).symm.trans h

theorem witness_ParamQueryAndTimeQueryReturnValues : State.reset.ready 0x03 [] ∧ State.reset.ready 0x32 [] :=
  ⟨reset_ready _ _, reset_ready _ _⟩

theorem witness_TimeSetLoadsOrWaits :
    State.reset.ready 0x31 [0, 0, 0, 1] ∧ State.reset.time.state = .unset ∧ State.reset.link.reports < 16 ∧
      ({ State.reset with time := { State.reset.time with state := .locked } } : State).ready 0x31 [0, 0, 0, 1] ∧
      ({ State.reset.time with state := .free } : TimeBase).state = .free :=
  ⟨reset_ready _ _, rfl, by decide, ⟨rfl, rfl⟩, rfl⟩

theorem witness_JournalReadTakesTheOldest :
    State.reset.ready 0x30 [8] ∧ (1 ≤ (8 : Octet).toNat ∧ (8 : Octet).toNat ≤ 8) ∧ State.reset.ready 0x30 [9] ∧
      ¬ (1 ≤ (9 : Octet).toNat ∧ (9 : Octet).toNat ≤ 8) :=
  ⟨reset_ready _ _, by decide, reset_ready _ _, by decide⟩

theorem witness_RepeatableReadsAnswerTheLine :
    State.reset.ready 0x10 [lineOctet 47, 1] ∧ State.reset.ready 0x12 [lineOctet 47] ∧
      State.reset.ready 0x14 [lineOctet 47] ∧ 48 ≤ (48 : Octet).toNat ∧ State.reset.ready 0x10 [48, 0] ∧
      State.reset.ready 0x12 [48] ∧ State.reset.ready 0x14 [48] :=
  ⟨reset_ready _ _, reset_ready _ _, reset_ready _ _, by decide, reset_ready _ _, reset_ready _ _,
    reset_ready _ _⟩

theorem witness_CallRequestsAnswerTheTable :
    State.reset.ready 0x20 [47] ∧ (47 : Octet).toNat ≤ 47 ∧ State.reset.ready 0x20 [48] ∧ 47 < (48 : Octet).toNat ∧
      State.reset.ready 0x21 [0, 0] ∧ refOf 0 0 = 0 ∧ refOf 0 1 ≠ 0 ∧
      State.reset.placeOfRef (refOf 0 1) = none ∧
      (withCall (callIn .waiting none) .active).ready 0x21 [0, 1] ∧
      (withCall (callIn .waiting none) .active).callAt 0 (callIn .waiting none) ∧
      (callIn .waiting none).ref = refOf 0 1 :=
  ⟨reset_ready _ _, by decide, reset_ready _ _, by decide, reset_ready _ _, by decide, by decide, rfl, ⟨rfl, rfl⟩,
    callIn_at _ _ _, by decide⟩

theorem witness_ClearArmArmsALiveCall :
    State.reset.ready 0x22 [0, 0] ∧ refOf 0 0 = 0 ∧ State.reset.placeOfRef (refOf 0 1) = none ∧
      (withCall (callIn .waiting none) .active).ready 0x22 [0, 1] ∧
      (withCall (callIn .waiting none) .active).placeOfRef (refOf 0 1) ≠ none :=
  ⟨reset_ready _ _, by decide, rfl, ⟨rfl, rfl⟩, by decide⟩

/-- The NCL armed with reference 1. -/
def armed (s : State) : State := s.mapLink fun k => { k with armed := some 1 }

theorem witness_ClearCallForcesTheArmedCall :
    State.reset.ready 0x23 [0, 1] ∧ State.reset.link.armed ≠ some (refOf 0 1) ∧
      (armed State.reset).ready 0x23 [0, 1] ∧ (armed State.reset).link.armed = some (refOf 0 1) ∧
      (armed State.reset).placeOfRef (refOf 0 1) = none ∧
      (armed (carried .connected .connected)).callAt 0 (callIn .connected (some 2)) ∧
      (armed (carried .connected .connected)).ready 0x23 [0, 1] :=
  ⟨reset_ready _ _, by decide, ⟨rfl, rfl⟩, by decide, rfl, ⟨rfl, rfl, rfl⟩, ⟨rfl, rfl⟩⟩

theorem witness_LineSetFollowsItsTable :
    State.reset.ready 0x11 [lineOctet 47, 2] ∧ lineServiceOf 2 = some .inService ∧
      (State.reset.lines.get 47).state = .unequipped ∧ State.reset.dir.locks.get (bankOf 47) = false ∧
      State.reset.dir.operation = none ∧ LineService.field .inService ≠ (State.reset.dir.working.get 47).service ∧
      ({ State.reset with dir := { State.reset.dir with locks := Table.fill 3 true } } : State).ready 0x11
        [lineOctet 47, 2] ∧
      (Table.fill 3 true).get (bankOf 47) = true ∧
      ({ State.reset with dir := { State.reset.dir with operation := some ⟨2, .lock, 150⟩ } } : State).ready 0x11
        [lineOctet 47, 2] ∧
      (⟨2, .lock, 150⟩ : StoreOp).bank = bankOf 47 ∧ (⟨2, .lock, 150⟩ : StoreOp).bank ≠ bankOf 0 ∧
      (∀ st, ((withLine (line st)).lines.get 0).state = st ∧ (withLine (line st)).ready 0x11 [lineOctet 0, 0]) ∧
      lineServiceOf 0 = some .unequipped ∧ State.reset.ready 0x11 [48, 2] ∧ State.reset.ready 0x11 [lineOctet 47, 3] :=
  ⟨reset_ready _ _, by decide, by decide, by decide, rfl, by decide, ⟨rfl, rfl⟩, by decide, ⟨rfl, rfl⟩, by decide,
    by decide, fun _ => ⟨rfl, rfl, rfl⟩, by decide, reset_ready _ _, reset_ready _ _⟩

theorem not_cal {g1 g0 o1 o0 : Octet} (h : calibrationOf g1 g0 o1 o0 = none) (c : Calibration) :
    ¬ c.coded g1 g0 o1 o0 := by
  simp [← calibrationOf_eq_some, h]

theorem not_image {image : List Octet} (hl : image.length = 27) (h : ∀ sv, entryOf sv image = none) (e : Entry) :
    ¬ e.coded image := fun hc => by simpa [h] using (entryOf_eq_some (sv := e.service) hl).mpr ⟨hc, rfl⟩

/-- The image of `fullEntry` with octet `i` as `o`. -/
def imageWith (i : Nat) (o : Octet) : List Octet := fullEntry.octets.set i o

/-- R53: a first character of 0x00 or a small letter, an expected code of 9255, a fourth carriageway, a chainage above
999,999, no bore in the TUNNEL zone, a bore in another, a waiting chain of 16 and a gain below 1024 are refused. -/
theorem test_images_out_of_range :
    ∀ x ∈ [(1, 0), (3, 0x61), (9, 0x24), (11, 3), (12, 0x10), (16, 0), (15, 1), (17, 16), (19, 3)],
      entryOf .unequipped (imageWith x.1 x.2) = none := by decide

theorem witness_EditsChangeTheWorkingEntry :
    (⟨1024, -200⟩ : Calibration).coded 4 0 255 56 ∧ State.reset.ready 0x13 [lineOctet 47, 0, 4, 0, 255, 56] ∧
      State.reset.ready 0x13 [lineOctet 47, 1, 4, 0, 255, 56] ∧
      State.reset.dir.locks.get (bankOf 47) = false ∧ State.reset.dir.operation = none ∧
      bankOf 47 = 2 ∧ bankOf 0 ≠ 2 ∧ (⟨2, .erase, 400⟩ : StoreOp).bank = 2 ∧
      ({ State.reset with dir := { State.reset.dir with operation := some ⟨2, .erase, 400⟩ } } : State).ready 0x13
        [lineOctet 47, 1, 4, 0, 255, 56] ∧
      ({ State.reset with dir := { State.reset.dir with locks := Table.fill 3 true } } : State).ready 0x15
        (lineOctet 0 :: fullEntry.octets) ∧
      State.reset.ready 0x15 (lineOctet 0 :: fullEntry.octets) ∧ fullEntry.octets.length = 27 ∧
      (∃ e : Entry, e.coded fullEntry.octets ∧ e.service = (State.reset.dir.working.get 0).service) ∧
      (∃ e : Entry, e.coded (imageWith 0 0) ∧ e.named = none) ∧
      State.reset.ready 0x13 [48, 0, 4, 0, 255, 56] ∧
      (∀ c : Calibration, ¬ c.coded 3 255 0 0) ∧ (∀ c : Calibration, ¬ c.coded 4 0 255 55) ∧
      State.reset.ready 0x13 [lineOctet 47, 2, 4, 0, 0, 0] ∧ State.reset.ready 0x15 (48 :: fullEntry.octets) ∧
      (∀ e : Entry, ¬ e.coded (imageWith 12 0x10)) ∧ (imageWith 12 0x10).length = 27 ∧
      State.reset.ready 0x15 (lineOctet 0 :: imageWith 12 0x10) :=
  ⟨calibrationOf_eq_some.mp (by decide), reset_ready _ _, reset_ready _ _, by decide, rfl, by decide, by decide, rfl,
    ⟨rfl, rfl⟩, ⟨rfl, rfl⟩, reset_ready _ _, by decide,
    ⟨_, (entryOf_eq_some (by decide)).mp
      (show entryOf _ fullEntry.octets =
        some { fullEntry with service := (State.reset.dir.working.get 0).service } by decide)⟩,
    ⟨_, ((entryOf_eq_some (by decide)).mp
      (show entryOf .inService (imageWith 0 0) = some { fullEntry with named := none } by decide)).1, rfl⟩,
    reset_ready _ _, not_cal (by decide), not_cal (by decide), reset_ready _ _, reset_ready _ _,
    not_image (by decide) (fun sv => by cases sv <;> decide), by decide, reset_ready _ _⟩

theorem witness_StoreRequestsStartOperations :
    (2 : Octet) = BitVec.ofNat 8 (2 : Fin 3).val ∧ State.reset.dir.operation = none ∧ State.reset.ready 0x16 [] ∧
      ({ State.reset with dir := { State.reset.dir with latch := true } } : State).ready 0x17 [2] ∧
      ({ State.reset.dir with latch := true } : Directory).latch = true ∧
      State.reset.dir.locks.get 2 = false ∧
      ({ State.reset.dir with latch := true, locks := Table.fill 3 true } : Directory).locks.get 2 = true ∧
      ({ State.reset with
        dir := { State.reset.dir with latch := true, locks := Table.fill 3 true } } : State).ready 0x18 [2] ∧
      ({ State.reset with dir := { State.reset.dir with operation := some ⟨0, .lock, 150⟩ } } : State).ready 0x18
        [2] ∧
      State.reset.ready 0x18 [3] ∧ 3 ≤ (3 : Octet).toNat ∧ State.reset.ready 0x19 [2] ∧
      State.reset.dir.latch = false :=
  ⟨by decide, rfl, reset_ready _ _, ⟨rfl, rfl⟩, rfl, by decide, by decide, ⟨rfl, rfl⟩, ⟨rfl, rfl⟩, reset_ready _ _,
    by decide, reset_ready _ _, rfl⟩

theorem witness_TrunkSetFollowsItsTable :
    State.reset.ready 0x24 [8, 0, 0] ∧ State.reset.ready 0x24 [7, 2, 0] ∧ State.reset.ready 0x24 [7, 0, 2] ∧
      State.reset.ready 0x24 [7, 1, 1] ∧
      ([7, 1, 1] : List Octet) = [BitVec.ofNat 8 (7 : TrunkNo).val, BitVec.ofNat 8 TrunkService.outOfService.number,
        BitVec.ofNat 8 TrunkGroup.overflow.number] ∧
      (State.reset.trunk 7).tableState .outOfService = some .outOfService ∧
      (State.reset.trunk 7).tableState .inService = none ∧ (State.reset.trunk 7).stack = [] ∧
      (State.reset.trunk 7).service = .inService ∧ (State.reset.trunk 7).group = .overflow ∧
      State.reset.cc.queue = [] ∧ State.reset.link.reports < 16 ∧
      (carried .connected .connected).ready 0x24 [2, 1, 1] ∧
      ((carried .connected .connected).trunk 2).state = .connected ∧
      (carried .offered .offering).ready 0x24 [2, 1, 1] ∧
      ((carried .offered .offering).trunk 2).tableState .outOfService = some .outOfService ∧
      ((carried .offered .offering).trunk 2).current = some 1 ∧
      (carried .offered .offering).callAt 0 (callIn .offered (some 2)) ∧
      ((carried .offered .offering).trunk 2).link = .up ∧ ((carried .offered .offering).trunk 2).transmit = [] ∧
      (∀ g g' : TrunkGroup, (waitingFor (agingCall 0) (outTrunk g) 0).callsPlaced ∧
        (waitingFor (agingCall 0) (outTrunk g) 0).callAt 0 (agingCall 0) ∧
        (waitingFor (agingCall 0) (outTrunk g) 0).ready 0x24 [2, 0, BitVec.ofNat 8 g'.number]) ∧
      (outTrunk .primary).tableState .inService = some .idle ∧ (outTrunk .primary).draining = false ∧
      (∀ w, w ≠ 2 → ((waitingFor (agingCall 0) (outTrunk .primary) 0).trunk w).eligible = false) ∧
      ((waitingFor (agingCall 0) (outTrunk .primary) 0).setTrunk 2
        { outTrunk .overflow with service := .inService }).mayOverflow (agingCall 0) ∧
      ({ outTrunk .primary with link := .down } : Trunk).tableState .inService = some .linkDown ∧
      (withLink { State.reset.link with output := List.replicate 16 (.report (.noTrunk 0)) }).ready 0x24 [7, 1, 1] ∧
      16 ≤ (withLink { State.reset.link with output := List.replicate 16 (.report (.noTrunk 0)) }).link.reports := by
  refine ⟨reset_ready _ _, reset_ready _ _, reset_ready _ _, reset_ready _ _, by decide, by decide, by decide,
    by decide, by decide, by decide, rfl, by decide, ⟨rfl, rfl⟩, by decide, ⟨rfl, rfl⟩, by decide, by decide,
    carried_at _ _, by decide, by decide,
    fun g _ => ⟨waitingFor_placed _ _ _ (by decide) rfl rfl (outTrunk_atRest g), ⟨rfl, rfl, rfl⟩, ⟨rfl, rfl⟩⟩,
    by decide, by decide, by decide, ?_, by decide, ⟨rfl, rfl⟩, by decide⟩
  unfold State.mayOverflow
  decide

theorem witness_TrunkQueryReturnsAndClearsCounts :
    (7 : Octet) = BitVec.ofNat 8 (7 : TrunkNo).val ∧ State.reset.ready 0x25 [7] ∧ 8 ≤ (8 : Octet).toNat ∧
      State.reset.ready 0x25 [8] := ⟨by decide, reset_ready _ _, by decide, reset_ready _ _⟩

theorem not_coded {os : List Octet} (h : chainOf os = none) (steps : List ChainStep) : ¬ chainCoded os steps := by
  simp [← chainOf_eq_some, h]

theorem witness_AnnouncementTablesAreReplaced :
    State.reset.ready 0x28 (15 :: 255 :: List.replicate 160 7) ∧ (List.replicate 160 (7 : Octet)).length = 160 ∧
      be16 15 255 ≤ 4095 ∧ Memory.wf State.reset.ap.prompt = true ∧ 4095 < be16 16 0 ∧
      State.reset.ready 0x28 (16 :: 0 :: List.replicate 160 7) ∧
      State.reset.ready 0x29 [BitVec.ofNat 8 (31 : Fin 32).val, 0, 0, 0, 8, 8] ∧ be16 0 8 ≠ 0 ∧
      be16 0 0 ≤ 4095 ∧ be16 0 0 + be16 0 8 ≤ 4096 ∧ (8 : Octet).toNat ≤ be16 0 8 ∧
      ((8 : Octet).toNat, WrapWindow.w8) ∈
        [(0, WrapWindow.whole), (8, .w8), (16, .w16), (32, .w32), (64, .w64)] ∧
      State.reset.ready 0x29 [BitVec.ofNat 8 (31 : Fin 32).val, 0, 0, 0, 0, 0] ∧ be16 0 0 = 0 ∧
      State.reset.ap.clipInUse 31 = false ∧ (announced .once 0).ap.clipInUse 31 = true ∧
      (announced .once 0).ready 0x29 [31, 0, 0, 0, 0, 0] ∧ (announced .once 0).ap.chainInUse 15 = true ∧
      State.reset.ready 0x29 [32, 0, 0, 0, 1, 0] ∧ be16 15 255 + be16 0 2 = 4097 ∧
      be16 0 8 < (16 : Octet).toNat ∧ (9 : Octet).toNat ∉ [0, 8, 16, 32, 64] ∧
      State.reset.ready 0x2A (BitVec.ofNat 8 (15 : Fin 16).val :: [31, 2, 0, 0]) ∧
      chainCoded [31, 2, 0, 0] [⟨31, .loop, 0⟩] ∧ chainCoded [0, 1, 15, 50, 31, 2, 0, 0] [⟨0, .times 15, 50⟩, ⟨31, .loop, 0⟩] ∧
      chainCoded [] [] ∧ ([31, 2, 0, 0] : List Octet).length % 4 = 0 ∧
      (∀ steps, ¬ chainCoded [32, 2, 0, 0] steps) ∧ (∀ steps, ¬ chainCoded [0, 2, 0, 0, 0, 0, 0, 0] steps) ∧
      State.reset.ready 0x2A [16] :=
  ⟨reset_ready _ _, List.length_replicate, by decide, rfl, by decide, reset_ready _ _, reset_ready _ _, by decide,
    by decide, by decide, by decide, by decide, reset_ready _ _, by decide, by decide, by decide, ⟨rfl, rfl⟩, by decide,
    reset_ready _ _, by decide, by decide, by decide, reset_ready _ _, chainOf_eq_some.mp (by decide),
    chainOf_eq_some.mp (by decide), chainOf_eq_some.mp (by decide), by decide, not_coded (by decide),
    not_coded (by decide), reset_ready _ _⟩

end Sys2Proof.Tests
end

section
/-! What a command does, said once for every command: a command other than the two of the power-on reset
is a meaning run on a part that is not held in reset, and a property that every meaning keeps is kept by every step. -/

namespace Sys2Proof.Machine

open Sys2Proof

/-- Every command but those of the power-on reset is a meaning that the running part carries out (R189). -/
theorem exec_eq_running {c : Instr} (hp : c ≠ .powerOnReset) (hr : c ≠ .powerOnResetRelease) :
    ∃ f : State → State, ∀ s, exec c s = s.running f := by
  cases c with
  | powerOnReset => exact absurd rfl hp
  | powerOnResetRelease => exact absurd rfl hr
  | _ => exact ⟨_, fun _ => rfl⟩

/-- Settles O3: every such command is run by `State.running`, which leaves a part held in reset alone. -/
theorem heldResetFreezesPart : Obligations.HeldResetFreezesPart := by
  intro c s hs hp hr
  obtain ⟨f, hf⟩ := exec_eq_running hp hr
  rw [hf, State.running_held s f hs]

/-! ### Keeping a property of the state -/

section Keeps

variable {P : State → Prop} {s t : State}

/-- What every meaning keeps, a command on the running part keeps. -/
theorem State.running_keeps {f : State → State} (hf : ∀ u, P u → P (f u)) (h : P s)
    (ht : s.running f = .next t) : P t := by
  cases hs : s.held with
  | true =>
    rw [State.running_held s f hs] at ht
    cases ht
    exact h
  | false =>
    rw [State.running_of s f hs] at ht
    cases ht
    exact hf s h

/-- What every command and the idle millisecond keep, a step keeps. -/
theorem step_keeps (hq : ∀ u q, P u → P { u with pending := q }) (hi : ∀ u, P u → P u.idle)
    (hx : ∀ c u v, P u → exec c u = .next v → P v) (h : P s) (ht : step s = .next t) : P t := by
  unfold step at ht
  split at ht
  next => cases ht; exact hi s h
  next c rest _ => exact hx c _ t (hq s rest h) ht

/-- What taking a frame and the service of it keep, taking and serving it keep (R180). -/
theorem State.serve_keeps {f : Frame} {g : State → State} (hl : ∀ u k, P u → P { u with link := k })
    (hg : ∀ u, P u → P (g u)) (h : P s) : P (s.serve f g) := by
  unfold State.serve
  split
  · exact hg _ (hl _ _ h)
  · exact h

/-- The same of a request that is not repeatable (R180, R184). -/
theorem State.serveOnce_keeps {code : Octet} {allowed : Nat → Bool} {body : List Octet} {g : State → State}
    (hl : ∀ u k, P u → P { u with link := k }) (hg : ∀ u, P u → P (g u)) (h : P s) :
    P (s.serveOnce code allowed body g) := by
  refine State.serve_keeps hl (fun u hu => ?_) h
  split
  · exact hg u hu
  · exact hl _ _ hu

/-- The same of a repeatable request (R180, R184, R185). -/
theorem State.serveRuns_keeps {code : Octet} {len : Nat} {body : List Octet} {run : List Octet → State → State}
    (hl : ∀ u k, P u → P { u with link := k }) (hr : ∀ u, P u → P (run body u)) (h : P s) :
    P (s.serveRuns code len body run) := by
  refine State.serve_keeps hl (fun u hu => ?_) h
  split
  · exact hr _ (hl _ _ hu)
  · exact hl _ _ hu

/-- The same of a PARAM SET (R180, R186). -/
theorem State.setParam_keeps {α : Type} {id : Octet} {value : List Octet} {check : List Octet → Option α}
    {apply : α → State → State} (hl : ∀ u k, P u → P { u with link := k })
    (ha : ∀ a u, P u → P (apply a u)) (h : P s) : P (s.setParam id value check apply) := by
  refine State.serve_keeps hl (fun u hu => ?_) h
  split
  · exact ha _ _ (hl _ _ hu)
  · exact hl _ _ hu

/-- What the event's removal and the action keep, taking a line event keeps (R27). -/
theorem State.takeEvent_keeps {e : LineEvent} {f : State → State}
    (he : ∀ u es, P u → P { u with events := es }) (hf : ∀ u, P u → P (f u)) (h : P s) :
    P (s.takeEvent e f) := by
  unfold State.takeEvent
  split
  · exact hf s h
  · split
    · exact hf _ (he _ _ h)
    · exact h

/-- What the request's removal and its service keep, taking a desk request keeps (R105, R107). -/
theorem State.takeDesk_keeps {u : TrunkNo} {q : DeskRequest} {f : State → State}
    (hr : ∀ v rs, P v → P (v.setTrunk u { v.trunk u with requests := rs })) (hf : ∀ v, P v → P (f v)) (h : P s) :
    P (s.takeDesk u q f) := by
  unfold State.takeDesk
  dsimp only
  split
  · split
    · exact hf s h
    · split
      · exact hf _ (hr _ _ h)
      · exact h
  · exact h

end Keeps

end Sys2Proof.Machine
end

section
/-! Line records (section 2.1) and measurement records (section 1.2) stay in their ranges under every
operation that changes one of them. -/

namespace Sys2Proof.Machine

open Sys2Proof

/-! ### Line records -/

section LineRecords

variable {x : LineRecord}

/-- A record with nothing counted is in range (R28, R43). -/
theorem LineRecord.sound_fresh (st : LineState) (fl : StickyFlags) : (LineRecord.fresh st fl).sound := by
  simp [LineRecord.sound, LineRecord.fresh]

/-- A line that collects has three digits and ten pulses at most (R30, R31). -/
theorem LineRecord.sound_collecting (h : x.sound) (hs : x.state = .collecting) :
    x.digits.length ≤ 3 ∧ x.pulses ≤ 10 := by
  obtain ⟨-, -, -, -, -, -, -, -, -, -, hc⟩ := h
  exact hc hs

/-- A line that does not enter COLLECTING keeps its counts in range. -/
theorem LineRecord.sound_enter {st : LineState} (h : x.sound) (hs : st ≠ .collecting) :
    { x with state := st }.sound := by
  obtain ⟨h1, h2, h3, h4, h5, h6, h7, h8, h9, h10, -⟩ := h
  exact ⟨h1, h2, h3, h4, h5, h6, h7, h8, h9, h10, fun hc => absurd hc hs⟩

theorem cap16_le (n : Nat) : cap16 n ≤ 65535 := Nat.min_le_right _ _

/-- The lockout count stays within its limit (R33). -/
theorem LineRecord.lockoutAfterMake_le (h : x.lockoutCount ≤ 3750) : x.lockoutAfterMake ≤ 3750 := by
  unfold LineRecord.lockoutAfterMake
  split
  · exact Nat.min_le_right _ _
  · exact h

theorem LineRecord.sound_makeRun (loop : Bool) (h : x.sound) : (x.makeRun loop).sound := by
  obtain ⟨-, -, -, h4, h5, h6, h7, h8, h9, h10, hc⟩ := h
  have hl := x.lockoutAfterMake_le h9
  unfold LineRecord.makeRun
  split
  · refine ⟨cap16_le _, Nat.zero_le _, ?_, h4, h5, h6, h7, h8, hl, h10, hc⟩
    dsimp only
    split
    · exact cap16_le _
    · exact Nat.zero_le _
  · refine ⟨(by decide : 1 ≤ 65535), Nat.zero_le _, ?_, h4, h5, h6, h7, h8, hl, h10, hc⟩
    dsimp only
    split <;> decide

theorem LineRecord.sound_breakRun (b : Band) (h : x.sound) : (x.breakRun b).sound := by
  obtain ⟨h1, h2, h3, h4, h5, h6, h7, h8, h9, h10, hc⟩ := h
  unfold LineRecord.breakRun
  split
  · split
    next hp => exact ⟨h1, hp, h3, h4, h5, h6, h7, h8, h9, h10, hc⟩
    · exact ⟨(by decide : 3 ≤ 65535), Nat.zero_le _, Nat.zero_le _, h4, h5, h6, h7, h8, Nat.zero_le _, h10, hc⟩
  · exact ⟨cap16_le _, h2, h3, h4, h5, h6, h7, h8, h9, h10, hc⟩
  · exact ⟨(by decide : 1 ≤ 65535), h2, h3, h4, h5, h6, h7, h8, Nat.zero_le _, h10, hc⟩

theorem LineRecord.sound_neutralRun (h : x.sound) : x.neutralRun.sound := by
  unfold LineRecord.neutralRun
  split
  · exact h
  · exact ⟨cap16_le _, h.2⟩

/-- The run update keeps a record in range (R25). -/
theorem LineRecord.sound_runUpdate (r : BandResult) (h : x.sound) : (x.runUpdate r).sound := by
  unfold LineRecord.runUpdate
  split
  · exact sound_makeRun true h
  · exact sound_makeRun false h
  · exact sound_breakRun _ h
  · exact sound_neutralRun h

/-- A record with other dwell and clear counts within their limit is in range. -/
theorem LineRecord.sound_dwell {d c : Nat} {k : Option FaultKind} (h : x.sound) (hd : d ≤ 250) (hc : c ≤ 250) :
    { x with dwellBand := k, dwellCount := d, clearCount := c }.sound := by
  obtain ⟨h1, h2, h3, -, -, h6⟩ := h
  exact ⟨h1, h2, h3, hd, hc, h6⟩

/-- The dwell and clear counts stay within their limit (R26). -/
theorem LineRecord.sound_dwellUpdate (r : BandResult) (h : x.sound) : (x.dwellUpdate r).sound := by
  unfold LineRecord.dwellUpdate
  split
  · split
    · exact sound_dwell h (Nat.min_le_right _ _) (Nat.zero_le _)
    · exact sound_dwell h (by decide) (Nat.zero_le _)
  · split
    · refine sound_dwell h (Nat.zero_le _) ?_
      split
      · exact Nat.min_le_right _ _
      · exact Nat.zero_le _
    · exact h
    · exact sound_dwell h (Nat.zero_le _) (Nat.zero_le _)

/-- An evaluation's result keeps a record in range (R25, R26). -/
theorem LineRecord.sound_update (r : BandResult) (h : x.sound) : (x.update r).sound :=
  sound_dwellUpdate r (sound_runUpdate r h)

/-- A band result moves no line to another state: the checks of R28 to R40 do. -/
@[simp] theorem LineRecord.update_state (x : LineRecord) (r : BandResult) : (x.update r).state = x.state := by
  have hr : (x.runUpdate r).state = x.state := by
    unfold runUpdate makeRun breakRun neutralRun
    split <;> split <;> (try split) <;> rfl
  rw [← hr]
  unfold update dwellUpdate
  split <;> split <;> rfl

/-- The ring position stays within the longer phase (R36). -/
theorem LineRecord.sound_cadence (h : x.sound) : x.cadence.sound := by
  obtain ⟨h1, h2, h3, h4, h5, h6, h7, h8, h9, -, hc⟩ := h
  unfold LineRecord.cadence
  split
  · split
    next hp => exact ⟨h1, h2, h3, h4, h5, h6, h7, h8, h9, hp, hc⟩
    · exact ⟨h1, h2, Nat.zero_le _, h4, h5, h6, h7, h8, h9, (by decide : 1 ≤ 250), hc⟩
  · split
    next hp =>
      have hp' : x.ringPosition + 1 ≤ 250 := Nat.le_trans hp (by decide)
      exact ⟨h1, h2, h3, h4, h5, h6, h7, h8, h9, hp', hc⟩
    · exact ⟨h1, h2, h3, h4, h5, h6, h7, h8, h9, (by decide : 1 ≤ 250), hc⟩

/-- The code timer of a record raised by one evaluation, up to its limit (R30). -/
theorem LineRecord.sound_codeTimer (h : x.sound) (n : Nat) :
    { x with codeTimer := min n Config.codeTimerLimit }.sound := by
  obtain ⟨h1, h2, h3, h4, h5, h6, h7, -, h9⟩ := h
  exact ⟨h1, h2, h3, h4, h5, h6, h7, Nat.min_le_right _ _, h9⟩

/-- A record of a seized line: collection begins with nothing collected (R29). -/
theorem LineRecord.sound_seized (h : x.sound) :
    { x with state := .collecting, digits := [], pulses := 0, codeTimer := 0 }.sound := by
  obtain ⟨h1, h2, h3, h4, h5, -, -, -, h9, h10, -⟩ := h
  exact ⟨h1, h2, h3, h4, h5, Nat.zero_le _, Nat.zero_le _, Nat.zero_le _, h9, h10,
    fun _ => ⟨Nat.zero_le _, Nat.zero_le _⟩⟩

/-- A line that enters another state than COLLECTING with ringing removed (R34, R37, R39). -/
theorem LineRecord.sound_stopRinging {st : LineState} (h : x.sound) (hs : st ≠ .collecting) :
    { x with state := st, ringPhase := none, ringPosition := 0 }.sound := by
  obtain ⟨h1, h2, h3, h4, h5, h6, h7, h8, h9, -, -⟩ := h
  exact ⟨h1, h2, h3, h4, h5, h6, h7, h8, h9, Nat.zero_le _, fun hc => absurd hc hs⟩

/-- The pulses of a code that goes on are ten at most (R30, check 4). -/
theorem pulseAfter_le {n len p : Nat} (h : pulseAfter n len = some p) (hn : n ≤ 10) : p ≤ 10 := by
  unfold pulseAfter at h
  split at h
  · split at h
    · cases h; omega
    · cases h
  · split at h
    · cases h
    · cases h; exact hn

/-- A record that holds up to four digits and eleven pulses, on a line that collects no more. -/
theorem LineRecord.sound_collected {st : LineState} {ds : List (Fin 10)} {p : Nat} (h : x.sound)
    (hd : ds.length ≤ 4) (hp : p ≤ 11) (hs : st = .collecting → ds.length ≤ 3 ∧ p ≤ 10) :
    { x with state := st, digits := ds, pulses := p }.sound := by
  obtain ⟨h1, h2, h3, h4, h5, -, -, h8, h9, h10, -⟩ := h
  exact ⟨h1, h2, h3, h4, h5, hd, hp, h8, h9, h10, hs⟩

/-- The checks of a COLLECTING line that goes on, or that has just received its fourth digit (R30, checks 4 and 5). -/
theorem LineRecord.sound_digitEnd {st : LineState} {p : Nat} (h : x.sound) (hd : x.digits.length ≤ 3) (hp : p ≤ 10)
    (hs : st = .collecting → ({ x with pulses := p }.digitEnd).digits.length ≤ 3) :
    { ({ x with pulses := p }.digitEnd) with state := st }.sound := by
  unfold LineRecord.digitEnd at hs ⊢
  split
  next hc =>
    rw [if_pos hc] at hs
    have hd' : (x.digits ++ [Fin.ofNat 10 (p % 10)]).length ≤ 4 := by
      rw [List.length_append]
      exact Nat.succ_le_succ hd
    exact sound_collected (x := x) h hd' (Nat.zero_le _) fun hst => ⟨hs hst, Nat.zero_le _⟩
  · exact sound_collected (x := x) h (Nat.le_succ_of_le hd) (Nat.le_succ_of_le hp) fun _ => ⟨hd, hp⟩

/-- The clear count begins anew (R39). -/
theorem LineRecord.sound_clearCount (h : x.sound) : { x with clearCount := 0 }.sound := by
  obtain ⟨h1, h2, h3, h4, -, h6⟩ := h
  exact ⟨h1, h2, h3, h4, Nat.zero_le _, h6⟩

/-- The lockout count begins anew (R34). -/
theorem LineRecord.sound_lockoutCount (h : x.sound) : { x with lockoutCount := 0 }.sound := by
  obtain ⟨h1, h2, h3, h4, h5, h6, h7, h8, -, h10⟩ := h
  exact ⟨h1, h2, h3, h4, h5, h6, h7, h8, Nat.zero_le _, h10⟩

/-- The ring cadence begins with no LOOP counted (R35). -/
theorem LineRecord.sound_startRinging (h : x.sound) :
    { x with state := .ringing, ringPhase := some .on, ringPosition := 0, loopCount := 0 }.sound := by
  obtain ⟨h1, h2, -, h4, h5, h6, h7, h8, h9, -, -⟩ := h
  exact ⟨h1, h2, Nat.zero_le _, h4, h5, h6, h7, h8, h9, Nat.zero_le _, nofun⟩

end LineRecords

/-! ### Measurement records -/

section Measurements

variable {m : Measurement}

theorem Measurement.sound_empty : Measurement.empty.sound := by
  simp [Measurement.sound, Measurement.empty, inSumRange, inCorrectedRange]

/-- A sample of twelve bits lies in the raw range (R1). -/
theorem inRawRange_toInt (v : BitVec 12) : inRawRange v.toInt := by
  have h1 := v.le_toInt
  have h2 := v.toInt_lt
  unfold inRawRange
  omega

/-- A sum of samples with one more sample (R3). -/
theorem inSumRange_add {n : Nat} {a v : Int} (h : inSumRange n a) (hv : inRawRange v) :
    inSumRange (n + 1) (a + v) := by
  unfold inSumRange inRawRange at *
  omega

/-- Stage A of eight raw samples lies in the raw range (R3). -/
theorem inRawRange_stageA {a : Int} (h : inSumRange 8 a) : inRawRange (stageA a) := by
  unfold inSumRange inRawRange stageA at *
  omega

/-- The sum of raw values is one that as many raw values can have. -/
theorem inSumRange_sum {w : List Int} (h : ∀ a ∈ w, inRawRange a) : inSumRange w.length w.sum := by
  induction w with
  | nil => simp [inSumRange]
  | cons a w ih =>
    rw [List.sum_cons, Int.add_comm, List.length_cons]
    exact inSumRange_add (ih fun b hb => h b (List.mem_cons_of_mem a hb)) (h a List.mem_cons_self)

/-- Stage B of a window of at most four raw values lies in the raw range (R4). -/
theorem inRawRange_stageB {w : List Int} (hw : ∀ a ∈ w, inRawRange a) (hl : w.length ≤ 4) :
    inRawRange (stageB w) := by
  have hs := inSumRange_sum hw
  unfold inSumRange inRawRange stageB at *
  omega

/-- A window takes a stage A value, at most four staying in it (R4). -/
theorem pushWindow_sound {w : List Int} {a : Int} (hl : w.length ≤ 4) (hw : ∀ b ∈ w, inRawRange b)
    (ha : inRawRange a) :
    (pushWindow w a).length ≤ 4 ∧ ∀ b ∈ pushWindow w a, inRawRange b := by
  unfold pushWindow
  split
  · refine ⟨by rw [List.length_append]; exact ‹w.length < 4›, fun b hb => ?_⟩
    rcases List.mem_append.mp hb with hb | hb
    · exact hw b hb
    · exact List.mem_singleton.mp hb ▸ ha
  · refine ⟨by simp; omega, fun b hb => ?_⟩
    rcases List.mem_append.mp hb with hb | hb
    · exact hw b (List.mem_of_mem_tail hb)
    · exact List.mem_singleton.mp hb ▸ ha

/-- Stage C saturates to the corrected range (R6). -/
theorem inCorrectedRange_stageC (c : Calibration) (b : Int) : inCorrectedRange (some (stageC c b)) := by
  intro x hx
  cases hx
  unfold stageC saturate
  omega

/-- The LEAK persistence count stays within its limit (R15). -/
theorem leakCountAfter_le (leak : Bool) (n : Nat) : leakCountAfter leak n ≤ 250 := by
  unfold leakCountAfter
  split
  · exact Nat.min_le_right _ _
  · exact Nat.zero_le _

/-- The eighth pair closes a group (R3). -/
theorem Measurement.addPair_closes_iff {x y : Int} :
    (m.addPair x y).groupPosition = 0 ↔ m.groupPosition = 7 := by
  change m.groupPosition + 1 = 0 ↔ _
  generalize m.groupPosition = i
  revert i
  decide

theorem Measurement.addPair_groupPosition_val {x y : Int} (h : m.groupPosition ≠ 7) :
    (m.addPair x y).groupPosition.val = m.groupPosition.val + 1 := by
  change (m.groupPosition + 1).val = _
  generalize m.groupPosition = i at *
  revert i
  decide

/-- A pair that does not close its group (R2, R3). -/
theorem Measurement.sound_addPair {x y : Int} (h : m.sound) (hx : inRawRange x) (hy : inRawRange y)
    (hp : m.groupPosition ≠ 7) : (m.addPair x y).sound := by
  obtain ⟨hl, hg, h⟩ := h
  refine ⟨?_, ?_, h⟩
  · rw [addPair_groupPosition_val hp]
    exact inSumRange_add hl hx
  · rw [addPair_groupPosition_val hp]
    exact inSumRange_add hg hy

/-- A pair that closes its group (R3, R4). -/
theorem Measurement.sound_closeGroup {x y : Int} (h : m.sound) (hx : inRawRange x) (hy : inRawRange y)
    (hp : m.groupPosition = 7) : (m.addPair x y).closeGroup.sound := by
  obtain ⟨hl, hg, hwl, hw, hvl, hv, h⟩ := h
  have h0 : (m.addPair x y).closeGroup.groupPosition.val = 0 :=
    congrArg Fin.val ((addPair_closes_iff (x := x) (y := y)).mpr hp)
  rw [hp] at hl hg
  obtain ⟨hwl', hw'⟩ := pushWindow_sound hwl hw (inRawRange_stageA (inSumRange_add hl hx))
  obtain ⟨hvl', hv'⟩ := pushWindow_sound hvl hv (inRawRange_stageA (inSumRange_add hg hy))
  have hsum : inSumRange (m.addPair x y).closeGroup.groupPosition.val 0 := by simp [h0, inSumRange]
  exact ⟨hsum, hsum, hwl', hw', hvl', hv', h⟩

/-- An evaluation (R4, R6, R15). -/
theorem Measurement.sound_evaluated {t : Thresholds} {lc gc : Calibration} (h : m.sound) :
    (m.evaluated t lc gc).sound := by
  obtain ⟨hl, hg, hwl, hw, hvl, hv, -⟩ := h
  refine ⟨hl, hg, hwl, hw, hvl, hv, fun b hb => ?_, fun b hb => ?_, inCorrectedRange_stageC _ _,
    inCorrectedRange_stageC _ _, leakCountAfter_le _ _⟩
  · cases hb
    exact inRawRange_stageB hw hwl
  · cases hb
    exact inRawRange_stageB hv hvl

/-- The record that a sample pair leaves is in range (R1–R7). -/
theorem State.measure_sound {s : State} {l : LineNo} {x y : Int} (h : (s.lmu.records.get l).sound)
    (hx : inRawRange x) (hy : inRawRange y) : (s.measure l x y).1.sound := by
  unfold State.measure
  dsimp only
  split
  next hp => exact Measurement.sound_addPair h hx hy (mt Measurement.addPair_closes_iff.mpr hp)
  next hp =>
    have hc := Measurement.sound_closeGroup h hx hy (Measurement.addPair_closes_iff.mp (not_not.mp hp))
    split
    · exact hc
    · exact Measurement.sound_evaluated hc

end Measurements

end Sys2Proof.Machine
end

section
/-! The operations of the calls, the trunks and the node controller link leave the line records and the measurement
records alone; what the LSC and the post verification do to a line record keeps it in its ranges. -/

namespace Sys2Proof.Machine

open Sys2Proof

/-! ### Operations that leave the lines and their measurement alone -/

section Frames

variable (s : State)

@[simp] theorem State.ageCall_lines_lmu (p : LineNo) :
    (s.ageCall p).lines = s.lines ∧ (s.ageCall p).lmu = s.lmu := by
  unfold State.ageCall
  split
  · exact ⟨rfl, rfl⟩
  · dsimp only
    split <;> simp

@[simp] theorem State.ageIfDue_lines_lmu (b : Bool) (p : LineNo) :
    (State.ageIfDue (s, b) p).1.lines = s.lines ∧ (State.ageIfDue (s, b) p).1.lmu = s.lmu := by
  unfold State.ageIfDue
  split
  · split <;> simp
  · exact ⟨rfl, rfl⟩

/-- The aging of every due call, one place after another (R83). -/
@[simp] theorem State.foldl_ageIfDue_lines_lmu (ps : List LineNo) (b : Bool) :
    (ps.foldl State.ageIfDue (s, b)).1.lines = s.lines ∧ (ps.foldl State.ageIfDue (s, b)).1.lmu = s.lmu := by
  induction ps generalizing s b with
  | nil => exact ⟨rfl, rfl⟩
  | cons p ps ih =>
    obtain ⟨hl, hm⟩ := ih (State.ageIfDue (s, b) p).1 (State.ageIfDue (s, b) p).2
    obtain ⟨hl', hm'⟩ := s.ageIfDue_lines_lmu b p
    exact ⟨hl.trans hl', hm.trans hm'⟩

@[simp] theorem State.setTime_lines_lmu (b : TimeBase) :
    (s.setTime b).lines = s.lines ∧ (s.setTime b).lmu = s.lmu := by
  unfold State.setTime
  dsimp only
  split <;> simp

@[simp] theorem State.pushReceive_lines_lmu (u : TrunkNo) (x : Block) :
    (s.pushReceive u x).lines = s.lines ∧ (s.pushReceive u x).lmu = s.lmu := ⟨rfl, rfl⟩

@[simp] theorem State.rescue_lines_lmu (r : CallRef) :
    (s.rescue r).lines = s.lines ∧ (s.rescue r).lmu = s.lmu := by
  unfold State.rescue
  split
  · exact ⟨rfl, rfl⟩
  · split <;> simp

@[simp] theorem State.linkLoss_lines_lmu (u : TrunkNo) :
    (s.linkLoss u).lines = s.lines ∧ (s.linkLoss u).lmu = s.lmu := by
  unfold State.linkLoss
  dsimp only
  split
  · simp
  · rw [changed_lines, changed_lmu, foldl_same State.lines _ fun s r => (s.rescue_lines_lmu r).1,
      foldl_same State.lmu _ fun s r => (s.rescue_lines_lmu r).2]
    simp

@[simp] theorem State.linkUp_lines_lmu (u : TrunkNo) :
    (s.linkUp u).lines = s.lines ∧ (s.linkUp u).lmu = s.lmu := by
  unfold State.linkUp
  dsimp only
  split <;> simp

@[simp] theorem State.badFrame_lines_lmu (u : TrunkNo) :
    (s.badFrame u).lines = s.lines ∧ (s.badFrame u).lmu = s.lmu := by
  unfold State.badFrame
  dsimp only
  split <;> simp

@[simp] theorem State.goodFrame_lines_lmu (u : TrunkNo) (f : TrunkFrame) :
    (s.goodFrame u f).lines = s.lines ∧ (s.goodFrame u f).lmu = s.lmu := by
  unfold State.goodFrame
  dsimp only
  split
  · simp
  · split <;> simp

@[simp] theorem State.resetDrained_lines_lmu (u : TrunkNo) :
    (s.resetDrained u).lines = s.lines ∧ (s.resetDrained u).lmu = s.lmu := by
  unfold State.resetDrained
  dsimp only
  split <;> exact ⟨rfl, rfl⟩

@[simp] theorem State.retrieveTop_lines_lmu (u : TrunkNo) (r : CallRef) :
    (s.retrieveTop u r).lines = s.lines ∧ (s.retrieveTop u r).lmu = s.lmu := by
  unfold State.retrieveTop
  split <;> simp

@[simp] theorem State.takeCall_lines_lmu (u : TrunkNo) (p : LineNo) (r : CallRef) :
    (s.takeCall u p r).lines = s.lines ∧ (s.takeCall u p r).lmu = s.lmu := by
  simp [State.takeCall]

@[simp] theorem State.removeTrunk_lines_lmu (u : TrunkNo) :
    (s.removeTrunk u).lines = s.lines ∧ (s.removeTrunk u).lmu = s.lmu := ⟨rfl, rfl⟩

@[simp] theorem State.reportService_lines_lmu (u : TrunkNo) :
    (s.reportService u).lines = s.lines ∧ (s.reportService u).lmu = s.lmu := by
  simp [State.reportService]

@[simp] theorem State.applyService_lines_lmu (u : TrunkNo) (v : TrunkService) :
    (s.applyService u v).lines = s.lines ∧ (s.applyService u v).lmu = s.lmu := by
  unfold State.applyService
  dsimp only
  split
  · split <;> simp
  · simp
  · simp
  · split <;> simp
  · simp

@[simp] theorem State.applyTrunkSet_lines_lmu (u : TrunkNo) (v : TrunkService) (g : TrunkGroup) :
    (s.applyTrunkSet u v g).lines = s.lines ∧ (s.applyTrunkSet u v g).lmu = s.lmu := by
  unfold State.applyTrunkSet
  dsimp only
  split <;> simp

@[simp] theorem State.clearCounts_lines_lmu (u : TrunkNo) :
    (s.clearCounts u).lines = s.lines ∧ (s.clearCounts u).lmu = s.lmu := ⟨rfl, rfl⟩

@[simp] theorem State.clearCall_lines_lmu (armed : Option CallRef) (r : CallRef) :
    (s.clearCall armed r).lines = s.lines ∧ (s.clearCall armed r).lmu = s.lmu := by
  unfold State.clearCall
  split
  · split <;> simp
  · simp

@[simp] theorem State.requestStore_lines_lmu (code : Octet) (kind : StoreKind) (body : List Octet) :
    (s.requestStore code kind body).lines = s.lines ∧ (s.requestStore code kind body).lmu = s.lmu := by
  unfold State.requestStore
  dsimp only
  split <;> simp

@[simp] theorem State.recordAndReady_lines_lmu (k : ResetKind) :
    (s.recordAndReady k).lines = s.lines ∧ (s.recordAndReady k).lmu = s.lmu := by
  simp [State.recordAndReady]

end Frames

/-! ### What changes a line or its measurement keeps both in range -/

section LinesSound

variable {s : State} {l : LineNo}

/-- The bounds are about the line records and the measurement records alone. -/
theorem State.linesSound.congr {t : State} (h : s.linesSound) (hl : t.lines = s.lines)
    (hm : t.lmu.records = s.lmu.records) : t.linesSound := fun l => by
  rw [hl, hm]
  exact h l

/-- An operation that leaves the lines and the LMU alone keeps the bounds. -/
theorem State.linesSound.frame {t : State} (h : s.linesSound) (ht : t.lines = s.lines ∧ t.lmu = s.lmu) :
    t.linesSound :=
  h.congr ht.1 (congrArg Lmu.records ht.2)

theorem State.linesSound.setLine (h : s.linesSound) {x : LineRecord} (hx : x.sound) :
    (s.setLine l x).linesSound :=
  fun k => ⟨Table.forall_set (fun k => (h k).1) l hx k, (h k).2⟩

theorem State.linesSound.mapLine (h : s.linesSound) {f : LineRecord → LineRecord}
    (hf : (s.lines.get l).sound → (f (s.lines.get l)).sound) : (s.mapLine l f).linesSound :=
  h.setLine (hf (h l).1)

theorem State.linesSound.setMeasurement (h : s.linesSound) {m : Measurement} (hm : m.sound) :
    (s.setMeasurement l m).linesSound :=
  fun k => ⟨(h k).1, Table.forall_set (fun k => (h k).2) l hm k⟩

theorem State.linesSound.clearMeasurement (h : s.linesSound) : (s.clearMeasurement l).linesSound :=
  h.setMeasurement Measurement.sound_empty

theorem State.linesSound.hand (h : s.linesSound) (e : LineEvent) : (s.hand e).linesSound := h.congr rfl rfl

theorem State.linesSound.report (h : s.linesSound) (r : Report) : (s.report r).linesSound := h.frame (by simp)

theorem State.linesSound.record (h : s.linesSound) (k : RecordKind) : (s.record k).linesSound := h.frame (by simp)

theorem State.linesSound.enter (h : s.linesSound) {st : LineState} (hs : st ≠ .collecting) :
    (s.enter l st).linesSound :=
  h.mapLine fun hx => LineRecord.sound_enter hx hs

theorem State.linesSound.stopRinging (h : s.linesSound) {st : LineState} (hs : st ≠ .collecting) :
    (s.stopRinging l st).linesSound :=
  h.mapLine fun hx => LineRecord.sound_stopRinging hx hs

/-- A sticky flag is no count (R41). -/
theorem State.linesSound.setFlag (h : s.linesSound) (f : StickyFlag) : (s.setFlag l f).linesSound := by
  unfold State.setFlag
  split
  · exact h
  · exact (h.mapLine fun hx => hx).report _

theorem State.linesSound.declareFault (h : s.linesSound) (k : FaultKind) : (s.declareFault l k).linesSound :=
  ((h.mapLine fun hx => hx).report _).record _

theorem State.linesSound.enterFault (h : s.linesSound) (k : FaultKind) : (s.enterFault l k).linesSound := by
  have hf : (s.mapLine l fun x =>
      { x with state := .fault, clearCount := 0, ringPhase := none, ringPosition := 0 }).linesSound :=
    h.mapLine fun hx =>
      LineRecord.sound_stopRinging (LineRecord.sound_clearCount hx) (by decide)
  exact (hf.declareFault k).hand _

theorem State.linesSound.clearFault (h : s.linesSound) : (s.clearFault l).linesSound := by
  unfold State.clearFault
  split
  · exact ((h.mapLine fun hx => hx).report _).record _
  · exact h

theorem State.linesSound.seize (h : s.linesSound) : (s.seize l).linesSound :=
  (h.mapLine fun hx => LineRecord.sound_seized hx).hand _

/-- Collection ends with a record that may hold a fourth digit or an eleventh pulse: the line is ACTIVE (R31). -/
theorem State.linesSound.endCollection (h : s.linesSound) {x : LineRecord} (hx : { x with state := .active }.sound)
    (code : CodeResult) : ((s.setLine l x).endCollection l code).linesSound := by
  have hs : s.linesSound → (s.setLine l { x with state := .active }).linesSound := fun h => h.setLine hx
  refine (hs h).congr ?_ rfl
  ext k
  by_cases hk : l = k
  · subst hk; simp [State.endCollection, State.enter]
  · simp [State.endCollection, State.enter, hk]

/-! ### The checks of each line state (R28–R40) -/

theorem State.linesSound.checkSettling (h : s.linesSound) (r : BandResult) : (s.checkSettling l r).linesSound := by
  unfold State.checkSettling
  dsimp only
  split
  · exact h.enterFault _
  · split
    · exact h.enter (by decide)
    · split
      · exact (h.enter (by decide)).hand _
      · exact h

theorem State.linesSound.checkIdle (h : s.linesSound) : (s.checkIdle l).linesSound := by
  unfold State.checkIdle
  dsimp only
  split
  · exact h.enterFault _
  · split
    · exact h.seize
    · exact h

/-- A COLLECTING line has ten pulses and three digits at most, so that the checks of R30 can count one more of
each before collection ends. -/
theorem State.linesSound.checkCollecting (h : s.linesSound) (hc : (s.lines.get l).state = .collecting)
    (ended : Option Nat) : (s.checkCollecting l ended).linesSound := by
  have hx := (h l).1
  obtain ⟨hd, hp⟩ := LineRecord.sound_collecting hx hc
  unfold State.checkCollecting
  dsimp only
  split
  · exact (h.enter (by decide)).hand _
  · split
    · exact h.enterFault _
    · split
      · generalize hq : (if ended.getD 0 ≤ 15 then (s.lines.get l).pulses + 1 else (s.lines.get l).pulses) = q
        have hq' : q ≤ 11 := by rw [← hq]; split <;> omega
        exact h.endCollection (x := { s.lines.get l with pulses := q })
          (LineRecord.sound_collected (x := s.lines.get l) hx (Nat.le_succ_of_le hd) hq' nofun) _
      next p hpa =>
        have hp' := pulseAfter_le hpa hp
        split
        · exact h.endCollection (LineRecord.sound_digitEnd hx hd hp' nofun) _
        next hlen =>
          split
          · exact h.endCollection (LineRecord.sound_digitEnd hx hd hp' nofun) _
          · exact h.setLine (LineRecord.sound_digitEnd hx hd hp' fun _ => by omega)

theorem State.linesSound.checkActive (h : s.linesSound) : (s.checkActive l).linesSound := by
  unfold State.checkActive
  dsimp only
  split
  · exact h.enterFault _
  · split
    · exact (h.enter (by decide)).hand _
    · exact h

theorem State.linesSound.checkLockout (h : s.linesSound) : (s.checkLockout l).linesSound := by
  unfold State.checkLockout
  dsimp only
  split
  · exact h.enterFault _
  · split
    · exact h.enter (by decide)
    · split
      · exact (h.enter (by decide)).hand _
      · exact h

theorem State.linesSound.checkRinging (h : s.linesSound) : (s.checkRinging l).linesSound := by
  unfold State.checkRinging
  dsimp only
  split
  · exact (h.stopRinging (by decide)).hand _
  · split
    · exact h.enterFault _
    · exact h

theorem State.linesSound.checkFault (h : s.linesSound) : (s.checkFault l).linesSound := by
  unfold State.checkFault
  dsimp only
  split
  · split
    · exact h.setFlag _
    · exact h.declareFault _
  · split
    · exact (h.enter (by decide)).clearFault
    · split
      · exact h.clearFault.seize
      · exact h

/-! ### Results, notices and requests of a line -/

theorem State.linesSound.declarations (h : s.linesSound) (r : EvalResult) : (s.declarations l r).linesSound := by
  unfold State.declarations
  dsimp only
  split
  · split
    · exact (h.setFlag _).setFlag _
    · exact h.setFlag _
  · split
    · exact h.setFlag _
    · exact h

/-- A flag set moves no line to another state (R41). -/
@[simp] theorem State.setFlag_state (s : State) (l k : LineNo) (f : StickyFlag) :
    ((s.setFlag l f).lines.get k).state = (s.lines.get k).state := by
  unfold State.setFlag
  split
  · rfl
  · by_cases hk : l = k
    · subst hk; simp
    · simp [hk]

@[simp] theorem State.declarations_state (s : State) (l k : LineNo) (r : EvalResult) :
    ((s.declarations l r).lines.get k).state = (s.lines.get k).state := by
  unfold State.declarations
  dsimp only
  split <;> split <;> simp

/-- A result that is acted on (R24). -/
theorem State.linesSound.actOn (h : s.linesSound) (r : EvalResult) : (s.actOn l r).linesSound := by
  have hu : ((s.declarations l r).mapLine l fun x => x.update r.band).linesSound :=
    (h.declarations r).mapLine (LineRecord.sound_update r.band)
  unfold State.actOn
  dsimp only
  split
  · exact hu.checkSettling _
  · exact hu.checkIdle
  next hc =>
    refine State.linesSound.checkCollecting (hu.mapLine fun hx => LineRecord.sound_codeTimer hx _) ?_ _
    simpa using hc
  · exact hu.checkActive
  · exact hu.checkLockout
  · exact hu.checkRinging
  · exact hu.checkFault
  · exact hu
  · exact hu

/-- The LSC takes a result (R24, R36, R44). -/
theorem State.linesSound.takeResult (h : s.linesSound) (r : EvalResult) : (s.takeResult l r).linesSound := by
  unfold State.takeResult
  split
  · exact h
  · exact h
  · dsimp only
    have hc : (s.mapLine l LineRecord.cadence).linesSound := h.mapLine LineRecord.sound_cadence
    split
    · exact hc.actOn r
    · exact hc
  · exact h.actOn r

/-- The evaluation that a sample closes, taken by the LSC. -/
theorem State.linesSound.evaluated (h : s.linesSound) {x y : BitVec 12} {m : Measurement}
    {r : Option EvalResult} (hm : s.measure l x.toInt y.toInt = (m, r)) : (s.setMeasurement l m).linesSound := by
  have := State.measure_sound (h l).2 (inRawRange_toInt x) (inRawRange_toInt y)
  rw [hm] at this
  exact h.setMeasurement this

theorem State.linesSound.evaluateWhere (h : s.linesSound) (e : LineSample)
    (due : LineRecord → EvalResult → Bool) : (s.evaluateWhere e due).linesSound := by
  rcases s.evaluateWhere_cases e due with he | ⟨m, r, hm, -, he⟩
  · rw [he]; exact h
  · rw [he]; exact (h.evaluated hm).takeResult r

/-- START RINGING (R35). -/
theorem State.linesSound.startRinging (h : s.linesSound) : (s.startRinging l).linesSound :=
  h.mapLine LineRecord.sound_startRinging

/-- CALL ENDED (R34). -/
theorem State.linesSound.takeCallEnded (h : s.linesSound) : (s.takeCallEnded l).linesSound := by
  unfold State.takeCallEnded
  dsimp only
  split
  · split
    · exact h.mapLine fun hx => LineRecord.sound_enter (LineRecord.sound_lockoutCount hx) (by decide)
    · exact h.enter (by decide)
  · split
    · exact h.mapLine fun hx => LineRecord.sound_enter (LineRecord.sound_lockoutCount hx) (by decide)
    · exact h.enter (by decide)
  · split
    · exact (h.stopRinging (by decide)).mapLine LineRecord.sound_lockoutCount
    · exact h.stopRinging (by decide)
  · exact h

/-- LINE SET (R43). -/
theorem State.linesSound.applyLineSet (h : s.linesSound) (v : LineService) : (s.applyLineSet l v).linesSound := by
  have hs : (s.setService l v.field).linesSound := h.congr rfl rfl
  unfold State.applyLineSet
  dsimp only
  generalize s.setService l v.field = t at *
  split
  · exact hs
  · exact (hs.setLine (LineRecord.sound_fresh _ _)).clearMeasurement
  · exact (hs.enter (by decide)).clearMeasurement
  · exact hs
  · exact hs.mapLine fun hx => LineRecord.sound_enter hx (by decide)
  · exact (hs.mapLine fun _ => LineRecord.sound_fresh _ _).clearMeasurement
  · exact (hs.mapLine fun _ => LineRecord.sound_fresh _ _).clearMeasurement
  · exact hs

/-- The flag that the verification of a code sets (R41, R68). -/
theorem State.linesSound.identify (h : s.linesSound) (p : LineNo) (code : ReceivedCode) (b : Bool) :
    (s.identify p code b).linesSound := by
  unfold State.identify State.flagCode
  split
  · split
    · exact (h.setFlag _).congr rfl rfl
    · exact h.congr rfl rfl
  · exact h

/-- A reset places every line with nothing counted and every measurement record empty (R19, R46, R47). -/
theorem State.linesSound_loadAndPlace (s : State) : s.loadAndPlace.linesSound := fun l => by
  simp only [State.loadAndPlace, Table.get_map, Table.get_fill]
  exact ⟨LineRecord.sound_fresh _ _, Measurement.sound_empty⟩

end LinesSound

end Sys2Proof.Machine
end

section
/-! Every command, and every step, keeps the line records and the measurement records in their ranges. -/

namespace Sys2Proof.Machine

open Sys2Proof

variable {s t : State}

/-! ### Taking a command -/

theorem State.linesSound.link (h : s.linesSound) (k : Link) : { s with link := k }.linesSound := h.congr rfl rfl

/-- A meaning on the running part. -/
theorem State.linesSound.running {f : State → State} (h : s.linesSound) (ht : s.running f = .next t)
    (hf : ∀ u, u.linesSound → (f u).linesSound) : t.linesSound :=
  State.running_keeps hf h ht

/-- A request whose service leaves the lines and the LMU alone. -/
theorem State.linesSound.serveOnce {code : Octet} {allowed : Nat → Bool} {body : List Octet} {g : State → State}
    (h : s.linesSound) (hg : ∀ u, (g u).lines = u.lines ∧ (g u).lmu = u.lmu) :
    (s.serveOnce code allowed body g).linesSound :=
  State.serveOnce_keeps (fun _ k hu => hu.link k) (fun u hu => hu.frame (hg u)) h

/-- A PARAM SET that leaves the lines and the measurement records alone. -/
theorem State.linesSound.setParam {α : Type} {id : Octet} {value : List Octet} {check : List Octet → Option α}
    {apply : α → State → State} (h : s.linesSound)
    (ha : ∀ a u, (apply a u).lines = u.lines ∧ (apply a u).lmu.records = u.lmu.records) :
    (s.setParam id value check apply).linesSound :=
  State.setParam_keeps (fun _ k hu => hu.link k) (fun a u hu => hu.congr (ha a u).1 (ha a u).2) h

/-- A repeatable request. -/
theorem State.linesSound.serveRuns {code : Octet} {len : Nat} {body : List Octet} {run : List Octet → State → State}
    (h : s.linesSound) (hr : ∀ u, u.linesSound → (run body u).linesSound) :
    (s.serveRuns code len body run).linesSound :=
  State.serveRuns_keeps (fun _ k hu => hu.link k) hr h

/-- A line event. -/
theorem State.linesSound.takeEvent {e : LineEvent} {f : State → State} (h : s.linesSound)
    (hf : ∀ u, u.linesSound → (f u).linesSound) : (s.takeEvent e f).linesSound :=
  State.takeEvent_keeps (fun _ _ hu => hu.congr rfl rfl) hf h

/-- A desk request. -/
theorem State.linesSound.takeDesk {u : TrunkNo} {q : DeskRequest} {f : State → State} (h : s.linesSound)
    (hf : ∀ v, v.linesSound → (f v).linesSound) : (s.takeDesk u q f).linesSound :=
  State.takeDesk_keeps (fun _ _ hv => hv.congr rfl rfl) hf h

/-! ### Requests about a line, run by run (R184) -/

theorem State.linesSound.answerRun (h : s.linesSound) (code line : Octet) (r : Result) (v : ReplyValues) :
    (s.answerRun code line r v).linesSound := h.congr rfl rfl

theorem State.linesSound.runLineQuery (h : s.linesSound) (body : List Octet) : (s.runLineQuery body).linesSound := by
  unfold State.runLineQuery
  split
  · split
    · exact h.answerRun _ _ _ _
    · dsimp only
      split
      · exact h.answerRun _ _ _ _
      · exact (h.answerRun _ _ _ _).mapLine fun hx => hx
  · exact h

theorem State.linesSound.runLineSet (h : s.linesSound) (body : List Octet) : (s.runLineSet body).linesSound := by
  unfold State.runLineSet
  split
  · split
    · split
      · exact h.answerRun _ _ _ _
      · exact (h.answerRun _ _ _ _).applyLineSet _
    · exact h.answerRun _ _ _ _
  · exact h

theorem State.linesSound.runLineTest (h : s.linesSound) (body : List Octet) : (s.runLineTest body).linesSound := by
  unfold State.runLineTest
  split
  · split <;> exact h.answerRun _ _ _ _
  · exact h

theorem State.linesSound.runCalSet (h : s.linesSound) (body : List Octet) : (s.runCalSet body).linesSound := by
  unfold State.runCalSet
  split
  · split
    · split
      · exact h.answerRun _ _ _ _
      · exact h.congr rfl rfl
    · exact h.answerRun _ _ _ _
  · exact h

theorem State.linesSound.runDirRead (h : s.linesSound) (body : List Octet) : (s.runDirRead body).linesSound := by
  unfold State.runDirRead
  split
  · split <;> exact h.answerRun _ _ _ _
  · exact h

theorem State.linesSound.runAgain (h : s.linesSound) (code : Octet) (body : List Octet) :
    (s.runAgain code body).linesSound := by
  unfold State.runAgain
  split
  · exact h.runLineQuery body
  · exact h.runLineSet body
  · exact h.runLineTest body
  · exact h.runCalSet body
  · exact h.runDirRead body
  · exact h

/-- The next run of a repetition, or the end of the service (R180, R185). -/
theorem State.linesSound.afterReply (h : s.linesSound) (r : Reply) : (s.afterReply r).linesSound := by
  unfold State.afterReply
  split
  · exact h
  · split
    · exact h.link _
    · split
      · exact State.linesSound.runAgain (h.link _) _ _
      · exact h.link _

/-! ### Calls that touch a line -/

theorem State.linesSound.connectTrunk (h : s.linesSound) (u : TrunkNo) (r : CallRef) :
    (s.connectTrunk u r).linesSound := h.congr rfl rfl

theorem State.linesSound.sendIdent (h : s.linesSound) (u : TrunkNo) (p : LineNo) : (s.sendIdent u p).linesSound :=
  h.frame (by simp)

theorem State.linesSound.addCall (h : s.linesSound) (p : LineNo) (c : Call) : (s.addCall p c).linesSound :=
  h.congr rfl rfl

theorem State.linesSound.enterWaiting (h : s.linesSound) (p : LineNo) : (s.enterWaiting p).linesSound :=
  h.frame (by simp)

theorem State.linesSound.changed (h : s.linesSound) : s.changed.linesSound := h.frame (by simp)

/-- A call made WAITING at once on a line (R77). -/
theorem State.linesSound.openWaiting (h : s.linesSound) (l : LineNo) : (s.openWaiting l).linesSound := by
  unfold State.openWaiting
  split
  next p _ _ =>
    exact (((h.addCall p _).identify p _ _).enterWaiting p).changed
  · exact h

/-- A callback rings its post (R136). -/
theorem State.linesSound.ringPost (h : s.linesSound) (u : TrunkNo) (l : LineNo) : (s.ringPost u l).linesSound := by
  unfold State.ringPost
  split
  · exact h
  · exact (((h.startRinging.addCall _ _).identify _ _ _).connectTrunk _ _).sendIdent _ _

theorem State.linesSound.callBack (h : s.linesSound) (u : TrunkNo) (l : LineNo) (q : DeskRequest) :
    (s.callBack u l q).linesSound := by
  have hr (r : Reason) : (s.refuse u q r).linesSound := h.frame (by simp)
  unfold State.callBack
  split
  · exact hr _
  · exact hr _
  · exact hr _
  · exact hr _
  · split
    · split
      · exact h
      · split
        · exact h.frame (by simp)
        · exact h.frame (by simp)
        · exact hr _
        · exact hr _
    · split
      · exact h.ringPost u l
      · exact hr _

/-! ### Resets -/

theorem State.linesSound_powerOn (s : State) : s.powerOn.linesSound := fun l => by
  simp only [State.powerOn, State.heldInReset, Table.get_fill]
  exact ⟨LineRecord.sound_fresh _ _, Measurement.sound_empty⟩

theorem State.linesSound.recordAndReady (h : s.linesSound) (k : ResetKind) : (s.recordAndReady k).linesSound :=
  h.frame (by simp)

/-! ### The commands -/

/-- Every command keeps the bounds: most leave the lines and the LMU alone, the others go through the operations
above. -/
theorem exec_linesSound (c : Instr) (h : s.linesSound) (hx : exec c s = .next t) : t.linesSound := by
  unfold exec at hx
  cases c with
  | powerOnReset =>
    cases hx
    exact s.linesSound_powerOn
  | powerOnResetRelease =>
    cases hx
    split
    · exact (State.linesSound_loadAndPlace _).recordAndReady _
    · exact h
  | samplePair l x y =>
    refine h.running hx fun u hu => ?_
    split
    · exact hu
    · split
      next hm => exact hu.evaluated hm
      next hm => exact (hu.evaluated hm).takeResult _
  | codeTimerExpiry e => exact h.running hx fun u hu => hu.evaluateWhere _ _
  | lockoutCountExpiry e => exact h.running hx fun u hu => hu.evaluateWhere _ _
  | ringPhaseChange e => exact h.running hx fun u hu => hu.evaluateWhere _ _
  | seizure l =>
    refine h.running hx fun u hu => hu.takeEvent fun v hv => ?_
    split
    · exact hv.addCall _ _
    · exact hv
  | codeResult l code =>
    refine h.running hx fun u hu => hu.takeEvent fun v hv => ?_
    split
    · split
      · exact ((hv.identify _ _ _).enterWaiting _).changed
      · exact hv
    · exact hv
  | offHookAtStart l => exact h.running hx fun u hu => hu.takeEvent fun v hv => hv.openWaiting l
  | lockoutExpiry l => exact h.running hx fun u hu => hu.takeEvent fun v hv => hv.openWaiting l
  | hangUp l =>
    refine h.running hx fun u hu => hu.takeEvent fun v hv => hv.frame ?_
    split
    · split <;> simp
    · simp
  | lineLost l =>
    refine h.running hx fun u hu => hu.takeEvent fun v hv => hv.frame ?_
    split <;> simp
  | lineFault l kind =>
    refine h.running hx fun u hu => hu.takeEvent fun v hv => hv.frame ?_
    split <;> simp
  | answered l =>
    refine h.running hx fun u hu => hu.takeEvent fun v hv => hv.frame ?_
    split
    · split
      · split <;> simp
      · simp
    · simp
  | callEnded l => exact h.running hx fun u hu => State.linesSound.takeCallEnded (hu.congr rfl rfl)
  | aging r =>
    refine h.running hx fun u hu => hu.frame ?_
    split
    · split
      · split
        · split <;> simp
        · simp
      · simp
    · simp
  | trunkFrameReceived u f =>
    refine h.running hx fun v hv => hv.frame ?_
    split
    · split <;> simp
    · simp
  | trunkFrameSent u => exact h.running hx fun v hv => hv.congr rfl rfl
  | accept u r =>
    refine h.running hx fun v hv => hv.takeDesk fun w hw => hw.frame ?_
    dsimp only
    split
    · split <;> simp
    · simp
  | decline u r =>
    refine h.running hx fun v hv => hv.takeDesk fun w hw => hw.frame ?_
    dsimp only
    split <;> simp
  | release u r =>
    refine h.running hx fun v hv => hv.takeDesk fun w hw => hw.frame ?_
    dsimp only
    split
    · split <;> simp
    · simp
  | hold u r =>
    refine h.running hx fun v hv => hv.takeDesk fun w hw => hw.frame ?_
    split <;> simp
  | retrieve u =>
    refine h.running hx fun v hv => hv.takeDesk fun w hw => hw.frame ?_
    dsimp only
    split
    · simp
    · simp
    · simp
    · split <;> simp
    · simp
  | identRequest u r =>
    refine h.running hx fun v hv => hv.takeDesk fun w hw => hw.frame ?_
    dsimp only
    split
    · split <;> simp
    · simp
  | callback u line =>
    refine h.running hx fun v hv => hv.takeDesk fun w hw => ?_
    split
    · exact hw.frame (by simp)
    · split
      · exact hw.callBack _ _ _
      · exact hw.frame (by simp)
  | offerTimerExpiry u =>
    refine h.running hx fun v hv => hv.frame ?_
    dsimp only
    split
    · split <;> simp
    · simp
  | guardTimerExpiry u =>
    refine h.running hx fun v hv => hv.frame ?_
    dsimp only
    split <;> simp
  | holdReminder r =>
    refine h.running hx fun v hv => hv.frame ?_
    split
    · split
      · split
        · split <;> simp
        · simp
      · simp
    · simp
  | minimumHoldServed r =>
    refine h.running hx fun v hv => hv.frame ?_
    split
    · split
      · split <;> simp
      · simp
    · simp
  | preemptionTimerExpiry r =>
    refine h.running hx fun v hv => hv.frame ?_
    split
    · split <;> simp
    · simp
  | ringingTimeout r =>
    refine h.running hx fun v hv => hv.frame ?_
    split
    · split <;> simp
    · simp
  | audioBlockTick bs => exact h.running hx fun v hv => hv.congr rfl rfl
  | secondPulse => exact h.running hx fun v hv => hv.frame (by simp)
  | pulseWatchdogExpiry =>
    refine h.running hx fun v hv => hv.frame ?_
    split
    · split <;> simp
    · simp
  | storeCompletionDone =>
    refine h.running hx fun v hv => hv.frame ?_
    split
    · split <;> simp
    · simp
  | storeCompletionFault =>
    refine h.running hx fun v hv => hv.frame ?_
    split
    · split <;> simp
    · simp
  | frameReceived os => exact h.running hx fun v hv => hv.link _
  | interOctetTimeout => exact h.running hx fun v hv => hv.link _
  | replySent =>
    refine h.running hx fun v hv => ?_
    split
    · exact State.linesSound.afterReply (hv.link _) _
    · exact hv
  | unknownRequest code body =>
    refine h.running hx fun v hv => ?_
    split
    · exact State.serve_keeps (fun _ k hu => hu.link k) (fun _ hu => hu.link _) hv
    · exact hv
  | status body => exact h.running hx fun v hv => hv.serveOnce fun w => by simp
  | paramSetThresholdSet setB value =>
    refine h.running hx fun v hv => hv.setParam fun a w => ?_
    dsimp only
    split <;> exact ⟨rfl, rfl⟩
  | paramSetAgingPeriod value =>
    refine h.running hx fun v hv => hv.setParam fun a w => ?_
    dsimp only
    split <;> simp
  | paramSetEscalationThreshold value => exact h.running hx fun v hv => hv.setParam fun a w => by simp
  | paramSetOfferTime value => exact h.running hx fun v hv => hv.setParam fun a w => ⟨rfl, rfl⟩
  | paramSetGuardTime value => exact h.running hx fun v hv => hv.setParam fun a w => ⟨rfl, rfl⟩
  | paramSetMinimumHold value => exact h.running hx fun v hv => hv.setParam fun a w => by simp
  | paramSetHoldChain value => exact h.running hx fun v hv => hv.setParam fun a w => ⟨rfl, rfl⟩
  | paramSetWarningChain value => exact h.running hx fun v hv => hv.setParam fun a w => ⟨rfl, rfl⟩
  | paramSetJournalThreshold value => exact h.running hx fun v hv => hv.setParam fun a w => ⟨rfl, rfl⟩
  | paramQuery body => exact h.running hx fun v hv => hv.serveOnce fun w => ⟨rfl, rfl⟩
  | lineQuery body => exact h.running hx fun v hv => hv.serveRuns fun w hw => hw.runLineQuery body
  | lineSet body => exact h.running hx fun v hv => hv.serveRuns fun w hw => hw.runLineSet body
  | lineTest body => exact h.running hx fun v hv => hv.serveRuns fun w hw => hw.runLineTest body
  | calSet body => exact h.running hx fun v hv => hv.serveRuns fun w hw => hw.runCalSet body
  | dirRead body => exact h.running hx fun v hv => hv.serveRuns fun w hw => hw.runDirRead body
  | dirWrite body =>
    refine h.running hx fun v hv => hv.serveOnce fun w => ?_
    split
    · split
      · simp
      · split
        · simp
        · split <;> simp
    · simp
  | dirEnable body =>
    refine h.running hx fun v hv => hv.serveOnce fun w => ?_
    split <;> simp
  | dirCommit body => exact h.running hx fun v hv => hv.serveOnce fun w => by simp
  | dirLock body => exact h.running hx fun v hv => hv.serveOnce fun w => by simp
  | dirErase body => exact h.running hx fun v hv => hv.serveOnce fun w => by simp
  | callList body =>
    refine h.running hx fun v hv => hv.serveOnce fun w => ?_
    split
    · split <;> simp
    · simp
  | callQuery body =>
    refine h.running hx fun v hv => hv.serveOnce fun w => ?_
    split
    · split
      · simp
      · split <;> simp
    · simp
  | clearArm body =>
    refine h.running hx fun v hv => hv.serveOnce fun w => ?_
    split
    · split
      · simp
      · split <;> simp
    · simp
  | clearCall body =>
    refine h.running hx fun v hv => hv.serveOnce fun w => ?_
    split <;> simp
  | trunkSet body =>
    refine h.running hx fun v hv => hv.serveOnce fun w => ?_
    split
    · split
      · split <;> simp
      · simp
    · simp
  | trunkQuery body =>
    refine h.running hx fun v hv => hv.serveOnce fun w => ?_
    split
    · split <;> simp
    · simp
  | promptWrite body =>
    refine h.running hx fun v hv => hv.serveOnce fun w => ?_
    split
    · split <;> exact ⟨rfl, rfl⟩
    · simp
  | clipSet body =>
    refine h.running hx fun v hv => hv.serveOnce fun w => ?_
    split
    · split
      · split <;> simp
      · simp
    · simp
  | chainSet body =>
    refine h.running hx fun v hv => hv.serveOnce fun w => ?_
    split
    · split
      · split <;> simp
      · simp
    · simp
  | journalRead body =>
    refine h.running hx fun v hv => hv.serveOnce fun w => ?_
    split
    · split <;> simp
    · simp
  | timeSet body =>
    refine h.running hx fun v hv => hv.serveOnce fun w => ?_
    split <;> simp
  | timeQuery body => exact h.running hx fun v hv => hv.serveOnce fun w => ⟨rfl, rfl⟩
  | repeatPrefix body =>
    refine h.running hx fun v hv => hv.serveOnce fun w => ?_
    split
    · split <;> simp
    · simp
  | reset body =>
    refine h.running hx fun v hv => State.serveOnce_keeps (fun _ k hu => hu.link k) (fun w hw => ?_) hv
    split
    · exact (State.linesSound_loadAndPlace _).recordAndReady _
    · exact hw.link _
  | trunkResetAfterDrain u =>
    refine h.running hx fun v hv => hv.frame ?_
    split <;> simp
  | reportSent =>
    refine h.running hx fun v hv => hv.frame ?_
    split <;> simp
  | startOctetReceived => exact h.running hx fun v hv => hv.link _
  | internalSecondBoundary =>
    refine h.running hx fun v hv => hv.frame ?_
    split <;> simp

/-- Settles O8: every command keeps the bounds, and the idle millisecond touches no line. -/
theorem stepKeepsLineRecords : Obligations.StepKeepsLineRecords := by
  intro s t h ht
  refine step_keeps (fun u q hu => hu.congr rfl rfl) (fun u hu => ?_) (fun c u v hu => exec_linesSound c hu) h ht
  unfold State.idle
  split
  · exact hu
  · exact hu.congr rfl rfl

end Sys2Proof.Machine
end

section
/-! Sample pairs and evaluations (sections 1.3 and 1.4): what a pair does to its group, when it closes an evaluation,
and what the LSC leaves alone when it takes the result. -/

namespace Sys2Proof.Machine

open Sys2Proof

/-! ### The stages as the rules write them -/

/-- A division by a power of 2, rounded down, is an arithmetic right shift. -/
theorem div_two_pow_eq_shiftRight (a : Int) (n : Nat) : a / 2 ^ n = a >>> (n : Int) := by
  rw [Int.shiftRight_natCast_right, Int.shiftRight_eq_div_pow]
  norm_cast

theorem stageA_eq_shift (a : Int) : stageA a = (a + 4) >>> 3 := div_two_pow_eq_shiftRight _ 3

theorem stageB_eq_shift (w : List Int) : stageB w = (w.sum + 2) >>> 2 := div_two_pow_eq_shiftRight _ 2

theorem stageC_eq_shift (c : Calibration) (b : Int) :
    stageC c b = max (-1000) (min 1000 ((b * c.gain + 2048) >>> 12 + c.offset)) :=
  congrArg (fun q => saturate (q + c.offset)) (div_two_pow_eq_shiftRight _ 12)

/-- The over-range marker after a pair (R2). -/
theorem clipped_or (b : Bool) (x y : Int) :
    (b || clipped x || clipped y) = (b || decide (x = -2048 ∨ x = 2047 ∨ y = -2048 ∨ y = 2047)) := by
  simp [clipped, Bool.or_assoc]

/-- A window that is not full grows (R4). -/
theorem pushWindow_of_lt {w : List Int} (h : w.length < 4) (a : Int) : pushWindow w a = w ++ [a] := if_pos h

/-- With at least three values before it, a value and the latest three make the window (R4). -/
theorem pushWindow_eq_drop {w : List Int} (h : 3 ≤ w.length) (h4 : w.length ≤ 4) (a : Int) :
    pushWindow w a = w.drop (w.length - 3) ++ [a] := by
  unfold pushWindow
  split
  next hl =>
    have : w.length - 3 = 0 := by omega
    rw [this, List.drop_zero]
  next hl =>
    have : w.length - 3 = 1 := by omega
    rw [this, List.drop_one]

/-- A gap keeps the band remembered (R9, R10). -/
theorem classify_eq_ite (t : Thresholds) (b : Option Band) (x : Int) :
    classify t b x = if t.bandOf x = none then b else t.bandOf x := by
  unfold classify
  split <;> simp [*]

/-- The LEAK persistence count after the LEAK test, by the ground value (R14, R15). -/
theorem leakCountAfter_leakAfter (b : Bool) (g : Int) (n : Nat) :
    leakCountAfter (leakAfter b g) n =
      if 50 ≤ g.natAbs ∨ 30 < g.natAbs ∧ b = true then min (n + 1) 250 else 0 := by
  unfold leakAfter
  by_cases h50 : 50 ≤ g.natAbs
  · simp [leakCountAfter, h50, Config.leakLimit]
  · by_cases h30 : g.natAbs ≤ 30
    · simp [leakCountAfter, h50, h30, Nat.not_lt.mpr h30]
    · simp [leakCountAfter, h50, h30, Nat.lt_of_not_le h30, Config.leakLimit]

/-- The threshold set an entry chooses (R7). -/
theorem Lmu.thresholds_eq_ite (u : Lmu) (c : SetChoice) :
    u.thresholds c = if c = .a then u.setA else u.setB := by
  cases c <;> rfl

/-! ### Which pair closes a group, and which an evaluation -/

section Measure

variable {s : State} {l : LineNo} {x y : Int}

/-- A pair that does not close its group (R3). -/
theorem State.measure_open (h : (s.lmu.records.get l).groupPosition.val < 7) :
    s.measure l x y = ((s.lmu.records.get l).addPair x y, none) := by
  have hp : ((s.lmu.records.get l).addPair x y).groupPosition ≠ 0 :=
    mt Measurement.addPair_closes_iff.mp fun h7 => by simp [h7] at h
  simp [State.measure, hp]

/-- A pair that closes its group is followed by stage A; an evaluation follows it once the windows are full
(R3, R4, R5). -/
theorem State.measure_closed (h : (s.lmu.records.get l).groupPosition = 7) :
    s.measure l x y =
      let m := ((s.lmu.records.get l).addPair x y).closeGroup
      if m.loopWindow.length < 4 then (m, none)
      else
        let m' := m.evaluated (s.lmu.thresholds (s.dir.working.get l).thresholdSet) (s.dir.working.get l).loopCal
          (s.dir.working.get l).groundCal
        (m', some (evalResult m m')) := by
  have hp := (Measurement.addPair_closes_iff (x := x) (y := y)).mpr h
  simp [State.measure, hp]

end Measure

/-! ### SAMPLE_PAIR by the line's state and the pair's place (R20) -/

section SamplePair

variable {s : State} {l : LineNo} {x y : BitVec 12}

theorem exec_samplePair_unequipped (hs : s.held = false) (hl : (s.lines.get l).state = .unequipped) :
    exec (.samplePair l x y) s = .next s := by
  simp [exec, execSamplePair, hs, hl]

theorem exec_samplePair_open {m : Measurement} (hs : s.held = false) (hl : (s.lines.get l).state ≠ .unequipped)
    (hm : s.measure l x.toInt y.toInt = (m, none)) :
    exec (.samplePair l x y) s = .next (s.setMeasurement l m) := by
  simp [exec, execSamplePair, hs, hl, hm]

theorem exec_samplePair_evaluation {m : Measurement} {r : EvalResult} (hs : s.held = false)
    (hl : (s.lines.get l).state ≠ .unequipped) (hm : s.measure l x.toInt y.toInt = (m, some r)) :
    exec (.samplePair l x y) s = .next ((s.setMeasurement l m).takeResult l r) := by
  simp [exec, execSamplePair, hs, hl, hm]

/-- Every pair of a measured line takes the next place of its group (R3). -/
theorem State.measure_groupPosition (s : State) (l : LineNo) (x y : Int) :
    (s.measure l x y).1.groupPosition = (s.lmu.records.get l).groupPosition + 1 := by
  unfold State.measure
  dsimp only
  split
  · rfl
  · split <;> rfl

/-- The LSC acts on no result of an OUT OF SERVICE line (R24, R44). -/
theorem State.takeResult_outOfService {r : EvalResult} (hl : (s.lines.get l).state = .outOfService) :
    s.takeResult l r = s := by
  simp [State.takeResult, hl]

/-- Settles O17: by the line's state and the pair's place in its group, with the window lengths after stage A. -/
theorem samplePairIsMeasured : Obligations.SamplePairIsMeasured := by
  refine ⟨fun s l x y m ranged hs hm hr => ?_, fun s l x y hs hl => ?_⟩
  · subst hm hr
    refine ⟨exec_samplePair_unequipped hs, fun hl h7 => ?_, fun hl h7 hw hg => ?_⟩
    · rw [exec_samplePair_open hs hl (State.measure_open h7), ← clipped_or]
      rfl
    · have hw' : (s.lmu.records.get l).loopWindow.length < 4 := Nat.lt_of_lt_of_le hw (by decide)
      have hg' : (s.lmu.records.get l).groundWindow.length < 4 := Nat.lt_of_lt_of_le hg (by decide)
      have hm : s.measure l x.toInt y.toInt =
          (((s.lmu.records.get l).addPair x.toInt y.toInt).closeGroup, none) := by
        rw [State.measure_closed h7]
        refine if_pos ?_
        simp only [Measurement.closeGroup, Measurement.addPair, pushWindow_of_lt hw', List.length_append]
        exact Nat.succ_lt_succ hw
      rw [exec_samplePair_open hs hl hm, ← clipped_or]
      simp only [Measurement.closeGroup, Measurement.addPair, pushWindow_of_lt hw', pushWindow_of_lt hg',
        stageA_eq_shift, h7]
      rfl
  · have hu : (s.lines.get l).state ≠ .unequipped := by simp [hl]
    have ht : exec (.samplePair l x y) s = .next (s.setMeasurement l (s.measure l x.toInt y.toInt).1) := by
      cases hm : s.measure l x.toInt y.toInt with
      | mk m r =>
        cases r with
        | none => exact exec_samplePair_open hs hu hm
        | some r =>
          rw [exec_samplePair_evaluation hs hu hm]
          exact congrArg Host.Outcome.next (State.takeResult_outOfService hl)
    exact ⟨_, ht, by simp, by simp [State.measure_groupPosition]⟩

end SamplePair

/-! ### What the LSC writes -/

/-- The state beside what the LSC writes when it takes a result: the line records, the events on their way, the journal
and the node controller link. -/
def State.besideLsc (s : State) : State :=
  { s with
    lines := Table.fill 48 (LineRecord.fresh .unequipped StickyFlags.clear), events := []
    journal := Journal.initial, link := Link.initial }

section BesideLsc

variable (s : State) (l : LineNo)

@[simp] theorem State.setLine_besideLsc (x : LineRecord) : (s.setLine l x).besideLsc = s.besideLsc := rfl
@[simp] theorem State.mapLine_besideLsc (f : LineRecord → LineRecord) :
    (s.mapLine l f).besideLsc = s.besideLsc := rfl
@[simp] theorem State.hand_besideLsc (e : LineEvent) : (s.hand e).besideLsc = s.besideLsc := rfl
@[simp] theorem State.enter_besideLsc (st : LineState) : (s.enter l st).besideLsc = s.besideLsc := rfl
@[simp] theorem State.stopRinging_besideLsc (st : LineState) : (s.stopRinging l st).besideLsc = s.besideLsc := rfl
@[simp] theorem State.seize_besideLsc : (s.seize l).besideLsc = s.besideLsc := rfl
@[simp] theorem State.endCollection_besideLsc (c : CodeResult) : (s.endCollection l c).besideLsc = s.besideLsc := rfl

@[simp] theorem State.report_besideLsc (r : Report) : (s.report r).besideLsc = s.besideLsc := by
  unfold State.report
  split <;> rfl

@[simp] theorem State.record_besideLsc (k : RecordKind) : (s.record k).besideLsc = s.besideLsc := by
  unfold State.record
  split
  · rfl
  · dsimp only
    split
    · rw [report_besideLsc]
      rfl
    · rfl

@[simp] theorem State.setFlag_besideLsc (f : StickyFlag) : (s.setFlag l f).besideLsc = s.besideLsc := by
  unfold State.setFlag
  split <;> simp

@[simp] theorem State.declareFault_besideLsc (k : FaultKind) : (s.declareFault l k).besideLsc = s.besideLsc := by
  simp [State.declareFault]

@[simp] theorem State.enterFault_besideLsc (k : FaultKind) : (s.enterFault l k).besideLsc = s.besideLsc := by
  simp [State.enterFault]

@[simp] theorem State.clearFault_besideLsc : (s.clearFault l).besideLsc = s.besideLsc := by
  unfold State.clearFault
  split <;> simp

@[simp] theorem State.checkSettling_besideLsc (r : BandResult) : (s.checkSettling l r).besideLsc = s.besideLsc := by
  unfold State.checkSettling
  dsimp only
  split
  · simp
  · split
    · simp
    · split <;> simp

@[simp] theorem State.checkIdle_besideLsc : (s.checkIdle l).besideLsc = s.besideLsc := by
  unfold State.checkIdle
  dsimp only
  split
  · simp
  · split <;> simp

@[simp] theorem State.checkCollecting_besideLsc (n : Option Nat) :
    (s.checkCollecting l n).besideLsc = s.besideLsc := by
  unfold State.checkCollecting
  dsimp only
  split
  · simp
  · split
    · simp
    · split
      · simp
      · split
        · simp
        · split <;> simp

@[simp] theorem State.checkActive_besideLsc : (s.checkActive l).besideLsc = s.besideLsc := by
  unfold State.checkActive
  dsimp only
  split
  · simp
  · split <;> simp

@[simp] theorem State.checkLockout_besideLsc : (s.checkLockout l).besideLsc = s.besideLsc := by
  unfold State.checkLockout
  dsimp only
  split
  · simp
  · split
    · simp
    · split <;> simp

@[simp] theorem State.checkRinging_besideLsc : (s.checkRinging l).besideLsc = s.besideLsc := by
  unfold State.checkRinging
  dsimp only
  split
  · simp
  · split <;> simp

@[simp] theorem State.checkFault_besideLsc : (s.checkFault l).besideLsc = s.besideLsc := by
  unfold State.checkFault
  dsimp only
  split
  · split <;> simp
  · split
    · simp
    · split <;> simp

@[simp] theorem State.declarations_besideLsc (r : EvalResult) : (s.declarations l r).besideLsc = s.besideLsc := by
  unfold State.declarations
  dsimp only
  split <;> split <;> simp

@[simp] theorem State.actOn_besideLsc (r : EvalResult) : (s.actOn l r).besideLsc = s.besideLsc := by
  unfold State.actOn
  dsimp only
  split <;> simp

/-- The LSC writes nothing else when it takes a result (R24). -/
@[simp] theorem State.takeResult_besideLsc (r : EvalResult) : (s.takeResult l r).besideLsc = s.besideLsc := by
  unfold State.takeResult
  split
  · rfl
  · rfl
  · dsimp only
    split <;> simp
  · simp

/-- The LSC leaves the LMU alone when it takes a result (R24). -/
@[simp] theorem State.takeResult_lmu (r : EvalResult) : (s.takeResult l r).lmu = s.lmu := by
  change (s.takeResult l r).besideLsc.lmu = s.besideLsc.lmu
  rw [takeResult_besideLsc]

end BesideLsc

/-! ### The evaluation -/

/-- The record that a closing pair leaves, each value as its rule gives it (R3–R7, R9, R10, R14–R16). -/
theorem Measurement.evaluated_closing {m : Measurement} {x y : Int} {t : Thresholds} {lc gc : Calibration}
    {v w : List Int} (h7 : m.groupPosition = 7)
    (hv : pushWindow m.loopWindow ((m.loopSum + x + 4) >>> 3) = v)
    (hw : pushWindow m.groundWindow ((m.groundSum + y + 4) >>> 3) = w) :
    ((m.addPair x y).closeGroup).evaluated t lc gc =
      { groupPosition := 0, loopSum := 0, groundSum := 0, loopWindow := v, groundWindow := w
        loopB := some (stageB v), groundB := some (stageB w)
        loopC := some (stageC lc (stageB v)), groundC := some (stageC gc (stageB w))
        bandMemory := classify t m.bandMemory (stageC lc (stageB v))
        bandResult := some (bandResultOf (classify t m.bandMemory (stageC lc (stageB v))))
        leak := leakAfter m.leak (stageC gc (stageB w))
        leakCount := leakCountAfter (leakAfter m.leak (stageC gc (stageB w))) m.leakCount
        overRange := false } := by
  have hv' : ((m.addPair x y).closeGroup).loopWindow = v := by
    rw [← hv, ← stageA_eq_shift]; rfl
  have hw' : ((m.addPair x y).closeGroup).groundWindow = w := by
    rw [← hw, ← stageA_eq_shift]; rfl
  have hp : ((m.addPair x y).closeGroup).groupPosition = 0 :=
    (Measurement.addPair_closes_iff (x := x) (y := y)).mpr h7
  simp only [Measurement.evaluated, hv', hw', hp]
  rfl

/-- Settles O18: the closing pair's evaluation is the model's stages one after another, and the LSC leaves the LMU
alone when it takes the result. -/
theorem closingPairEvaluatesTheLine : Obligations.ClosingPairEvaluatesTheLine := by
  intro s l x y m e lims v w lb gb hs hl hm he hlims h7 h3 h4 hg hv hw hlb hgb
  subst hm he
  rw [← Lmu.thresholds_eq_ite] at hlims
  have hv' := pushWindow_eq_drop h3 h4 (((s.lmu.records.get l).loopSum + x.toInt + 4) >>> 3)
  have hw' := pushWindow_eq_drop (hg ▸ h3) (hg ▸ h4) (((s.lmu.records.get l).groundSum + y.toInt + 4) >>> 3)
  rw [← hv] at hv'
  rw [← hw] at hw'
  have hfull : ¬ (((s.lmu.records.get l).addPair x.toInt y.toInt).closeGroup).loopWindow.length < 4 := by
    have : (((s.lmu.records.get l).addPair x.toInt y.toInt).closeGroup).loopWindow = v := by
      rw [← hv', ← stageA_eq_shift]; rfl
    rw [this, hv, List.length_append, List.length_drop, List.length_singleton]
    omega
  have hmeas := State.measure_closed (x := x.toInt) (y := y.toInt) h7
  dsimp only at hmeas
  rw [if_neg hfull, ← hlims, Measurement.evaluated_closing h7 hv' hw'] at hmeas
  have hexec := exec_samplePair_evaluation hs hl hmeas
  rw [stageB_eq_shift, stageB_eq_shift, ← hlb, ← hgb] at hexec
  have hmem := classify_eq_ite lims (s.lmu.records.get l).bandMemory (stageC (s.dir.working.get l).loopCal lb)
  refine ⟨_, stageC _ lb, stageC _ gb, bandResultOf (classify lims (s.lmu.records.get l).bandMemory
    (stageC (s.dir.working.get l).loopCal lb)), hexec, stageC_eq_shift _ _, stageC_eq_shift _ _, ?_, ?_, ?_, ?_⟩
  · rw [← hmem]
    rfl
  · rw [State.takeResult_lmu]
    rfl
  · rw [State.takeResult_lmu, ← hmem, ← leakCountAfter_leakAfter]
    rfl
  · rw [State.takeResult_lmu, ← clipped_or]
    simp only [State.setMeasurement_lmu, Table.get_set_self]
    rfl

end Sys2Proof.Machine
end

section
/-! Requests of a running part: a PARAM SET, and the first run of a repeatable request, taken and answered. With them
the threshold sets (R12) and LINE SET (R43). -/

namespace Sys2Proof.Machine

open Sys2Proof

/-! ### PARAM SET (R180, R186) -/

section ParamSet

variable {s : State} {α : Type} {id : Octet} {value : List Octet} {check : List Octet → Option α}
  {apply : α → State → State}

/-- A PARAM SET whose value passes its check is answered DONE and applied. -/
theorem State.setParam_of_some {a : α} (h : s.ready 0x02 (id :: value)) (hv : check value = some a) :
    s.setParam id value check apply = apply a (s.answered ⟨0x02, .done, none, .nothing⟩) := by
  rw [State.setParam, State.serve_ready h, hv]
  rfl

/-- A PARAM SET whose value fails its check is refused RANGE. -/
theorem State.setParam_of_none (h : s.ready 0x02 (id :: value)) (hv : check value = none) :
    s.setParam id value check apply = s.answered ⟨0x02, .range, none, .nothing⟩ := by
  rw [State.setParam, State.serve_ready h, hv]
  rfl

end ParamSet

/-! ### Threshold sets (R12) -/

/-- A 16-bit value sent in two octets reads back (R191). -/
theorem signed16_octets {x : Int} (h : -32768 ≤ x ∧ x ≤ 32767) :
    signed16 (BitVec.ofNat 8 ((x % 65536).toNat / 256 ^ 1)) (BitVec.ofNat 8 ((x % 65536).toNat / 256 ^ 0)) = x := by
  simp only [signed16, be16, BitVec.toNat_ofNat]
  split <;> omega

/-- The eight limits that a body sends are checked as R12 gives. -/
theorem thresholdsOf_octets (t : Thresholds)
    (h : ∀ x ∈ [t.foreignMax, t.openMin, t.openMax, t.presentMin, t.presentMax, t.loopMin, t.loopMax, t.shortMin],
      -32768 ≤ x ∧ x ≤ 32767) :
    (t.accepted → thresholdsOf t.octets = some t) ∧ (¬ t.accepted → thresholdsOf t.octets = none) := by
  simp only [List.forall_mem_cons] at h
  obtain ⟨h1, h2, h3, h4, h5, h6, h7, h8, -⟩ := h
  have hr : thresholdsOf t.octets =
      if [t.foreignMax, t.openMin, t.openMax, t.presentMin, t.presentMax, t.loopMin, t.loopMax,
          t.shortMin].all (fun x => -1000 ≤ x ∧ x ≤ 1000) ∧ t.foreignMax < t.openMin ∧ t.openMin ≤ t.openMax ∧
        t.openMax < t.presentMin ∧ t.presentMin ≤ t.presentMax ∧ t.presentMax < t.loopMin ∧ t.loopMin ≤ t.loopMax ∧
        t.loopMax < t.shortMin then some t else none := by
    simp only [Thresholds.octets, List.flatMap_cons, List.flatMap_nil, signedOctets, octets, List.cons_append,
      List.nil_append, thresholdsOf, signed16_octets h1, signed16_octets h2, signed16_octets h3, signed16_octets h4,
      signed16_octets h5, signed16_octets h6, signed16_octets h7, signed16_octets h8]
  rw [hr]
  simp only [List.all_eq_true, decide_eq_true_eq]
  exact ⟨fun ha => if_pos ha, fun ha => if_neg ha⟩

/-- A threshold set is sent in sixteen octets (section 10.2). -/
theorem thresholdsOf_of_length_ne {value : List Octet} (h : value.length ≠ 16) : thresholdsOf value = none := by
  unfold thresholdsOf
  split
  · simp at h
  · rfl

section ThresholdSet

variable {s : State} {setB : Bool} {value : List Octet}

theorem exec_paramSetThresholdSet_of_some {t : Thresholds}
    (h : s.ready 0x02 ((if setB then 2 else 1) :: value)) (hv : thresholdsOf value = some t) :
    exec (.paramSetThresholdSet setB value) s = .next
      { s.answered ⟨0x02, .done, none, .nothing⟩ with
        lmu := if setB then { s.lmu with setB := t } else { s.lmu with setA := t } } := by
  change execParamSetThresholdSet setB value s = _
  rw [execParamSetThresholdSet, State.running_of _ _ h.1, State.setParam_of_some h hv]
  rfl

theorem exec_paramSetThresholdSet_of_none
    (h : s.ready 0x02 ((if setB then 2 else 1) :: value)) (hv : thresholdsOf value = none) :
    exec (.paramSetThresholdSet setB value) s = .next (s.answered ⟨0x02, .range, none, .nothing⟩) := by
  change execParamSetThresholdSet setB value s = _
  rw [execParamSetThresholdSet, State.running_of _ _ h.1, State.setParam_of_none h hv]

end ThresholdSet

/-- Settles O46: the body of eight limits reads back, and every other length is refused. -/
theorem thresholdSetIsReplacedWhole : Obligations.ThresholdSetIsReplacedWhole := by
  refine ⟨fun s t ht => ?_, fun s setB value h hl =>
    exec_paramSetThresholdSet_of_none h (thresholdsOf_of_length_ne hl)⟩
  obtain ⟨hyes, hno⟩ := thresholdsOf_octets t ht
  exact ⟨fun h ha => exec_paramSetThresholdSet_of_some (setB := false) h (hyes ha),
    fun h ha => exec_paramSetThresholdSet_of_some (setB := true) h (hyes ha),
    fun h ha => exec_paramSetThresholdSet_of_none (setB := false) h (hno ha),
    fun h ha => exec_paramSetThresholdSet_of_none (setB := true) h (hno ha)⟩

/-! ### The first run of a repeatable request (R184, R185) -/

/-- The octet of a line names that line (R191). -/
@[simp] theorem lineOf_lineOctet (l : LineNo) : lineOf (lineOctet l) = some l := by
  refine indexOf_eq_some.mpr ?_
  have := l.isLt
  simp only [lineOctet, BitVec.toNat_ofNat]
  omega

/-- An octet above 47 names no line (R42). -/
theorem lineOf_eq_none {o : Octet} (h : 48 ≤ o.toNat) : lineOf o = none := by
  simp [lineOf, indexOf, Nat.not_lt.mpr h]

/-- The state in which a repeatable request has been taken, its repetition prepared, before its first run (R184). -/
def State.taken (s : State) (code : Octet) (body : List Octet) : State :=
  (s.mapLink Link.serving).mapLink fun k => { k with repetition := repetitionOf code body s.link.repeatCount }

section FirstRun

variable {s : State} {code : Octet} {body : List Octet}

/-- A repeatable request of its length that can be taken makes its first run. -/
theorem State.serveRuns_ready {len : Nat} {run : List Octet → State → State} (h : s.ready code body)
    (hl : body.length = len) : s.serveRuns code len body run = run body (s.taken code body) := by
  rw [State.serveRuns, State.serve_ready h, if_pos hl]
  rfl

/-- A run that is not DONE answers its result as it is (R185). -/
theorem State.runResult_of_ne_done {r : Result} (s : State) (h : r ≠ .done) : s.runResult r = r := by
  unfold State.runResult
  split
  · rw [if_neg fun hc => h hc.1]
  · rfl

/-- A first run refused. -/
theorem State.answerRun_taken {r : Result} (line : Octet) (v : ReplyValues) (h : r ≠ .done) :
    (s.taken code body).answerRun code line r v = s.firstRun code line body r v := by
  rw [State.answerRun, State.runResult_of_ne_done _ h]
  rfl

/-- A first run carried out for line `l`: END OF LINES where line 47 leaves runs owed (R185). -/
theorem State.answerRun_taken_done {l : LineNo} (line : Octet) (v : ReplyValues)
    (hb : body.head?.bind lineOf = some l) :
    (s.taken code body).answerRun code line .done v = s.firstRun code line body (s.firstResult l) v := by
  have hr : (s.taken code body).runResult .done = s.firstResult l := by
    have hrep : (s.taken code body).link.repetition = repetitionOf code body s.link.repeatCount := rfl
    unfold State.runResult State.firstResult
    rw [hrep, repetitionOf, hb]
    by_cases hn : s.link.repeatCount = 0
    · simp [hn]
    · simp [hn, Nat.pos_of_ne_zero hn]
  rw [State.answerRun, hr]
  rfl

/-- A request that names no line is no repetition (R185). -/
theorem State.firstRun_of_no_line {r : Result} {v : ReplyValues} (line : Octet)
    (hb : body.head?.bind lineOf = none) :
    s.firstRun code line body r v = s.answered ⟨code, r, some (some line), v⟩ := by
  have hrep : repetitionOf code body s.link.repeatCount = none := by
    unfold repetitionOf
    rw [hb]
    split <;> rfl
  unfold State.firstRun State.answered
  rw [hrep]
  rfl

end FirstRun

/-! ### LINE SET (R43) -/

/-- Whether an operation in flight is on a bank (R54). -/
theorem Directory.busy_eq_false {d : Directory} {b : Fin 3} (h : ∀ op, d.operation = some op → op.bank ≠ b) :
    d.busy b = false := by
  unfold Directory.busy
  split
  next op ho => exact decide_eq_false (h op ho)
  · rfl

theorem Directory.busy_eq_true {d : Directory} {b : Fin 3} {op : StoreOp} (h : d.operation = some op)
    (hb : op.bank = b) : d.busy b = true := by
  simp [Directory.busy, h, hb]

section LineSet

variable {s : State} {l : LineNo} {o : Octet} {v : LineService}

/-- A LINE SET that can be taken makes its first run. -/
theorem exec_lineSet_ready {line : Octet} (h : s.ready 0x11 [line, o]) :
    exec (.lineSet [line, o]) s = .next ((s.taken 0x11 [line, o]).runLineSet [line, o]) := by
  change execLineSet [line, o] s = _
  rw [execLineSet, State.running_of _ _ h.1, State.serveRuns_ready (len := 2) h rfl]

/-- A LINE SET whose values are not in range (R43). -/
theorem exec_lineSet_range {line : Octet} (h : s.ready 0x11 [line, o])
    (hv : lineOf line = none ∨ lineServiceOf o = none) :
    exec (.lineSet [line, o]) s = .next (s.firstRun 0x11 line [line, o] .range .nothing) := by
  rw [exec_lineSet_ready h, ← State.answerRun_taken line _ (by decide)]
  unfold State.runLineSet
  dsimp only
  split
  next hl hs =>
    rcases hv with hv | hv
    · rw [hv] at hl
      cases hl
    · rw [hv] at hs
      cases hs
  · rfl

/-- A LINE SET refused by a check of R43 or R54. -/
theorem exec_lineSet_refused {r : Result} (h : s.ready 0x11 [lineOctet l, o]) (hv : lineServiceOf o = some v)
    (hr : s.lineSetRefusal l v = some r) (hd : r ≠ .done) :
    exec (.lineSet [lineOctet l, o]) s = .next (s.firstRun 0x11 (lineOctet l) [lineOctet l, o] r .nothing) := by
  have hr' : (s.taken 0x11 [lineOctet l, o]).lineSetRefusal l v = some r := hr
  rw [exec_lineSet_ready h, ← State.answerRun_taken (lineOctet l) _ hd]
  unfold State.runLineSet
  dsimp only
  rw [lineOf_lineOctet, hv]
  dsimp only
  rw [hr']

/-- A LINE SET carried out (R43). -/
theorem exec_lineSet_done (h : s.ready 0x11 [lineOctet l, o]) (hv : lineServiceOf o = some v)
    (hr : s.lineSetRefusal l v = none) :
    exec (.lineSet [lineOctet l, o]) s = .next
      ((s.firstRun 0x11 (lineOctet l) [lineOctet l, o] (s.firstResult l) .nothing).applyLineSet l v) := by
  have hr' : (s.taken 0x11 [lineOctet l, o]).lineSetRefusal l v = none := hr
  rw [exec_lineSet_ready h, ← State.answerRun_taken_done (lineOctet l) _ (by simp)]
  unfold State.runLineSet
  dsimp only
  rw [lineOf_lineOctet, hv]
  dsimp only
  rw [hr']

/-- Check 2 of R43: a line in use. -/
theorem State.lineSetRefusal_inUse (h : (s.lines.get l).state = .collecting ∨ (s.lines.get l).state = .active ∨
    (s.lines.get l).state = .ringing) : s.lineSetRefusal l v = some .inUse := by
  unfold State.lineSetRefusal
  rcases h with h | h | h <;> simp [h]

/-- Check 3 of R43, on a line that is not in use: only a change of the service field asks for the bank (R54). -/
theorem State.lineSetRefusal_idle (hc : (s.lines.get l).state ≠ .collecting) (ha : (s.lines.get l).state ≠ .active)
    (hr : (s.lines.get l).state ≠ .ringing) :
    s.lineSetRefusal l v = if v.field = (s.dir.working.get l).service then none else s.dir.editRefusal l := by
  unfold State.lineSetRefusal
  split
  next h => exact absurd h hc
  next h => exact absurd h ha
  next h => exact absurd h hr
  · rfl

end LineSet

/-- The record of a line after a LINE SET that passes its checks, by the table of R43. -/
def LineService.record (v : LineService) (x : LineRecord) : LineRecord :=
  match v with
  | .unequipped => if x.state = .unequipped then x else LineRecord.fresh .unequipped StickyFlags.clear
  | .outOfService =>
    if x.state = .unequipped then { x with state := .outOfService }
    else if x.state = .outOfService then x
    else { x with state := .outOfService, faultKind := none }
  | .inService =>
    if x.state = .unequipped ∨ x.state = .outOfService then LineRecord.fresh .settling x.flags else x

/-- The measurement record of that line: restarted or ended where R43's table says so (R19, R20, R21). -/
def LineService.measurement (v : LineService) (st : LineState) (m : Measurement) : Measurement :=
  if v = .unequipped ∧ st ≠ .unequipped ∨ v ≠ .unequipped ∧ st = .unequipped ∨ v = .inService ∧ st = .outOfService then
    Measurement.empty
  else m

namespace LineService

variable (x : LineRecord)

theorem record_unequipped_state : (LineService.unequipped.record x).state = .unequipped := by
  unfold record
  dsimp only
  split
  · assumption
  · rfl

theorem record_outOfService_state : (LineService.outOfService.record x).state = .outOfService := by
  unfold record
  dsimp only
  split
  · rfl
  · split
    · assumption
    · rfl

theorem record_inService_state : (LineService.inService.record x).state =
    if x.state = .unequipped ∨ x.state = .outOfService then .settling else x.state := by
  unfold record
  dsimp only
  split <;> rfl

/-- Only a line made UNEQUIPPED has its flags cleared (R20, R28). -/
theorem record_flags (v : LineService) :
    (v.record x).flags = if v = .unequipped ∧ x.state ≠ .unequipped then StickyFlags.clear else x.flags := by
  cases v with
  | unequipped =>
    by_cases h : x.state = .unequipped
    · simp [record, h]
    · simp [record, h, LineRecord.fresh]
  | outOfService =>
    simp only [record, reduceCtorEq, false_and, if_false]
    split
    · rfl
    · split <;> rfl
  | inService =>
    simp only [record, reduceCtorEq, false_and, if_false]
    split <;> rfl

variable {x}

/-- A LINE SET that leaves the line's state leaves its record (R43). -/
theorem record_of_state {v : LineService} (h : (v.record x).state = x.state) : v.record x = x := by
  cases v with
  | unequipped =>
    rw [record_unequipped_state] at h
    exact if_pos h.symm
  | outOfService =>
    rw [record_outOfService_state] at h
    have hu : x.state ≠ .unequipped := by simp [← h]
    exact (if_neg hu).trans (if_pos h.symm)
  | inService =>
    rw [record_inService_state] at h
    split at h
    next hc => rcases hc with hc | hc <;> simp [hc] at h
    next hc => exact if_neg hc

end LineService

section ApplyLineSet

variable (s : State) (l : LineNo)

theorem State.setLine_get : s.setLine l (s.lines.get l) = s := by
  simp [State.setLine]

theorem State.setMeasurement_get : s.setMeasurement l (s.lmu.records.get l) = s := by
  simp [State.setMeasurement]

/-- A LINE SET writes the service field, the line's record and its measurement record (R43). -/
theorem State.applyLineSet_eq (v : LineService) :
    s.applyLineSet l v =
      ((s.setService l v.field).setLine l (v.record (s.lines.get l))).setMeasurement l
        (v.measurement (s.lines.get l).state (s.lmu.records.get l)) := by
  have hs : (s.setService l v.field).lines = s.lines := rfl
  have hm : (s.setService l v.field).lmu = s.lmu := rfl
  rw [← hs, ← hm]
  unfold State.applyLineSet
  dsimp only
  generalize s.setService l v.field = u
  have hu : (u.setLine l (u.lines.get l)).setMeasurement l (u.lmu.records.get l) = u := by
    rw [State.setLine_get, State.setMeasurement_get]
  have hx (x : LineRecord) : (u.setLine l x).setMeasurement l (u.lmu.records.get l) = u.setLine l x :=
    (u.setLine l x).setMeasurement_get l
  unfold LineService.record LineService.measurement
  split
  next h => simp [h, hu]
  next h =>
    have h : (u.lines.get l).state ≠ .unequipped := h
    simp [h]
    rfl
  next h => simp [h]; rfl
  next h => simp [h, hu]
  next h h' =>
    have h : (u.lines.get l).state ≠ .unequipped := h
    have h' : (u.lines.get l).state ≠ .outOfService := h'
    simp [h, h', hx]
    rfl
  next h => simp [h]; rfl
  next h => simp [h]; rfl
  next h h' =>
    have h : (u.lines.get l).state ≠ .unequipped := h
    have h' : (u.lines.get l).state ≠ .outOfService := h'
    simp [h, h', hu]

end ApplyLineSet

/-- Settles O55: the refusals in their order, then the table through `LineService.record` and
`LineService.measurement`. -/
theorem lineSetFollowsItsTable : Obligations.LineSetFollowsItsTable := by
  refine ⟨fun s line o h => ⟨fun hl => ?_, fun l hl ho => ?_⟩, fun s l o v x e h hv hx he => ?_⟩
  · have hn := lineOf_eq_none hl
    rw [exec_lineSet_range h (.inl hn), State.firstRun_of_no_line (body := [line, o]) line hn]
  · refine exec_lineSet_range h (.inr ?_)
    unfold lineServiceOf
    split
    · omega
    · omega
    · omega
    · rfl
  · subst hx he
    refine ⟨fun hu => exec_lineSet_refused h hv (State.lineSetRefusal_inUse hu) (by decide), fun hc ha hr => ?_⟩
    have href := State.lineSetRefusal_idle (v := v) hc ha hr
    refine ⟨fun hf hk => exec_lineSet_refused h hv ?_ (by decide),
      fun op hf hk ho hb => exec_lineSet_refused h hv ?_ (by decide), fun hok => ?_⟩
    · rw [href, if_neg hf, Directory.editRefusal, if_pos hk]
    · rw [href, if_neg hf, Directory.editRefusal, hk, Directory.busy_eq_true ho hb]
      rfl
    · have hnone : s.lineSetRefusal l v = none := by
        rw [href]
        split
        · rfl
        next hf =>
          obtain ⟨hk, hb⟩ := hok hf
          rw [Directory.editRefusal, hk, Directory.busy_eq_false hb]
          rfl
      have hexec := exec_lineSet_done h hv hnone
      rw [State.applyLineSet_eq] at hexec
      change _ = Host.Outcome.next
        (((State.setService _ l v.field).setLine l (v.record (s.lines.get l))).setMeasurement l
          (v.measurement (s.lines.get l).state (s.lmu.records.get l))) at hexec
      refine ⟨_, hexec, ?_⟩
      simp only [State.setMeasurement_lines, State.setLine_lines, State.setMeasurement_lmu, Table.get_set_self]
      generalize s.lines.get l = x
      refine ⟨rfl, ?_, LineService.record_flags x v, ?_, ?_, ?_, LineService.record_of_state, rfl⟩
      · cases v with
        | unequipped => exact LineService.record_unequipped_state x
        | outOfService => exact LineService.record_outOfService_state x
        | inService =>
          rw [LineService.record_inService_state]
          cases x.state <;> rfl
      · rintro rfl hst
        exact if_neg hst
      · rintro rfl hst
        exact if_pos hst
      · rintro rfl hu ho
        exact (if_neg hu).trans (if_neg ho)

end Sys2Proof.Machine
end

section
/-! The values of a power-on reset, and the entry intervals of an accepted threshold set. -/

namespace Sys2Proof.Machine

open Sys2Proof

/-- The check of an area after a power-on reset fails where an operation on the area was in flight; its entries and
its lock stay (R64). -/
theorem Directory.abandoned_get (d : Directory) (b : Fin 3) :
    d.abandoned.get b = { d.areas.get b with
      checks := (d.areas.get b).checks && decide (∀ op, d.operation = some op → op.bank ≠ b) } := by
  unfold Directory.abandoned
  split
  next op ho =>
    by_cases hb : op.bank = b
    · subst hb
      simp [ho]
    · simp [ho, hb]
  next ho => simp [ho]

/-- Settles O14: each block as `State.heldInReset` has it, the store areas as `Directory.abandoned` leaves them. -/
theorem powerOnResetValues : Obligations.PowerOnResetValues := by
  intro s
  refine ⟨s.powerOn, rfl, rfl, rfl, rfl, rfl, rfl, rfl, rfl, rfl, rfl, rfl, rfl, rfl, Table.get_fill none, rfl, rfl, rfl,
    rfl, rfl, rfl, rfl, rfl, rfl, fun u => ?_, rfl, rfl, rfl, rfl, Table.get_fill none, Table.get_fill [],
    Table.get_fill Player.inactive, fun u => ⟨Table.get_fill _ u, Table.get_fill _ u, Table.get_fill _ u⟩, rfl, rfl, rfl, rfl,
    rfl, rfl, rfl, rfl, rfl, rfl, rfl, rfl, rfl, Table.get_fill Measurement.empty, rfl, rfl, fun b => ?_⟩
  · have htrunk : s.powerOn.trunk u = Trunk.initial (Trunk.defaultGroup u) := Table.get_ofFn _ u
    rw [htrunk]
    and_intros <;> rfl
  · have hareas : s.powerOn.dir.areas = s.dir.abandoned := rfl
    rw [hareas, Directory.abandoned_get]
    exact ⟨rfl, rfl, rfl⟩

/-- Settles O19: the limits of an accepted set rise, so that the intervals, tried one after another, exclude each
other. -/
theorem bandIsItsEntryInterval : Obligations.BandIsItsEntryInterval := by
  rintro t x ⟨-, h1, h2, h3, h4, h5, h6, h7⟩
  unfold Thresholds.bandOf
  split_ifs <;> simp only [Option.some.injEq, reduceCtorEq, true_iff, false_iff] <;> omega

end Sys2Proof.Machine
end

section
/-! The reading requests of a line (R42, R45, R52), CALL ENDED (R34), and the state after reset. -/

namespace Sys2Proof.Table

/-- A cell written twice holds what was written last. -/
@[simp] theorem set_set {n : Nat} {α : Type} (t : Table n α) (i : Fin n) (a b : α) :
    (t.set i a).set i b = t.set i b := by
  simp [Table.set]

end Sys2Proof.Table

namespace Sys2Proof.Machine

open Sys2Proof

/-! ### LINE QUERY, LINE TEST and DIR READ -/

section Reads

variable {s : State} {l : LineNo} {o option : Octet}

/-- A run of LINE QUERY that names a line (R42). -/
theorem State.runLineQuery_line : s.runLineQuery [lineOctet l, option] =
    if option = 0 then s.answerRun 0x10 (lineOctet l) .done (s.lineValues l)
    else (s.answerRun 0x10 (lineOctet l) .done (s.lineValues l)).clearFlags l := by
  simp only [State.runLineQuery, lineOf_lineOctet]

/-- A run of LINE QUERY that names none (R42). -/
theorem State.runLineQuery_range (h : 48 ≤ o.toNat) : s.runLineQuery [o, option] = s.answerRun 0x10 o .range := by
  simp only [State.runLineQuery, lineOf_eq_none h]

/-- A run of LINE TEST that names a line (R45). -/
theorem State.runLineTest_line :
    s.runLineTest [lineOctet l] = s.answerRun 0x12 (lineOctet l) .done (.measurement (s.snapshotOf l)) := by
  simp only [State.runLineTest, lineOf_lineOctet]

/-- A run of LINE TEST that names none (R45). -/
theorem State.runLineTest_range (h : 48 ≤ o.toNat) : s.runLineTest [o] = s.answerRun 0x12 o .range := by
  simp only [State.runLineTest, lineOf_eq_none h]

/-- A run of DIR READ that names a line (R52). -/
theorem State.runDirRead_line : s.runDirRead [lineOctet l] = s.answerRun 0x14 (lineOctet l) .done
    (.entry (s.dir.working.get l) (s.dir.locks.get (bankOf l))) := by
  simp only [State.runDirRead, lineOf_lineOctet]

/-- A run of DIR READ that names none (R52). -/
theorem State.runDirRead_range (h : 48 ≤ o.toNat) : s.runDirRead [o] = s.answerRun 0x14 o .range := by
  simp only [State.runDirRead, lineOf_eq_none h]

theorem exec_lineQuery_ready (h : s.ready 0x10 [o, option]) :
    exec (.lineQuery [o, option]) s = .next ((s.taken 0x10 [o, option]).runLineQuery [o, option]) := by
  change execLineQuery [o, option] s = _
  rw [execLineQuery, State.running_of _ _ h.1, State.serveRuns_ready (len := 2) h rfl]

theorem exec_lineTest_ready (h : s.ready 0x12 [o]) :
    exec (.lineTest [o]) s = .next ((s.taken 0x12 [o]).runLineTest [o]) := by
  change execLineTest [o] s = _
  rw [execLineTest, State.running_of _ _ h.1, State.serveRuns_ready (len := 1) h rfl]

theorem exec_dirRead_ready (h : s.ready 0x14 [o]) :
    exec (.dirRead [o]) s = .next ((s.taken 0x14 [o]).runDirRead [o]) := by
  change execDirRead [o] s = _
  rw [execDirRead, State.running_of _ _ h.1, State.serveRuns_ready (len := 1) h rfl]

/-- A first run refused RANGE for its line is the only one (R185). -/
theorem State.answerRun_taken_range {code : Octet} {rest : List Octet} (h : 48 ≤ o.toNat) :
    (s.taken code (o :: rest)).answerRun code o .range = s.answered ⟨code, .range, some (some o), .nothing⟩ := by
  rw [State.answerRun_taken o _ (by decide), State.firstRun_of_no_line o (by simpa using lineOf_eq_none h)]

/-- Settles O51: each request is its first run, and the run answers with what stands. -/
theorem repeatableReadsAnswerTheLine : Obligations.RepeatableReadsAnswerTheLine := by
  intro s l o option
  refine ⟨fun h => ?_, fun h => ?_, fun h => ?_, fun ho h => ?_, fun ho h => ?_, fun ho h => ?_⟩
  · rw [exec_lineQuery_ready h, State.runLineQuery_line, State.answerRun_taken_done (l := l) (lineOctet l) _ (by simp)]
    rfl
  · rw [exec_lineTest_ready h, State.runLineTest_line, State.answerRun_taken_done (l := l) (lineOctet l) _ (by simp)]
    rfl
  · rw [exec_dirRead_ready h, State.runDirRead_line, State.answerRun_taken_done (l := l) (lineOctet l) _ (by simp)]
    rfl
  · rw [exec_lineQuery_ready h, State.runLineQuery_range ho, State.answerRun_taken_range ho]
  · rw [exec_lineTest_ready h, State.runLineTest_range ho, State.answerRun_taken_range ho]
  · rw [exec_dirRead_ready h, State.runDirRead_range ho, State.answerRun_taken_range ho]

end Reads

/-! ### A line written twice -/

section Lines

variable (s : State) (l : LineNo)

@[simp] theorem State.setLine_setLine (x y : LineRecord) : (s.setLine l x).setLine l y = s.setLine l y := by
  simp [State.setLine]

@[simp] theorem State.setLine_mapLine (x : LineRecord) (f : LineRecord → LineRecord) :
    (s.setLine l x).mapLine l f = s.setLine l (f x) := by
  simp [State.mapLine]

end Lines

/-! ### CALL ENDED -/

/-- Where CALL ENDED takes a COLLECTING, ACTIVE or RINGING line (R34). -/
def LineRecord.callEnded (x : LineRecord) : LineRecord :=
  { x with
    state := if x.runKind = some .make then .lockout else .idle
    lockoutCount := if x.runKind = some .make then 0 else x.lockoutCount
    ringPhase := if x.state = .ringing then none else x.ringPhase
    ringPosition := if x.state = .ringing then 0 else x.ringPosition }

/-- CALL ENDED moves a line that has a call from its post, or is rung for one (R34). -/
theorem State.takeCallEnded_of_called {s : State} {l : LineNo} (h : (s.lines.get l).state = .collecting ∨
    (s.lines.get l).state = .active ∨ (s.lines.get l).state = .ringing) :
    s.takeCallEnded l = s.setLine l (s.lines.get l).callEnded := by
  unfold State.takeCallEnded
  rcases h with h | h | h <;> by_cases hm : (s.lines.get l).runKind = some .make <;>
    simp [h, hm, LineRecord.callEnded, State.enter, State.stopRinging, State.mapLine]

/-- CALL ENDED leaves every other line as it is (R34). -/
theorem State.takeCallEnded_of_not_called {s : State} {l : LineNo} (hc : (s.lines.get l).state ≠ .collecting)
    (ha : (s.lines.get l).state ≠ .active) (hr : (s.lines.get l).state ≠ .ringing) : s.takeCallEnded l = s := by
  unfold State.takeCallEnded
  dsimp only
  split
  next h => exact absurd h hc
  next h => exact absurd h ha
  next h => exact absurd h hr
  · rfl

/-- Settles O22, by the two cases of R34. -/
theorem callEndedMovesTheLine : Obligations.CallEndedMovesTheLine := by
  intro s l hh
  have hx : exec (.callEnded l) s = .next ({ s with callEnds := s.callEnds.erase l }.takeCallEnded l) := by
    change execCallEnded l s = _
    rw [execCallEnded, State.running_of _ _ hh]
  by_cases h : (s.lines.get l).state = .collecting ∨ (s.lines.get l).state = .active ∨ (s.lines.get l).state = .ringing
  · rw [State.takeCallEnded_of_called (s := { s with callEnds := s.callEnds.erase l }) h] at hx
    refine ⟨_, hx, by simp [State.setLine], fun _ => ⟨?_, ?_⟩, fun hc ha hr => ?_⟩
    · by_cases hm : (s.lines.get l).runKind = some .make <;>
        simp [LineRecord.ringingVoltage, LineRecord.callEnded, hm]
    · simp [LineRecord.callEnded]
    · rcases h with h | h | h <;> contradiction
  · obtain ⟨hc, ha, hr⟩ := not_or.mp h |>.imp_right not_or.mp
    rw [State.takeCallEnded_of_not_called (s := { s with callEnds := s.callEnds.erase l }) hc ha hr] at hx
    exact ⟨_, hx, by simp, fun hn => absurd hn h, fun _ _ _ => rfl⟩

/-! ### The state after reset -/

/-- The release of a power-on reset of a factory part gives the reset state (R46, R49, R65, R176, R189). -/
theorem released_factory_eq_reset :
    exec .powerOnResetRelease (State.heldInReset (Table.fill 3 StoreArea.factory)) = .next State.reset := by
  rfl

/-- No call is live after reset (R72). -/
theorem State.reset_calls (p : LineNo) : State.reset.cc.calls.get p = none := Table.get_fill none p

/-- Every trunk stands at its power-on values after reset (R122). -/
theorem State.reset_trunk (u : TrunkNo) : State.reset.trunk u = Trunk.initial (Trunk.defaultGroup u) :=
  Table.get_ofFn _ u

theorem State.reset_journalSound : State.reset.journal.sound := by
  refine ⟨?_, ?_, ?_, rfl⟩ <;> decide

theorem State.reset_linkSound : State.reset.linkSound := by
  refine ⟨nofun, ?_, ?_, ?_, nofun, nofun, nofun⟩ <;> decide

theorem State.reset_trunksSound : State.reset.trunksSound := by
  refine ⟨fun u => ?_, fun u => ?_⟩
  · rw [State.reset_trunk]
    simp [Trunk.sound, Trunk.initial]
  · have hr : State.reset.ap.receive.get u = Buffer.empty := Table.get_fill _ u
    have hs : State.reset.ap.send.get u = Buffer.empty := Table.get_fill _ u
    rw [hr, hs]
    exact ⟨Nat.zero_le _, Nat.zero_le _⟩

theorem State.reset_linesSound : State.reset.linesSound := fun l => by
  have hx : State.reset.lines.get l = LineRecord.fresh .unequipped StickyFlags.clear := Table.get_fill _ l
  have hm : State.reset.lmu.records.get l = Measurement.empty := Table.get_fill _ l
  rw [hx, hm]
  exact ⟨LineRecord.sound_fresh _ _, Measurement.sound_empty⟩

theorem State.reset_callsSound : State.reset.callsSound :=
  ⟨by decide, fun p c h => by simp [State.reset_calls] at h, fun p q c d h => by simp [State.reset_calls] at h⟩

theorem State.reset_queueExact : State.reset.queueExact :=
  ⟨List.nodup_nil, fun r => ⟨nofun, fun ⟨p, c, h, _⟩ => by simp [State.reset_calls] at h⟩, .nil⟩

/-- A trunk at its power-on values is LINK DOWN and names no call (R122). -/
theorem State.reset_trunkPlaced (u : TrunkNo) : State.reset.trunkPlaced u := by
  unfold State.trunkPlaced
  rw [State.reset_trunk]
  simp [Trunk.initial]

theorem State.reset_callsPlaced : State.reset.callsPlaced :=
  ⟨State.reset_callsSound, State.reset_queueExact, fun p c h => by simp [State.reset_calls] at h,
    State.reset_trunkPlaced⟩

theorem State.reset_channelsPlaced : State.reset.channelsPlaced :=
  ⟨fun p _ => Table.get_fill Player.inactive p, fun p c h => by simp [State.reset_calls] at h⟩

/-- Settles O4, block by block: the reset state holds no call, and every record of it is a power-on value. -/
theorem resetStateIsSound : Obligations.ResetStateIsSound :=
  ⟨⟨⟨rfl, nofun⟩, State.reset_journalSound, State.reset_linkSound, ⟨by decide, by decide, by decide⟩,
    State.reset_trunksSound, State.reset_linesSound, State.reset_callsSound, State.reset_callsPlaced,
    State.reset_channelsPlaced⟩, released_factory_eq_reset⟩

end Sys2Proof.Machine
end

section
/-! One evaluation of a line: what a band result makes of a line record, and what each check of a line state makes of the
brought-up-to-date record (R24 to R41). -/

namespace Sys2Proof.Machine

open Sys2Proof

/-! ### Reports and records (R171, R181) -/

section Reports

variable {s : State} {r : Report} {k : RecordKind}

/-- A report made with room for it is on the output list (R181). -/
theorem State.report_output (h : s.link.reports < 16) : (s.report r).link.output = s.link.output ++ [.report r] := by
  rw [State.report, if_pos (show s.link.reports < Config.outputReports from h)]
  rfl

/-- A report made takes nothing off the output list (R181). -/
theorem State.output_prefix_report (s : State) (r : Report) : s.link.output <+: (s.report r).link.output := by
  unfold State.report
  split
  · exact List.prefix_append _ _
  · exact List.prefix_rfl

/-- A record handed to the journal takes nothing off the output list (R175, R181). -/
theorem State.output_prefix_record (s : State) (k : RecordKind) : s.link.output <+: (s.record k).link.output := by
  unfold State.record
  split
  · exact List.prefix_rfl
  · dsimp only
    split
    · unfold State.report
      split
      · exact List.prefix_append _ _
      · exact List.prefix_rfl
    · exact List.prefix_rfl

/-- A record takes its number and joins the journal (R171, R173). -/
theorem State.record_journal (h : s.journal.exhausted = false) :
    (s.record k).journal = { s.journal with
      records := Journal.append s.journal.records ⟨s.journal.nextSequence, s.stamp, k⟩
      nextSequence := s.journal.nextSequence + 1 } := by
  unfold State.record
  rw [h]
  simp only [Bool.false_eq_true, if_false]
  split
  · rw [State.report_journal]
  · rfl

/-- An exhausted journal takes no record (R171). -/
theorem State.record_of_exhausted (h : s.journal.exhausted = true) : s.record k = s := by
  rw [State.record, if_pos h]

/-- A report, then a record: the report is on the output list (R181). -/
theorem State.mem_report_record (h : s.link.reports < 16) :
    .report r ∈ ((s.report r).record k).link.output :=
  (State.output_prefix_record _ _).subset <| by simp [State.report_output h]

/-- A report, then a record: the record has joined the journal (R171, R173). -/
theorem State.report_record_records (h : s.journal.exhausted = false) :
    ((s.report r).record k).journal.records =
      Journal.append s.journal.records ⟨s.journal.nextSequence, s.stamp, k⟩ := by
  rw [State.record_journal (by rwa [State.report_journal]), State.report_journal]
  simp [State.stamp]

end Reports

/-! ### What a band result makes of a line record (R25, R26, R33) -/

section Update

variable (x : LineRecord) (r : BandResult)

/-- The dwell update touches no run (R26). -/
theorem LineRecord.dwellUpdate_eq : x.dwellUpdate r = { x with
    dwellBand := (x.dwellUpdate r).dwellBand, dwellCount := (x.dwellUpdate r).dwellCount
    clearCount := (x.dwellUpdate r).clearCount } := by
  unfold dwellUpdate
  split <;> split <;> rfl

/-- A band result brings the run, the dwell, the clear count and the lockout count up to date, and nothing else. -/
theorem LineRecord.update_eq : x.update r = { x with
    runKind := (x.update r).runKind, runLength := (x.update r).runLength
    pendingBreak := (x.update r).pendingBreak, loopCount := (x.update r).loopCount
    lastBreak := (x.update r).lastBreak, dwellBand := (x.update r).dwellBand
    dwellCount := (x.update r).dwellCount, clearCount := (x.update r).clearCount
    lockoutCount := (x.update r).lockoutCount } := by
  unfold update
  rw [dwellUpdate_eq]
  unfold runUpdate makeRun breakRun neutralRun
  split <;> split <;> (try split) <;> rfl

@[simp] theorem LineRecord.update_faultKind : (x.update r).faultKind = x.faultKind := by rw [update_eq]
@[simp] theorem LineRecord.update_digits : (x.update r).digits = x.digits := by rw [update_eq]
@[simp] theorem LineRecord.update_pulses : (x.update r).pulses = x.pulses := by rw [update_eq]
@[simp] theorem LineRecord.update_codeTimer : (x.update r).codeTimer = x.codeTimer := by rw [update_eq]
@[simp] theorem LineRecord.update_ringPhase : (x.update r).ringPhase = x.ringPhase := by rw [update_eq]
@[simp] theorem LineRecord.update_ringPosition : (x.update r).ringPosition = x.ringPosition := by rw [update_eq]
@[simp] theorem LineRecord.update_flags : (x.update r).flags = x.flags := by rw [update_eq]

/-- A make result extends a make run, with the pending break it merges, or begins one (R25, R33). -/
theorem LineRecord.update_make {b : Band} (hb : b = .loop ∨ b = .short) :
    (x.update (.band b)).runKind = some .make ∧ (x.update (.band b)).pendingBreak = 0 ∧
      (x.update (.band b)).lastBreak = x.lastBreak ∧
      (x.update (.band b)).runLength =
        (if x.runKind = some .make then min (x.runLength + x.pendingBreak + 1) 65535 else 1) ∧
      (x.update (.band b)).loopCount =
        (if b = .short then 0
         else if x.runKind = some .make then min (x.loopCount + x.pendingBreak + 1) 65535 else 1) ∧
      (x.state = .lockout → (x.update (.band b)).lockoutCount =
        min (x.lockoutCount + (if x.runKind = some .make then x.pendingBreak + 1 else 1)) 3750) := by
  have hx : x.update (.band b) = (x.makeRun (b = .loop)).dwellUpdate (.band b) := by
    rcases hb with rfl | rfl <;> rfl
  have hc : (b = .loop) ↔ ¬ b = .short := by
    rcases hb with rfl | rfl <;> decide
  rw [hx, dwellUpdate_eq]
  by_cases hm : x.runKind = some .make
  · simp +contextual [makeRun, makeStep, lockoutAfterMake, hm, hc, cap16, Nat.add_assoc, Config.lockoutLimit]
  · simp +contextual [makeRun, makeStep, lockoutAfterMake, hm, hc, Config.lockoutLimit]

/-- The run update of a break result goes by the run it finds (R25); the dwell is brought up to date beside it. -/
theorem LineRecord.update_break_eq {b : Band} (hl : b ≠ .loop) (hs : b ≠ .short) :
    x.update (.band b) = (x.breakRun b).dwellUpdate (.band b) := by
  cases b <;> trivial

/-- A break result of a make run is a pending break, and the third one ends the run (R25, R33). -/
theorem LineRecord.update_break {b : Band} (hl : b ≠ .loop) (hs : b ≠ .short) :
    (x.update (.band b)).lastBreak = some b ∧
      (x.runKind = some .make → x.pendingBreak < 2 →
        (x.update (.band b)).runKind = some .make ∧ (x.update (.band b)).runLength = x.runLength ∧
        (x.update (.band b)).pendingBreak = x.pendingBreak + 1 ∧ (x.update (.band b)).loopCount = x.loopCount ∧
        (x.update (.band b)).lockoutCount = x.lockoutCount) ∧
      (x.runKind = some .make → 2 ≤ x.pendingBreak →
        (x.update (.band b)).runKind = some .brk ∧ (x.update (.band b)).runLength = 3 ∧
        (x.update (.band b)).pendingBreak = 0 ∧ (x.update (.band b)).loopCount = 0 ∧
        (x.update (.band b)).lockoutCount = 0) ∧
      (x.runKind = some .brk → (x.update (.band b)).runKind = some .brk ∧
        (x.update (.band b)).runLength = min (x.runLength + 1) 65535) ∧
      (x.runKind = none → (x.update (.band b)).runKind = some .brk ∧ (x.update (.band b)).runLength = 1) := by
  rw [update_break_eq x hl hs, dwellUpdate_eq]
  unfold breakRun
  refine ⟨?_, fun hk hp => ?_, fun hk hp => ?_, fun hk => ?_, fun hk => ?_⟩
  · split
    · split <;> rfl
    · rfl
    · rfl
  · simp [hk, hp]
  · simp [hk, Nat.not_lt.mpr hp]
  · simp [hk, cap16]
  · simp [hk]

/-- The run update touches no dwell (R25). -/
theorem LineRecord.runUpdate_dwell : (x.runUpdate r).dwellBand = x.dwellBand ∧
    (x.runUpdate r).dwellCount = x.dwellCount ∧ (x.runUpdate r).clearCount = x.clearCount ∧
    (x.runUpdate r).state = x.state := by
  unfold runUpdate makeRun breakRun neutralRun
  split <;> split <;> (try split) <;> exact ⟨rfl, rfl, rfl, rfl⟩

/-- A result in a fault band dwells in it, or begins to (R26). -/
theorem LineRecord.update_faultBand {k : FaultKind} (h : r.faultBand = some k) :
    (x.update r).dwellBand = some k ∧ (x.update r).clearCount = 0 ∧
      (x.update r).dwellCount = (if x.dwellBand = some k then min (x.dwellCount + 1) 250 else 1) := by
  obtain ⟨hb, hd, -, -⟩ := x.runUpdate_dwell r
  unfold update dwellUpdate
  rw [h]
  dsimp only
  rw [hb, hd]
  split
  next hk => exact ⟨hk, rfl, rfl⟩
  · exact ⟨rfl, rfl, rfl⟩

/-- PRESENT ends a dwell and, in FAULT, counts towards its clearing (R26, R40). -/
theorem LineRecord.update_present : (x.update (.band .present)).dwellBand = none ∧
    (x.update (.band .present)).dwellCount = 0 ∧
    (x.update (.band .present)).clearCount = (if x.state = .fault then min (x.clearCount + 1) 250 else 0) := by
  obtain ⟨-, -, hc, hs⟩ := x.runUpdate_dwell (.band .present)
  refine ⟨rfl, rfl, ?_⟩
  rw [← hc, ← hs]
  rfl

/-- UNCLEAR extends a run, and nothing else (R25). -/
theorem LineRecord.update_unclear : x.update .unclear =
    if x.runKind = none then x else { x with runLength := min (x.runLength + 1) 65535 } := rfl

end Update

end Sys2Proof.Machine
end

section
/-! The checks of each line state on a record brought up to date (R28 to R40). -/

namespace Sys2Proof.Machine

open Sys2Proof

/-! ### What is due of a record -/

section Due

variable {y : LineRecord}

theorem LineRecord.faultDue_of_lt (h : y.dwellCount < 250) : y.faultDue = none :=
  if_neg (Nat.not_le.mpr h)

theorem LineRecord.faultDue_of_le {k : FaultKind} (h : 250 ≤ y.dwellCount) (hk : y.dwellBand = some k) :
    y.faultDue = some k := (if_pos h).trans hk

theorem LineRecord.hungUp_iff : y.hungUp = true ↔ y.runKind = some .brk ∧ 50 ≤ y.runLength := by
  rw [LineRecord.hungUp, Bool.and_eq_true, decide_eq_true_iff, decide_eq_true_iff]
  rfl

end Due

/-! ### A record written, its fault declared or cleared (R39, R40) -/

section Faults

variable (s : State) (l : LineNo) (y : LineRecord) (k : FaultKind)

/-- A fault declared: the flag and the kind in the record, the report "declared" and the journal record (R39, R40). -/
theorem State.setLine_declareFault : (s.setLine l y).declareFault l k =
    ((s.setLine l { y with faultKind := some k, flags := y.flags.raise (flagOf k) }).report
      (.lineFault l (flagOf k) .declared)).record (.lineFault l k true) := by
  simp [State.declareFault]

/-- Entry into FAULT (R39). -/
theorem State.setLine_enterFault : (s.setLine l y).enterFault l k =
    (((s.setLine l { y with
        state := .fault, faultKind := some k, clearCount := 0, ringPhase := none, ringPosition := 0
        flags := y.flags.raise (flagOf k) }).report
      (.lineFault l (flagOf k) .declared)).record (.lineFault l k true)).hand (.lineFault l k) := by
  simp [State.enterFault, State.declareFault]

/-- A fault cleared: the kind removed, the report and the journal record "cleared" (R40). -/
theorem State.setLine_clearFault (hk : y.faultKind = some k) : (s.setLine l y).clearFault l =
    ((s.setLine l { y with faultKind := none }).report (.lineFault l (flagOf k) .cleared)).record
      (.lineFault l k false) := by
  simp [State.clearFault, hk]

/-- A flag that is set already stays so, and makes no report (R41). -/
theorem State.setLine_setFlag_of_has {f : StickyFlag} (h : y.flags.has f = true) :
    (s.setLine l y).setFlag l f = s.setLine l y := by
  simp [State.setFlag, h]

/-- Setting a flag that is set changes nothing (R41). -/
theorem StickyFlags.raise_of_has {x : StickyFlags} {f : StickyFlag} (h : x.has f = true) : x.raise f = x := by
  obtain ⟨b₁, b₂, b₃, b₄, b₅, b₆, b₇⟩ := x
  cases f <;> simp_all [StickyFlags.has, StickyFlags.raise]

end Faults

/-! ### The checks (R28–R33, R37, R40) -/

section Checks

variable {s : State} {l : LineNo} {y : LineRecord} {k : FaultKind}

/-- No fault due, a SETTLING line is IDLE after PRESENT, or ACTIVE after six LOOP results (R28). -/
theorem State.checkSettling_setLine {r : BandResult} (h : y.dwellCount < 250) :
    (s.setLine l y).checkSettling l r =
      if r = .band .present then s.setLine l { y with state := .idle }
      else if 6 ≤ y.loopCount then (s.setLine l { y with state := .active }).hand (.offHookAtStart l)
      else s.setLine l y := by
  simp [State.checkSettling, LineRecord.faultDue_of_lt h, State.enter, Config.seizureLength]

/-- No fault due, an IDLE line is seized at six LOOP results (R29). -/
theorem State.checkIdle_setLine (h : y.dwellCount < 250) : (s.setLine l y).checkIdle l =
    if 6 ≤ y.loopCount then
      (s.setLine l { y with state := .collecting, digits := [], pulses := 0, codeTimer := 0 }).hand (.seizure l)
    else s.setLine l y := by
  simp [State.checkIdle, LineRecord.faultDue_of_lt h, State.seize, Config.seizureLength]

/-- No fault due, an ACTIVE line is IDLE after a hang-up (R32). -/
theorem State.checkActive_setLine (h : y.dwellCount < 250) : (s.setLine l y).checkActive l =
    if y.runKind = some .brk ∧ 50 ≤ y.runLength then
      (s.setLine l { y with state := .idle }).hand (if y.lastBreak = some .present then .hangUp l else .lineLost l)
    else s.setLine l y := by
  simp [State.checkActive, LineRecord.faultDue_of_lt h, LineRecord.hungUp_iff, State.enter]

/-- No fault due, a LOCKOUT line is IDLE after a hang-up and ACTIVE at its lockout count's end (R33). -/
theorem State.checkLockout_setLine (h : y.dwellCount < 250) : (s.setLine l y).checkLockout l =
    if y.runKind = some .brk ∧ 50 ≤ y.runLength then s.setLine l { y with state := .idle }
    else if 3750 ≤ y.lockoutCount then (s.setLine l { y with state := .active }).hand (.lockoutExpiry l)
    else s.setLine l y := by
  simp [State.checkLockout, LineRecord.faultDue_of_lt h, LineRecord.hungUp_iff, State.enter, Config.lockoutLimit]

/-- A RINGING line is tripped at six LOOP results, before its dwell is looked at (R37). -/
theorem State.checkRinging_setLine_trip (h : 6 ≤ y.loopCount) : (s.setLine l y).checkRinging l =
    (s.setLine l { y with state := .active, ringPhase := none, ringPosition := 0 }).hand (.answered l) := by
  simp [State.checkRinging, State.stopRinging, Config.seizureLength, h]

/-- A RINGING line that is not tripped stays so while no fault is due (R37). -/
theorem State.checkRinging_setLine (h : y.loopCount < 6) (hd : y.dwellCount < 250) :
    (s.setLine l y).checkRinging l = s.setLine l y := by
  simp [State.checkRinging, LineRecord.faultDue_of_lt hd, Config.seizureLength, h]

/-- No fault due, a line in FAULT stays there until its clear count's end or six LOOP results (R40). -/
theorem State.checkFault_setLine (h : y.dwellCount < 250) : (s.setLine l y).checkFault l =
    if 250 ≤ y.clearCount then (s.setLine l { y with state := .idle }).clearFault l
    else if 6 ≤ y.loopCount then ((s.setLine l y).clearFault l).seize l
    else s.setLine l y := by
  simp [State.checkFault, LineRecord.faultDue_of_lt h, State.enter, Config.seizureLength, Config.dwellLimit]

/-- A fault due of a line in FAULT: the other kind is declared, the same one sets its flag again (R40). -/
theorem State.checkFault_setLine_due (h : y.faultDue = some k) : (s.setLine l y).checkFault l =
    if y.faultKind = some k then (s.setLine l y).setFlag l (flagOf k) else (s.setLine l y).declareFault l k := by
  simp [State.checkFault, h]

theorem State.checkSettling_setLine_due {r : BandResult} (h : y.faultDue = some k) :
    (s.setLine l y).checkSettling l r = (s.setLine l y).enterFault l k := by
  simp [State.checkSettling, h]

theorem State.checkIdle_setLine_due (h : y.faultDue = some k) :
    (s.setLine l y).checkIdle l = (s.setLine l y).enterFault l k := by
  simp [State.checkIdle, h]

theorem State.checkActive_setLine_due (h : y.faultDue = some k) :
    (s.setLine l y).checkActive l = (s.setLine l y).enterFault l k := by
  simp [State.checkActive, h]

theorem State.checkLockout_setLine_due (h : y.faultDue = some k) :
    (s.setLine l y).checkLockout l = (s.setLine l y).enterFault l k := by
  simp [State.checkLockout, h]

/-- A RINGING line that is not tripped enters FAULT when one is due (R37, R38). -/
theorem State.checkRinging_setLine_due (hl : y.loopCount < 6) (h : y.faultDue = some k) :
    (s.setLine l y).checkRinging l = (s.setLine l y).enterFault l k := by
  simp [State.checkRinging, h, Config.seizureLength, hl]

end Checks

/-! ### A result taken that declares neither LEAK nor over-range (R24) -/

section Quiet

variable {s : State} {l : LineNo} {r : EvalResult}

theorem State.declarations_quiet (hl : r.leakDeclared = false) (ho : r.overRangeDeclared = false) :
    s.declarations l r = s := by
  simp [State.declarations, hl, ho]

theorem State.takeResult_eq_actOn (hu : (s.lines.get l).state ≠ .unequipped)
    (ho : (s.lines.get l).state ≠ .outOfService) (hr : (s.lines.get l).state ≠ .ringing) :
    s.takeResult l r = s.actOn l r := by
  unfold State.takeResult
  split <;> first | contradiction | rfl

theorem State.takeResult_settling (h : (s.lines.get l).state = .settling) (hl : r.leakDeclared = false)
    (ho : r.overRangeDeclared = false) :
    s.takeResult l r = (s.setLine l ((s.lines.get l).update r.band)).checkSettling l r.band := by
  simp [State.takeResult, State.actOn, State.declarations_quiet hl ho, State.mapLine, h]

theorem State.takeResult_idle (h : (s.lines.get l).state = .idle) (hl : r.leakDeclared = false)
    (ho : r.overRangeDeclared = false) :
    s.takeResult l r = (s.setLine l ((s.lines.get l).update r.band)).checkIdle l := by
  simp [State.takeResult, State.actOn, State.declarations_quiet hl ho, State.mapLine, h]

theorem State.takeResult_collecting (h : (s.lines.get l).state = .collecting) (hl : r.leakDeclared = false)
    (ho : r.overRangeDeclared = false) :
    s.takeResult l r = (s.setLine l { (s.lines.get l).update r.band with
      codeTimer := min ((s.lines.get l).codeTimer + 1) 320 }).checkCollecting l
        ((s.lines.get l).endedBreak r.band) := by
  simp [State.takeResult, State.actOn, State.declarations_quiet hl ho, State.mapLine, h, Config.codeTimerLimit]

theorem State.takeResult_active (h : (s.lines.get l).state = .active) (hl : r.leakDeclared = false)
    (ho : r.overRangeDeclared = false) :
    s.takeResult l r = (s.setLine l ((s.lines.get l).update r.band)).checkActive l := by
  simp [State.takeResult, State.actOn, State.declarations_quiet hl ho, State.mapLine, h]

theorem State.takeResult_lockout (h : (s.lines.get l).state = .lockout) (hl : r.leakDeclared = false)
    (ho : r.overRangeDeclared = false) :
    s.takeResult l r = (s.setLine l ((s.lines.get l).update r.band)).checkLockout l := by
  simp [State.takeResult, State.actOn, State.declarations_quiet hl ho, State.mapLine, h]

theorem State.takeResult_fault (h : (s.lines.get l).state = .fault) (hl : r.leakDeclared = false)
    (ho : r.overRangeDeclared = false) :
    s.takeResult l r = (s.setLine l ((s.lines.get l).update r.band)).checkFault l := by
  simp [State.takeResult, State.actOn, State.declarations_quiet hl ho, State.mapLine, h]

/-- The cadence moves a line to no other state (R36). -/
@[simp] theorem LineRecord.cadence_state (x : LineRecord) : x.cadence.state = x.state := by
  unfold LineRecord.cadence
  split <;> split <;> rfl

/-- Outside the counted part of a ring-off, only the cadence comes of a result (R36). -/
theorem State.takeResult_ringing (h : (s.lines.get l).state = .ringing)
    (hc : (s.lines.get l).cadence.counted = false) :
    s.takeResult l r = s.setLine l (s.lines.get l).cadence := by
  simp [State.takeResult, h, hc, State.mapLine]

/-- In the counted part of a ring-off a result is acted on, after the cadence (R36). -/
theorem State.takeResult_ringing_counted (h : (s.lines.get l).state = .ringing)
    (hc : (s.lines.get l).cadence.counted = true) :
    s.takeResult l r = (s.setLine l (s.lines.get l).cadence).actOn l r := by
  simp [State.takeResult, h, hc, State.mapLine]

/-- Such a result without a declaration comes to the checks of R37. -/
theorem State.takeResult_ringing_checked (h : (s.lines.get l).state = .ringing)
    (hc : (s.lines.get l).cadence.counted = true) (hl : r.leakDeclared = false) (ho : r.overRangeDeclared = false) :
    s.takeResult l r = (s.setLine l ((s.lines.get l).cadence.update r.band)).checkRinging l := by
  simp [State.takeResult_ringing_counted h hc, State.actOn, State.declarations_quiet hl ho, State.mapLine, h]

end Quiet

end Sys2Proof.Machine
end

section
/-! The declarations of a result (R16, R24, R41): each sets its flag, and no check of a line state takes it back. -/

namespace Sys2Proof.Machine

open Sys2Proof

/-! ### Setting a flag (R41) -/

section Flags

variable {s : State} {l : LineNo} {f : StickyFlag} {r : EvalResult}

/-- A flag set on a line is set in its record, whether it was set before or not (R41). -/
theorem State.setFlag_lines : (s.setFlag l f).lines =
    s.lines.set l { s.lines.get l with flags := (s.lines.get l).flags.raise f } := by
  unfold State.setFlag
  split
  next h => rw [StickyFlags.raise_of_has h, Table.set_get]
  · simp

/-- A flag that was clear makes its report (R41). -/
theorem State.setFlag_report (h : (s.lines.get l).flags.has f = false) (hr : s.link.reports < 16) :
    .report (.lineFault l f .set) ∈ (s.setFlag l f).link.output := by
  rw [State.setFlag, if_neg (by simp [h])]
  rw [State.report_output (s := s.mapLine l _) hr]
  simp

theorem State.output_prefix_setFlag (s : State) (l : LineNo) (f : StickyFlag) :
    s.link.output <+: (s.setFlag l f).link.output := by
  unfold State.setFlag
  split
  · exact List.prefix_rfl
  · exact State.output_prefix_report (s.mapLine l _) _

/-- A report adds one report at most to the output list (R181). -/
theorem State.report_reports_le (s : State) (q : Report) : (s.report q).link.reports ≤ s.link.reports + 1 := by
  unfold State.report
  split
  · simp [Link.reports, List.filter_cons]
    split <;> simp
  · exact Nat.le_succ _

theorem State.setFlag_reports_le (s : State) (l : LineNo) (f : StickyFlag) :
    (s.setFlag l f).link.reports ≤ s.link.reports + 1 := by
  unfold State.setFlag
  split
  · exact Nat.le_succ _
  · exact State.report_reports_le (s.mapLine l _) _

/-- The declarations of a result set their flags (R16, R24, R41). -/
theorem State.declarations_flags : ((s.declarations l r).lines.get l).flags.leak =
      ((s.lines.get l).flags.leak || r.leakDeclared) ∧
    ((s.declarations l r).lines.get l).flags.overRange =
      ((s.lines.get l).flags.overRange || r.overRangeDeclared) := by
  unfold State.declarations
  cases r.leakDeclared <;> cases r.overRangeDeclared <;> simp [State.setFlag_lines, StickyFlags.raise]

theorem State.declarations_leak_report (hr : s.link.reports < 16) (hd : r.leakDeclared = true)
    (hf : (s.lines.get l).flags.leak = false) :
    .report (.lineFault l .leak .set) ∈ (s.declarations l r).link.output := by
  have hm := State.setFlag_report (f := .leak) hf hr
  simp only [State.declarations, hd, if_true]
  split
  · exact (State.output_prefix_setFlag _ _ _).subset hm
  · exact hm

theorem State.declarations_overRange_report (hr : s.link.reports < 15) (hd : r.overRangeDeclared = true)
    (hf : (s.lines.get l).flags.overRange = false) :
    .report (.lineFault l .overRange .set) ∈ (s.declarations l r).link.output := by
  simp only [State.declarations, hd, if_true]
  refine State.setFlag_report ?_ ?_
  · split
    · simpa [State.setFlag_lines, StickyFlags.raise, StickyFlags.has] using hf
    · exact hf
  · split
    · have := State.setFlag_reports_le s l .leak
      omega
    · omega

end Flags

/-! ### The checks keep the declared flags and the reports made -/

/-- `t` keeps what `s` has reported, and the two flags of line `l` that a result can declare. -/
def State.keepsDeclared (s t : State) (l : LineNo) : Prop :=
  s.link.output <+: t.link.output ∧ (t.lines.get l).flags.leak = (s.lines.get l).flags.leak ∧
    (t.lines.get l).flags.overRange = (s.lines.get l).flags.overRange

section KeepsDeclared

variable {s t : State} {l : LineNo}

theorem State.keepsDeclared_refl (s : State) (l : LineNo) : s.keepsDeclared s l := ⟨List.prefix_rfl, rfl, rfl⟩

/-- A record changed but for the two flags. -/
theorem State.keepsDeclared.mapLine (h : s.keepsDeclared t l) {f : LineRecord → LineRecord}
    (hl : (f (t.lines.get l)).flags.leak = (t.lines.get l).flags.leak)
    (ho : (f (t.lines.get l)).flags.overRange = (t.lines.get l).flags.overRange) :
    s.keepsDeclared (t.mapLine l f) l := by
  obtain ⟨h1, h2, h3⟩ := h
  exact ⟨h1, by simp [hl, h2], by simp [ho, h3]⟩

theorem State.keepsDeclared.report (h : s.keepsDeclared t l) (r : Report) : s.keepsDeclared (t.report r) l := by
  obtain ⟨h1, h2, h3⟩ := h
  exact ⟨h1.trans (State.output_prefix_report t r), by simp [h2], by simp [h3]⟩

theorem State.keepsDeclared.record (h : s.keepsDeclared t l) (k : RecordKind) : s.keepsDeclared (t.record k) l := by
  obtain ⟨h1, h2, h3⟩ := h
  exact ⟨h1.trans (State.output_prefix_record t k), by simp [h2], by simp [h3]⟩

theorem State.keepsDeclared.hand (h : s.keepsDeclared t l) (e : LineEvent) : s.keepsDeclared (t.hand e) l := h

theorem State.keepsDeclared.enter (h : s.keepsDeclared t l) (st : LineState) : s.keepsDeclared (t.enter l st) l :=
  h.mapLine rfl rfl

/-- The flag of a fault kind is neither of the two (R39). -/
theorem StickyFlags.raise_flagOf (x : StickyFlags) (k : FaultKind) :
    (x.raise (flagOf k)).leak = x.leak ∧ (x.raise (flagOf k)).overRange = x.overRange := by
  cases k <;> exact ⟨rfl, rfl⟩

theorem State.keepsDeclared.declareFault (h : s.keepsDeclared t l) (k : FaultKind) :
    s.keepsDeclared (t.declareFault l k) l :=
  ((h.mapLine (StickyFlags.raise_flagOf _ k).1 (StickyFlags.raise_flagOf _ k).2).report _).record _

theorem State.keepsDeclared.enterFault (h : s.keepsDeclared t l) (k : FaultKind) :
    s.keepsDeclared (t.enterFault l k) l :=
  (State.keepsDeclared.declareFault (h.mapLine (f := fun x =>
    { x with state := .fault, clearCount := 0, ringPhase := none, ringPosition := 0 }) rfl rfl) k).hand _

theorem State.keepsDeclared.setFlag (h : s.keepsDeclared t l) (k : FaultKind) :
    s.keepsDeclared (t.setFlag l (flagOf k)) l := by
  unfold State.setFlag
  split
  · exact h
  · exact (h.mapLine (StickyFlags.raise_flagOf _ k).1 (StickyFlags.raise_flagOf _ k).2).report _

theorem State.keepsDeclared.clearFault (h : s.keepsDeclared t l) : s.keepsDeclared (t.clearFault l) l := by
  unfold State.clearFault
  split
  · exact ((h.mapLine (f := fun x => { x with faultKind := none }) rfl rfl).report _).record _
  · exact h

theorem State.keepsDeclared.seize (h : s.keepsDeclared t l) : s.keepsDeclared (t.seize l) l :=
  (h.mapLine (f := fun x => { x with state := .collecting, digits := [], pulses := 0, codeTimer := 0 }) rfl rfl).hand _

theorem State.keepsDeclared.endCollection (h : s.keepsDeclared t l) (c : CodeResult) :
    s.keepsDeclared (t.endCollection l c) l := (h.enter .active).hand _

theorem State.keepsDeclared.checkCollecting (h : s.keepsDeclared t l) (ended : Option Nat) :
    s.keepsDeclared (t.checkCollecting l ended) l := by
  have hd (p : Nat) : (LineRecord.digitEnd { t.lines.get l with pulses := p }).flags = (t.lines.get l).flags := by
    unfold LineRecord.digitEnd
    split <;> rfl
  have hs (p : Nat) : s.keepsDeclared (t.setLine l (LineRecord.digitEnd { t.lines.get l with pulses := p })) l :=
    h.mapLine (f := fun x => LineRecord.digitEnd { x with pulses := p }) (by rw [hd]) (by rw [hd])
  unfold State.checkCollecting
  dsimp only
  split
  · exact (h.enter _).hand _
  · split
    · exact h.enterFault _
    · split
      · exact (h.mapLine (by rfl) (by rfl)).endCollection _
      next p _ =>
        split
        · exact (hs p).endCollection _
        · split
          · exact (hs p).endCollection _
          · exact hs p

theorem State.keepsDeclared.checkSettling (h : s.keepsDeclared t l) (r : BandResult) : s.keepsDeclared (t.checkSettling l r) l := by
  unfold State.checkSettling
  dsimp only
  split
  · exact h.enterFault _
  · split
    · exact h.enter _
    · split
      · exact (h.enter _).hand _
      · exact h

theorem State.keepsDeclared.checkIdle (h : s.keepsDeclared t l) : s.keepsDeclared (t.checkIdle l) l := by
  unfold State.checkIdle
  dsimp only
  split
  · exact h.enterFault _
  · split
    · exact h.seize
    · exact h

theorem State.keepsDeclared.checkActive (h : s.keepsDeclared t l) : s.keepsDeclared (t.checkActive l) l := by
  unfold State.checkActive
  dsimp only
  split
  · exact h.enterFault _
  · split
    · exact (h.enter _).hand _
    · exact h

theorem State.keepsDeclared.checkLockout (h : s.keepsDeclared t l) : s.keepsDeclared (t.checkLockout l) l := by
  unfold State.checkLockout
  dsimp only
  split
  · exact h.enterFault _
  · split
    · exact h.enter _
    · split
      · exact (h.enter _).hand _
      · exact h

theorem State.keepsDeclared.checkRinging (h : s.keepsDeclared t l) : s.keepsDeclared (t.checkRinging l) l := by
  unfold State.checkRinging
  dsimp only
  split
  · exact (h.mapLine (f := fun x => { x with state := .active, ringPhase := none, ringPosition := 0 }) rfl rfl).hand _
  · split
    · exact h.enterFault _
    · exact h

theorem State.keepsDeclared.checkFault (h : s.keepsDeclared t l) : s.keepsDeclared (t.checkFault l) l := by
  unfold State.checkFault
  dsimp only
  split
  · split
    · exact h.setFlag _
    · exact h.declareFault _
  · split
    · exact (h.enter _).clearFault
    · split
      · exact h.clearFault.seize
      · exact h

/-- A result acted on sets what it declares, and the checks of the line's state keep it (R24). -/
theorem State.actOn_keepsDeclared (r : EvalResult) : (s.declarations l r).keepsDeclared (s.actOn l r) l := by
  have h : (s.declarations l r).keepsDeclared ((s.declarations l r).mapLine l fun x => x.update r.band) l :=
    (State.keepsDeclared_refl _ l).mapLine (by simp) (by simp)
  unfold State.actOn
  dsimp only
  split
  · exact h.checkSettling _
  · exact h.checkIdle
  · exact State.keepsDeclared.checkCollecting (h.mapLine (by rfl) (by rfl)) _
  · exact h.checkActive
  · exact h.checkLockout
  · exact h.checkRinging
  · exact h.checkFault
  · exact h
  · exact h

end KeepsDeclared

/-- A line whose results the LSC acts on: what the result declares is set, with its reports (R16, R24, R41). -/
theorem State.takeResult_declared {s : State} {l : LineNo} (r : EvalResult) (hu : (s.lines.get l).state ≠ .unequipped)
    (ho : (s.lines.get l).state ≠ .outOfService)
    (hr : (s.lines.get l).state = .ringing → (s.lines.get l).cadence.counted = true) :
    ∃ u : State, u.link = s.link ∧ (u.lines.get l).flags = (s.lines.get l).flags ∧
      (u.declarations l r).keepsDeclared (s.takeResult l r) l := by
  by_cases hring : (s.lines.get l).state = .ringing
  · refine ⟨s.setLine l (s.lines.get l).cadence, rfl, ?_, ?_⟩
    · simp only [State.setLine_lines, Table.get_set_self]
      unfold LineRecord.cadence
      split <;> split <;> rfl
    · rw [State.takeResult_ringing_counted hring (hr hring)]
      exact State.actOn_keepsDeclared r
  · refine ⟨s, rfl, rfl, ?_⟩
    rw [State.takeResult_eq_actOn hu ho hring]
    exact State.actOn_keepsDeclared r

end Sys2Proof.Machine
end

section
/-! Results taken by an equipped line (R24 to R41): the sixth LOOP result, and the ends of a line's counts. -/

namespace Sys2Proof.Machine

open Sys2Proof

section Cadence

variable {x : LineRecord}

theorem LineRecord.cadence_on (h : x.ringPhase = some .on) (hp : x.ringPosition < 125) :
    x.cadence = { x with ringPosition := x.ringPosition + 1 } := by
  simp [LineRecord.cadence, h, Config.ringOnLength, hp]

theorem LineRecord.cadence_on_end (h : x.ringPhase = some .on) (hp : x.ringPosition = 125) :
    x.cadence = { x with ringPhase := some .off, ringPosition := 1 } := by
  simp [LineRecord.cadence, h, Config.ringOnLength, hp]

theorem LineRecord.cadence_off (h : x.ringPhase = some .off) (hp : x.ringPosition < 250) :
    x.cadence = { x with ringPosition := x.ringPosition + 1 } := by
  simp [LineRecord.cadence, h, Config.ringOffLength, hp]

theorem LineRecord.cadence_off_end (h : x.ringPhase = some .off) (hp : x.ringPosition = 250) :
    x.cadence = { x with ringPhase := some .on, ringPosition := 1, loopCount := 0 } := by
  simp [LineRecord.cadence, h, Config.ringOffLength, hp]

theorem LineRecord.counted_eq_true (h : x.ringPhase = some .off) (hp : 7 ≤ x.ringPosition) : x.counted = true := by
  simp [LineRecord.counted, h, Config.ringCountedFrom, hp]

theorem LineRecord.counted_eq_false (h : x.ringPhase = some .on ∨ x.ringPosition < 7) : x.counted = false := by
  rcases h with h | h
  · simp [LineRecord.counted, h]
  · simp [LineRecord.counted, Config.ringCountedFrom, Nat.not_le.mpr h]

end Cadence

/-! ### The parts of O20 -/

section SixthLoop

variable {s : State} {l : LineNo}

/-- The sixth LOOP result of a make run of an IDLE line seizes it (R29). -/
theorem State.takeResult_sixthLoop (hs : (s.lines.get l).state = .idle) (hm : (s.lines.get l).runKind = some .make)
    (hp : (s.lines.get l).pendingBreak = 0) (hc : (s.lines.get l).loopCount = 5) :
    s.takeResult l ⟨.band .loop, false, false, false⟩ =
      (s.setLine l { (s.lines.get l).update (.band .loop) with
        state := .collecting, loopCount := 6, digits := [], pulses := 0, codeTimer := 0 }).hand (.seizure l) := by
  obtain ⟨-, -, -, -, hl, -⟩ := (s.lines.get l).update_make (b := .loop) (.inl rfl)
  have hl6 : ((s.lines.get l).update (.band .loop)).loopCount = 6 := by simpa [hm, hp, hc] using hl
  have hd : ((s.lines.get l).update (.band .loop)).dwellCount < 250 := by
    have : ((s.lines.get l).update (.band .loop)).dwellCount = 0 := rfl
    omega
  rw [State.takeResult_idle hs rfl rfl, State.checkIdle_setLine hd, if_pos (Nat.le_of_eq hl6.symm), ← hl6]

/-- LOOP ends a dwell and a count towards clearing (R26). -/
theorem LineRecord.update_loop (x : LineRecord) : (x.update (.band .loop)).dwellBand = none ∧
    (x.update (.band .loop)).dwellCount = 0 ∧ (x.update (.band .loop)).clearCount = 0 := ⟨rfl, rfl, rfl⟩

/-- A line in FAULT that reaches six LOOP results is cleared and seized (R40). -/
theorem State.takeResult_fault_seized {r : EvalResult} {y : LineRecord} {k : FaultKind}
    (hs : (s.lines.get l).state = .fault) (hl : r.leakDeclared = false) (ho : r.overRangeDeclared = false)
    (hy : y = (s.lines.get l).update r.band) (hk : y.faultKind = some k) (hd : y.dwellCount < 250)
    (hc : y.clearCount < 250) (h6 : 6 ≤ y.loopCount) :
    s.takeResult l r = (((s.setLine l { y with faultKind := none }).report
      (.lineFault l (flagOf k) .cleared)).record (.lineFault l k false)).seize l := by
  rw [State.takeResult_fault hs hl ho, ← hy, State.checkFault_setLine hd, if_neg (Nat.not_le.mpr hc), if_pos h6,
    State.setLine_clearFault _ _ _ _ hk]

end SixthLoop

/-- Settles O20: the updates by the kind of band, the declarations by `State.takeResult_declared`, and the sixth LOOP
result state by state. -/
theorem sixthLoopSeizesIdleLine : Obligations.SixthLoopSeizesIdleLine := by
  refine ⟨fun s l hs hm hp hc => ?_, ?_, fun s l r => ?_, ?_, ?_⟩
  · refine ⟨_, State.takeResult_sixthLoop hs hm hp hc, ?_⟩
    simp +contextual [Ne.symm]
  · rintro x y b rfl
    refine ⟨x.update_make, x.update_break, ?_, ?_, ?_, x.update_unclear⟩
    · rintro k (⟨rfl, rfl⟩ | ⟨rfl, rfl⟩ | ⟨rfl, rfl⟩) <;> exact x.update_faultBand _ rfl
    · rintro rfl
      exact x.update_present
    · rintro rfl
      exact x.update_loop
  · refine ⟨?_, fun hu ho hr => ?_⟩
    · rintro (h | h)
      · simp [State.takeResult, h]
      · exact State.takeResult_outOfService h
    · obtain ⟨u, hlink, hflags, hout, hleak, hover⟩ := State.takeResult_declared r hu ho hr
      obtain ⟨dleak, dover⟩ := State.declarations_flags (s := u) (l := l) (r := r)
      refine ⟨by rw [hleak, dleak, hflags], by rw [hover, dover, hflags], fun hn hd hf => ?_, fun hn hd hf => ?_⟩
      · exact hout.subset (State.declarations_leak_report (by rw [hlink]; omega) hd (by rw [hflags]; exact hf))
      · exact hout.subset (State.declarations_overRange_report (by rw [hlink]; omega) hd (by rw [hflags]; exact hf))
  · rintro s l b leak x y rfl rfl hd
    refine ⟨fun hs => ?_, fun hs => ?_, fun k hs hk hc => ⟨fun h6 => ?_, fun h6 => ?_⟩⟩
    · rw [State.takeResult_idle hs rfl rfl]
      exact State.checkIdle_setLine hd
    · rw [State.takeResult_settling hs rfl rfl]
      exact State.checkSettling_setLine hd
    · rw [State.takeResult_fault hs rfl rfl, State.checkFault_setLine hd, if_neg (Nat.not_le.mpr hc),
        if_neg (Nat.not_le.mpr h6)]
    · refine ⟨_, State.takeResult_fault_seized hs rfl rfl rfl (by simpa using hk) hd hc h6, ?_, ?_, fun hr => ?_,
        fun hj => ?_⟩
      · simp [State.seize]
      · simp [State.seize]
      · exact State.mem_report_record (s := s.setLine l _) hr
      · exact State.report_record_records (s := s.setLine l _) hj
  · rintro s l r x y hs rfl rfl
    refine ⟨LineRecord.cadence_on, LineRecord.cadence_off,
      fun h => State.takeResult_ringing hs (LineRecord.counted_eq_false h), fun hp h7 hl ho => ?_⟩
    rw [State.takeResult_ringing_checked hs (LineRecord.counted_eq_true hp h7) hl ho]
    refine ⟨fun h6 => State.checkRinging_setLine_trip h6, fun h6 hd => State.checkRinging_setLine h6 hd,
      fun k h6 hd hb => ?_⟩
    rw [State.checkRinging_setLine_due h6 (LineRecord.faultDue_of_le hd hb), State.setLine_enterFault]
    simp

end Sys2Proof.Machine
end

section
/-! Code collection (R30, R31) and the other counts of a line at their ends. -/

namespace Sys2Proof.Machine

open Sys2Proof

/-! ### Collection -/

section Collecting

variable {s : State} {l : LineNo} {y : LineRecord} {ended : Option Nat}

/-- Check 2 of R30: a hang-up comes before every other check. -/
theorem State.checkCollecting_setLine_hungUp (h : y.hungUp = true) : (s.setLine l y).checkCollecting l ended =
    (s.setLine l { y with state := .idle }).hand (.hangUp l) := by
  simp [State.checkCollecting, h, State.enter]

/-- Check 3 of R30: a fault that is due. -/
theorem State.checkCollecting_setLine_due {k : FaultKind} (hn : y.hungUp = false) (h : y.faultDue = some k) :
    (s.setLine l y).checkCollecting l ended = (s.setLine l y).enterFault l k := by
  simp [State.checkCollecting, hn, h]

/-- Check 4 of R30: a pulse that makes the code INVALID. -/
theorem State.checkCollecting_setLine_invalid (hn : y.hungUp = false) (hd : y.faultDue = none)
    (hp : pulseAfter y.pulses (ended.getD 0) = none) : (s.setLine l y).checkCollecting l ended =
      (s.setLine l { y with
        state := .active, pulses := if ended.getD 0 ≤ 15 then y.pulses + 1 else y.pulses }).hand
          (.codeResult l .invalid) := by
  simp [State.checkCollecting, hn, hd, hp, State.endCollection, State.enter]

/-- Checks 5 and 6 of R30, on the record with its pulses counted: the end of a digit, four digits, the code timer. -/
theorem State.checkCollecting_setLine {p : Nat} {z : LineRecord} (hn : y.hungUp = false) (hd : y.faultDue = none)
    (hp : pulseAfter y.pulses (ended.getD 0) = some p) (hz : z = LineRecord.digitEnd { y with pulses := p }) :
    (s.setLine l y).checkCollecting l ended =
      if 4 ≤ z.digits.length then (s.setLine l { z with state := .active }).hand (.codeResult l (codeOf z.digits))
      else if 320 ≤ z.codeTimer then (s.setLine l { z with state := .active }).hand (.codeResult l .missing)
      else s.setLine l z := by
  subst hz
  simp [State.checkCollecting, hn, hd, hp, State.endCollection, State.enter, Config.codeTimerLimit]

/-- A break that no make result ended counts no pulse (R30, check 4). -/
theorem pulseAfter_zero (n : Nat) : pulseAfter n 0 = some n := rfl

/-- A line whose code timer has come to its end collects no longer, whatever check comes first (R30, R31). -/
theorem State.checkCollecting_setLine_timer (hy : y.codeTimer = 320) :
    (((s.setLine l y).checkCollecting l ended).lines.get l).codeTimer = 320 ∧
      (((s.setLine l y).checkCollecting l ended).lines.get l).state ≠ .collecting := by
  cases hn : y.hungUp with
  | true =>
    rw [State.checkCollecting_setLine_hungUp hn]
    simp [hy]
  | false =>
    cases hd : y.faultDue with
    | some k =>
      rw [State.checkCollecting_setLine_due hn hd, State.setLine_enterFault]
      simp [hy]
    | none =>
      cases hp : pulseAfter y.pulses (ended.getD 0) with
      | none =>
        rw [State.checkCollecting_setLine_invalid hn hd hp]
        simp [hy]
      | some p =>
        have hz : (LineRecord.digitEnd { y with pulses := p }).codeTimer = 320 := by
          unfold LineRecord.digitEnd
          split <;> exact hy
        rw [State.checkCollecting_setLine hn hd hp rfl, if_pos (Nat.le_of_eq hz.symm)]
        split <;> simp [hz]

/-- No digit ends while no pulse is counted, the line does not make, or its make run is short (R30, check 5). -/
theorem LineRecord.digitEnd_of_not {x : LineRecord}
    (h : ¬ (x.runKind = some .make ∧ 1 ≤ x.pulses ∧ 30 ≤ x.runLength)) : x.digitEnd = x := if_neg h

/-- A pulse is counted for a break of 3 to 15 evaluations; an eleventh one, and a break of 16 to 49, make the code
INVALID (R30, check 4). -/
theorem pulseAfter_eq (n len : Nat) : pulseAfter n len =
    if 3 ≤ len ∧ len ≤ 15 ∧ 11 ≤ n + 1 ∨ 16 ≤ len ∧ len ≤ 49 then none
    else some (if 3 ≤ len ∧ len ≤ 15 then n + 1 else n) := by
  unfold pulseAfter
  split_ifs <;> first | rfl | omega

/-- Four digits make their number (R31). -/
theorem codeOf_four (a b c d : Fin 10) :
    codeOf [a, b, c, d] = .digits (Fin.ofNat 10000 (1000 * a.val + 100 * b.val + 10 * c.val + d.val)) := by
  have : ((a.val * 10 + b.val) * 10 + c.val) * 10 + d.val = 1000 * a.val + 100 * b.val + 10 * c.val + d.val := by omega
  simp [codeOf, this]

end Collecting

/-! ### The rows that name an end of a count (log entry 5) -/

section Rows

variable {s : State} {e : LineSample} {m : Measurement} {r : EvalResult}

theorem exec_codeTimerExpiry (hs : s.held = false) :
    exec (.codeTimerExpiry e) s = .next (s.evaluateWhere e fun x _ => x.codeTimerEnds) := by
  change execCodeTimerExpiry e s = _
  rw [execCodeTimerExpiry, State.running_of _ _ hs]

theorem exec_lockoutCountExpiry (hs : s.held = false) :
    exec (.lockoutCountExpiry e) s = .next (s.evaluateWhere e fun x r => x.lockoutEnds r.band) := by
  change execLockoutCountExpiry e s = _
  rw [execLockoutCountExpiry, State.running_of _ _ hs]

theorem exec_ringPhaseChange (hs : s.held = false) :
    exec (.ringPhaseChange e) s = .next (s.evaluateWhere e fun x _ => x.ringPhaseEnds) := by
  change execRingPhaseChange e s = _
  rw [execRingPhaseChange, State.running_of _ _ hs]

/-- The declarations of a result change the flags of its line's record alone (R41). -/
theorem State.declarations_lines (s : State) (l : LineNo) (r : EvalResult) : ∃ fl, (s.declarations l r).lines =
    s.lines.set l { s.lines.get l with flags := fl } := by
  unfold State.declarations
  cases r.leakDeclared <;> cases r.overRangeDeclared <;>
    simp only [Bool.false_eq_true, if_false, if_true, State.setFlag_lines, Table.get_set_self, Table.set_set]
  · exact ⟨(s.lines.get l).flags, by rw [Table.set_get]⟩
  · exact ⟨_, rfl⟩
  · exact ⟨_, rfl⟩
  · exact ⟨_, rfl⟩

/-- The evaluation that raises the code timer to 320 ends collection, whatever its result declares (R30, R31). -/
theorem State.takeResult_codeTimer_end {l : LineNo} (hc : (s.lines.get l).state = .collecting)
    (ht : (s.lines.get l).codeTimer = 319) :
    ((s.takeResult l r).lines.get l).codeTimer = 320 ∧ ((s.takeResult l r).lines.get l).state ≠ .collecting := by
  obtain ⟨fl, hfl⟩ := State.declarations_lines s l r
  rw [State.takeResult_eq_actOn (by simp [hc]) (by simp [hc]) (by simp [hc])]
  unfold State.actOn
  simp only [hc]
  exact State.checkCollecting_setLine_timer (by simp [hfl, ht, Config.codeTimerLimit])

/-- That evaluation where no check of R30 before the sixth applies: the code is MISSING. -/
theorem State.takeResult_codeTimer_missing {l : LineNo} {y : LineRecord} (hy : y = (s.lines.get l).update r.band)
    (hc : (s.lines.get l).state = .collecting) (ht : (s.lines.get l).codeTimer = 319)
    (hl : r.leakDeclared = false) (ho : r.overRangeDeclared = false) (hd : y.dwellCount < 250)
    (hh : y.runKind ≠ some .brk ∨ y.runLength < 50)
    (he : y.runKind ≠ some .make ∨ (s.lines.get l).pulses = 0 ∨ y.runLength < 30)
    (hb : (s.lines.get l).runKind = some .brk → r.band ≠ .band .loop ∧ r.band ≠ .band .short)
    (h4 : (s.lines.get l).digits.length < 4) :
    s.takeResult l r = (s.setLine l { y with state := .active, codeTimer := 320 }).hand (.codeResult l .missing) := by
  subst hy
  have hend : (s.lines.get l).endedBreak r.band = none := by
    refine if_neg fun ⟨hm, hk⟩ => ?_
    obtain ⟨h1, h2⟩ := hb hk
    revert hm
    unfold BandResult.kind
    split <;> simp_all
  have hhung : ({ (s.lines.get l).update r.band with codeTimer := 320 } : LineRecord).hungUp = false := by
    rw [← Bool.not_eq_true, LineRecord.hungUp_iff]
    dsimp only
    rintro ⟨h1, h2⟩
    rcases hh with h | h
    · exact h h1
    · omega
  have hdig : LineRecord.digitEnd { (s.lines.get l).update r.band with codeTimer := 320 } =
      { (s.lines.get l).update r.band with codeTimer := 320 } := by
    refine LineRecord.digitEnd_of_not ?_
    simp only [LineRecord.update_pulses]
    rintro ⟨h1, h2, h3⟩
    rcases he with h | h | h
    · exact h h1
    · omega
    · omega
  rw [State.takeResult_collecting hc hl ho, ht, hend]
  refine (State.checkCollecting_setLine hhung (LineRecord.faultDue_of_lt hd) (pulseAfter_zero _) hdig.symm).trans ?_
  simp [Nat.not_le.mpr h4]

end Rows

end Sys2Proof.Machine
end

section
/-! The ends of a line's counts, by its state (R30 to R33, R36, R38 to R40). -/

namespace Sys2Proof.Machine

open Sys2Proof

section Ends

variable {s : State} {l : LineNo} {r : EvalResult} {y : LineRecord} {k : FaultKind}

/-- The evaluation of make at which the lockout count of a LOCKOUT line reaches its limit (R33). -/
theorem State.takeResult_lockout_end (hy : y = (s.lines.get l).update r.band) (hs : (s.lines.get l).state = .lockout)
    (hc : y.lockoutCount = 3750) (hb : r.band = .band .loop ∨ r.band = .band .short) (hl : r.leakDeclared = false)
    (ho : r.overRangeDeclared = false) (hd : y.dwellCount < 250) :
    s.takeResult l r = (s.setLine l { y with state := .active }).hand (.lockoutExpiry l) := by
  have hm : y.runKind = some .make := by
    rw [hy]
    rcases hb with hb | hb <;> rw [hb]
    · exact (LineRecord.update_make _ (.inl rfl)).1
    · exact (LineRecord.update_make _ (.inr rfl)).1
  rw [State.takeResult_lockout hs hl ho, ← hy, State.checkLockout_setLine hd, if_neg (by simp [hm]),
    if_pos (Nat.le_of_eq hc.symm)]

/-- A fault due takes a line to FAULT; of a COLLECTING line a hang-up comes first (R30, R38, R39). -/
theorem State.takeResult_enterFault (hy : y = (s.lines.get l).update r.band) (hl : r.leakDeclared = false)
    (ho : r.overRangeDeclared = false) (hd : 250 ≤ y.dwellCount) (hk : y.dwellBand = some k)
    (hs : (s.lines.get l).state = .settling ∨ (s.lines.get l).state = .idle ∨ (s.lines.get l).state = .active ∨
      (s.lines.get l).state = .lockout ∨
      (s.lines.get l).state = .collecting ∧ (y.runKind ≠ some .brk ∨ y.runLength < 50)) :
    s.takeResult l r = (s.setLine l { y with
      codeTimer := if (s.lines.get l).state = .collecting then min ((s.lines.get l).codeTimer + 1) 320
        else (s.lines.get l).codeTimer }).enterFault l k := by
  have hdue : y.faultDue = some k := LineRecord.faultDue_of_le hd hk
  have hsame (h : (s.lines.get l).state ≠ .collecting) : { y with
      codeTimer := if (s.lines.get l).state = .collecting then min ((s.lines.get l).codeTimer + 1) 320
        else (s.lines.get l).codeTimer } = y := by
    rw [if_neg h, ← LineRecord.update_codeTimer (s.lines.get l) r.band, ← hy]
  rcases hs with h | h | h | h | ⟨h, hh⟩
  · rw [hsame (by simp [h]), State.takeResult_settling h hl ho, ← hy, State.checkSettling_setLine_due hdue]
  · rw [hsame (by simp [h]), State.takeResult_idle h hl ho, ← hy, State.checkIdle_setLine_due hdue]
  · rw [hsame (by simp [h]), State.takeResult_active h hl ho, ← hy, State.checkActive_setLine_due hdue]
  · rw [hsame (by simp [h]), State.takeResult_lockout h hl ho, ← hy, State.checkLockout_setLine_due hdue]
  · rw [State.takeResult_collecting h hl ho, ← hy, if_pos h]
    refine State.checkCollecting_setLine_due ?_ hdue
    rw [← Bool.not_eq_true, LineRecord.hungUp_iff]
    rintro ⟨h1, h2⟩
    rcases hh with h | h
    · exact h h1
    · exact absurd h (Nat.not_lt.mpr h2)

/-- The clear count of a line in FAULT at its end (R40). -/
theorem State.takeResult_fault_cleared (hy : y = (s.lines.get l).update r.band) (hl : r.leakDeclared = false)
    (ho : r.overRangeDeclared = false) (hs : (s.lines.get l).state = .fault) (hk : (s.lines.get l).faultKind = some k)
    (hd : y.dwellCount < 250) (hc : 250 ≤ y.clearCount) :
    s.takeResult l r = ((s.setLine l { y with state := .idle, faultKind := none }).report
      (.lineFault l (flagOf k) .cleared)).record (.lineFault l k false) := by
  rw [State.takeResult_fault hs hl ho, ← hy, State.checkFault_setLine hd, if_pos hc,
    State.setLine_clearFault (k := k) _ _ _ (by simpa [hy] using hk)]

/-- A fault due of a line in FAULT (R40). -/
theorem State.takeResult_fault_due (hy : y = (s.lines.get l).update r.band) (hl : r.leakDeclared = false)
    (ho : r.overRangeDeclared = false) (hs : (s.lines.get l).state = .fault) (hd : 250 ≤ y.dwellCount)
    (hk : y.dwellBand = some k) :
    s.takeResult l r =
      if (s.lines.get l).faultKind = some k then (s.setLine l y).setFlag l (flagOf k)
      else (s.setLine l y).declareFault l k := by
  have hf : (s.lines.get l).faultKind = y.faultKind := by rw [hy, LineRecord.update_faultKind]
  rw [State.takeResult_fault hs hl ho, ← hy, State.checkFault_setLine_due (LineRecord.faultDue_of_le hd hk), hf]

end Ends

/-! ### A COLLECTING line that is not hung up and has no fault due (R30, R31) -/

section Collection

variable {x : LineRecord}

/-- The length of the break that a result ends by make, 0 where it ends none (R30). -/
theorem LineRecord.endedBreak_getD (x : LineRecord) (b : BandResult) : (x.endedBreak b).getD 0 =
    if x.runKind = some .brk ∧ (b = .band .loop ∨ b = .band .short) then x.runLength else 0 := by
  have hb : b.kind = .make ↔ b = .band .loop ∨ b = .band .short := by
    unfold BandResult.kind
    split <;> simp_all
  simp only [LineRecord.endedBreak, hb, and_comm (a := x.runKind = some .brk)]
  split <;> rfl

/-- The end of a digit puts its pulses down as the digit, and begins to count anew (R30, check 5). -/
theorem LineRecord.digitEnd_eq {ds : List (Fin 10)} (hd : ds =
    if x.runKind = some .make ∧ 1 ≤ x.pulses ∧ 30 ≤ x.runLength then x.digits ++ [Fin.ofNat 10 x.pulses]
    else x.digits) : x.digitEnd = { x with digits := ds, pulses := if ds = x.digits then x.pulses else 0 } := by
  have hp : Fin.ofNat 10 (x.pulses % 10) = Fin.ofNat 10 x.pulses := Fin.ext (Nat.mod_mod _ _)
  subst hd
  unfold LineRecord.digitEnd
  by_cases h : x.runKind = some .make ∧ 1 ≤ x.pulses ∧ 30 ≤ x.runLength
  · rw [if_pos (show x.runKind = some .make ∧ 1 ≤ x.pulses ∧ Config.digitEndLength ≤ x.runLength from h), if_pos h,
      if_neg (by simp), hp]
  · rw [if_neg (show ¬ (x.runKind = some .make ∧ 1 ≤ x.pulses ∧ Config.digitEndLength ≤ x.runLength) from h), if_neg h,
      if_pos rfl]

/-- A fourth digit at most (R30, R31). -/
theorem collected_length_le {ds : List (Fin 10)} {d : Fin 10} {p : Prop} [Decidable p] (h : x.digits.length ≤ 3)
    (hd : ds = if p then x.digits ++ [d] else x.digits) : ds.length ≤ 4 := by
  subst hd
  split
  · rw [List.length_append]
    exact Nat.succ_le_succ h
  · omega

end Collection

/-! ### The rows that name an end of a count (log entries 3 and 5) -/

theorem LineRecord.codeTimerEnds_iff {x : LineRecord} :
    x.codeTimerEnds = true ↔ x.state = .collecting ∧ 320 ≤ x.codeTimer + 1 := by
  rw [LineRecord.codeTimerEnds, Bool.and_eq_true, decide_eq_true_iff, decide_eq_true_iff]
  rfl

theorem LineRecord.lockoutEnds_iff {x : LineRecord} {r : BandResult} :
    x.lockoutEnds r = true ↔ x.state = .lockout ∧ 3750 ≤ (x.update r).lockoutCount := by
  rw [LineRecord.lockoutEnds, Bool.and_eq_true, decide_eq_true_iff, decide_eq_true_iff]
  rfl

theorem LineRecord.ringPhaseEnds_iff {x : LineRecord} : x.ringPhaseEnds = true ↔
    x.state = .ringing ∧ x.ringPosition = if x.ringPhase = some .off then 250 else 125 := by
  rw [LineRecord.ringPhaseEnds, Bool.and_eq_true, decide_eq_true_iff, decide_eq_true_iff]
  rfl

/-- RING_PHASE_CHANGE passes the last position of a phase, outside the counted part of ring-off (R36). -/
theorem exec_ringPhaseChange_due {s : State} {e : LineSample} {m : Measurement} {r : EvalResult} {z : LineRecord}
    (hs : s.held = false) (hm : s.measure e.line e.loop.toInt e.ground.toInt = (m, some r))
    (hr : (s.lines.get e.line).state = .ringing) (hd : (s.lines.get e.line).ringPhaseEnds = true)
    (hz : (s.lines.get e.line).cadence = z) (hc : z.counted = false) :
    exec (.ringPhaseChange e) s = .next ((s.setMeasurement e.line m).setLine e.line z) := by
  subst hz
  rw [exec_ringPhaseChange hs, State.evaluateWhere_due hm hd,
    State.takeResult_ringing (s := s.setMeasurement e.line m) hr hc]
  rfl

/-- A row that names an end of a count is SAMPLE_PAIR's evaluation where it brings that end, and otherwise nothing. -/
theorem countEndRow_of_not_due {s : State} {e : LineSample} {due : LineRecord → EvalResult → Bool} {m : Measurement}
    {r : EvalResult} (hm : s.measure e.line e.loop.toInt e.ground.toInt = (m, some r))
    (hd : due (s.lines.get e.line) r ≠ true) :
    (.next (s.evaluateWhere e due) : Host.Outcome State Fault Refusal) = .next s := by
  rw [State.evaluateWhere_not_due hm (Bool.eq_false_iff.mpr hd)]

/-- Settles O21: the rows by the end they name, then each count at its end by the state of its line. -/
theorem lineTimersReachTheirEnds : Obligations.LineTimersReachTheirEnds := by
  refine ⟨?_, fun s e hs hn => ?_, ?_, ?_, ?_, ?_⟩
  · rintro s e m r x y hs hm rfl hy
    refine ⟨fun hc ht => ?_, fun hc hn hb => ?_, fun hr hp ht => ?_, fun hr hp ht => ?_, fun h => ?_, fun h => ?_,
      fun h => ?_⟩
    · have hdue : (s.lines.get e.line).codeTimerEnds = true :=
        LineRecord.codeTimerEnds_iff.mpr ⟨hc, by omega⟩
      obtain ⟨h320, hne⟩ := State.takeResult_codeTimer_end (s := s.setMeasurement e.line m) (r := r) hc ht
      refine ⟨_, ?_, exec_samplePair_evaluation hs (by simp [hc]) hm, rfl, h320, hne, fun hl ho hd hh he hb h4 => ?_⟩
      · rw [exec_codeTimerExpiry hs, State.evaluateWhere_due hm hdue]
      · rw [State.takeResult_codeTimer_missing (s := s.setMeasurement e.line m) hy hc ht hl ho hd hh he hb h4]
        rfl
    · have hdue : (s.lines.get e.line).lockoutEnds r.band = true :=
        LineRecord.lockoutEnds_iff.mpr ⟨hc, hy ▸ Nat.le_of_eq hn.symm⟩
      refine ⟨_, ?_, exec_samplePair_evaluation hs (by simp [hc]) hm, fun hl ho hd => ?_⟩
      · rw [exec_lockoutCountExpiry hs, State.evaluateWhere_due hm hdue]
      · rw [State.takeResult_lockout_end (s := s.setMeasurement e.line m) hy hc hn hb hl ho hd]
        rfl
    · exact exec_ringPhaseChange_due hs hm hr (LineRecord.ringPhaseEnds_iff.mpr ⟨hr, by simp [hp, ht]⟩)
        (LineRecord.cadence_on_end hp ht) (by simp [LineRecord.counted, Config.ringCountedFrom])
    · exact exec_ringPhaseChange_due hs hm hr (LineRecord.ringPhaseEnds_iff.mpr ⟨hr, by simp [hp, ht]⟩)
        (LineRecord.cadence_off_end hp ht) (by simp [LineRecord.counted])
    · rw [exec_codeTimerExpiry hs]
      refine countEndRow_of_not_due hm fun hd => ?_
      obtain ⟨hst, ht⟩ := LineRecord.codeTimerEnds_iff.mp hd
      rcases h with h | h
      · exact h hst
      · omega
    · rw [exec_lockoutCountExpiry hs]
      refine countEndRow_of_not_due hm fun hd => ?_
      obtain ⟨hst, ht⟩ := LineRecord.lockoutEnds_iff.mp hd
      rw [← hy] at ht
      rcases h with h | h
      · exact h hst
      · omega
    · rw [exec_ringPhaseChange hs]
      refine countEndRow_of_not_due hm fun hd => ?_
      obtain ⟨hst, ht⟩ := LineRecord.ringPhaseEnds_iff.mp hd
      rcases h with h | ⟨h, h'⟩ | ⟨h, h'⟩
      · exact h hst
      · rw [if_neg (by simp [h])] at ht
        omega
      · rw [if_pos h] at ht
        omega
  · rw [exec_codeTimerExpiry hs, exec_lockoutCountExpiry hs, exec_ringPhaseChange hs, State.evaluateWhere_open hn,
      State.evaluateWhere_open hn, State.evaluateWhere_open hn]
    exact ⟨rfl, rfl, rfl⟩
  · rintro s l b leak x y k t rfl hy rfl hd hk
    refine ⟨fun hs => ?_, fun hs hne => ?_, fun hs heq => ?_⟩
    · rw [State.takeResult_enterFault hy rfl rfl hd hk hs, State.setLine_enterFault]
      exact ⟨by simp, by simp, fun hr => State.mem_report_record (s := s.setLine l _) hr,
        fun hj => State.report_record_records (s := s.setLine l _) hj⟩
    · rw [State.takeResult_fault_due hy rfl rfl hs hd hk, if_neg hne, State.setLine_declareFault]
      exact ⟨by simp, by simp, fun hr => State.mem_report_record (s := s.setLine l _) hr,
        fun hj => State.report_record_records (s := s.setLine l _) hj⟩
    · rw [State.takeResult_fault_due hy rfl rfl hs hd hk, if_pos heq]
      refine ⟨by simp [State.setFlag_lines], by simp, by simp, fun hf => ?_, fun hf hr => ?_⟩
      · rw [State.setLine_setFlag_of_has _ _ _ hf]
        rfl
      · exact State.setFlag_report (s := s.setLine l y) (by simpa using hf) hr
  · rintro s l b leak x y k t rfl hy rfl hs hk hd hc
    rw [State.takeResult_fault_cleared hy rfl rfl hs hk hd hc]
    exact ⟨by simp, by simp, fun hr => State.mem_report_record (s := s.setLine l _) hr,
      fun hj => State.report_record_records (s := s.setLine l _) hj⟩
  · rintro s l b leak x y rfl rfl hd
    refine ⟨fun hs => ?_, fun hs => ?_⟩
    · rw [State.takeResult_active hs rfl rfl]
      exact State.checkActive_setLine hd
    · rw [State.takeResult_lockout hs rfl rfl]
      exact State.checkLockout_setLine hd
  · rintro s l b leak x y ended pulses digits rfl hs h3 hy hended hpulses hdigits
    have hpul : y.pulses = (s.lines.get l).pulses := by rw [hy]; simp
    have hdig : y.digits = (s.lines.get l).digits := by rw [hy]; simp
    have htake : s.takeResult l ⟨b, leak, false, false⟩ =
        (s.setLine l y).checkCollecting l ((s.lines.get l).endedBreak b) := by
      rw [State.takeResult_collecting hs rfl rfl, hy]
    have hend : ((s.lines.get l).endedBreak b).getD 0 = ended := by rw [LineRecord.endedBreak_getD, hended]
    refine ⟨fun hb h50 => ?_, fun hn hd => ?_⟩
    · rw [htake, State.checkCollecting_setLine_hungUp (LineRecord.hungUp_iff.mpr ⟨hb, h50⟩)]
      rfl
    · have hhung : y.hungUp = false := by
        rw [← Bool.not_eq_true, LineRecord.hungUp_iff]
        rintro ⟨h1, h2⟩
        rcases hn with h | h
        · exact h h1
        · omega
      have hdue := LineRecord.faultDue_of_lt hd
      refine ⟨fun hinv => ?_, fun hval => ?_⟩
      · have hp : pulseAfter y.pulses (((s.lines.get l).endedBreak b).getD 0) = none := by
          rw [hend, hpul, pulseAfter_eq, if_pos (by split at hpulses <;> omega)]
        rw [htake, State.checkCollecting_setLine_invalid hhung hdue hp, hend, hpul]
        have : (if ended ≤ 15 then (s.lines.get l).pulses + 1 else (s.lines.get l).pulses) = pulses := by
          split at hpulses <;> split <;> omega
        rw [this]
        rfl
      · have hp : pulseAfter y.pulses (((s.lines.get l).endedBreak b).getD 0) = some pulses := by
          rw [hend, hpul, pulseAfter_eq, if_neg (by split at hpulses <;> omega), ← hpulses]
        have hz := LineRecord.digitEnd_eq (x := { y with pulses := pulses }) (ds := digits) (by rw [hdigits, ← hdig])
        have hlen : digits.length ≤ 4 := collected_length_le h3 hdigits
        have h320 : y.codeTimer ≤ 320 := by rw [hy]; exact Nat.min_le_right _ _
        have hst : y.state = .collecting := by rw [hy]; simpa using hs
        rw [htake, State.checkCollecting_setLine hhung hdue hp hz.symm]
        by_cases h4 : digits.length = 4
        · rw [if_pos (Nat.le_of_eq h4.symm)]
          refine ⟨_, rfl, by simp [State.setLine, State.hand], by simp [h4, hdig], ?_, by omega, by omega⟩
          rintro a₁ a₂ a₃ a₄ rfl
          simp [codeOf_four]
        · have hlt : digits.length < 4 := by omega
          rw [if_neg (Nat.not_le.mpr hlt)]
          have hfew : ∀ a₁ a₂ a₃ a₄ : Fin 10, digits ≠ [a₁, a₂, a₃, a₄] := by
            rintro a₁ a₂ a₃ a₄ rfl
            exact h4 rfl
          by_cases ht : y.codeTimer = 320
          · rw [if_pos (Nat.le_of_eq ht.symm)]
            exact ⟨_, rfl, by simp [State.setLine, State.hand], by simp [ht, hdig], fun _ _ _ _ h => absurd h (hfew _ _ _ _),
              by simp, by omega⟩
          · rw [if_neg (by dsimp only; omega)]
            exact ⟨_, rfl, by simp [State.setLine], by simp [h4, ht, hst, hdig], fun _ _ _ _ h => absurd h (hfew _ _ _ _),
              by omega, by simp⟩

end Sys2Proof.Machine
end

section
/-! What an allocation pass, and the judgement and examination that go with it, make of a state (R84 to R87, R121, R140,
R141): exactly which calls, channels and trunks they can touch, and how. -/

namespace Sys2Proof.Machine

open Sys2Proof

/-! ### Lookup of a call (R72) -/

/-- The place found by a reference holds a call with it. -/
theorem State.placeOfRef_spec {s : State} {r : CallRef} {p : LineNo} (h : s.placeOfRef r = some p) :
    ∃ c, s.cc.calls.get p = some c ∧ c.ref = r := by
  have hm := List.find?_some h
  cases hc : s.cc.calls.get p with
  | none => simp [hc] at hm
  | some c =>
    refine ⟨c, rfl, ?_⟩
    simpa [hc] using hm

/-- The place of a reference goes by the references of the table alone. -/
theorem State.placeOfRef_congr {s t : State}
    (h : ∀ p, (t.cc.calls.get p).map Call.ref = (s.cc.calls.get p).map Call.ref) (r : CallRef) :
    t.placeOfRef r = s.placeOfRef r := by
  simp only [State.placeOfRef, State.placeWhere, h]

/-! ### A call, a trunk and a state that a pass has gone over -/

/-- `b` is `a` after a pass: as it was, OFFERED from WAITING, or PREEMPTING from CONNECTED (R87, R141). -/
def Call.passed (a b : Call) : Prop :=
  b = a ∨
    (a.state = .waiting ∧ b = { a with
      state := .offered, trunk := b.trunk, lastTrunk := b.trunk, queueEntry := none, agingMark := none }) ∨
    (a.state = .connected ∧ b = { a with
      state := .preempting, connectedMark := none, preemptionTimer := some Config.preemptionTime })

/-- `y` is trunk `x` after a pass: with messages added at the end of its list, and an offer on it if it was IDLE (R106,
R108). -/
def Trunk.passed (x y : Trunk) : Prop :=
  y = { x with
    state := y.state, current := y.current, offerTimer := y.offerTimer, guardTimer := y.guardTimer
    idleSince := y.idleSince, transmit := y.transmit, overruns := y.overruns } ∧
  x.transmit <+: y.transmit ∧
  (x.state ≠ .idle → y = { x with transmit := y.transmit, overruns := y.overruns })

/-- The state beside what a pass writes: the output list, the calls and their queue, the trunks with the no-trunk flag,
and the player channels. -/
def State.besidePass (s : State) : State :=
  { s with
    link := { s.link with output := [], reportLoss := false }
    cc := { s.cc with calls := Table.fill 48 none, queue := [] }
    ti := { s.ti with trunks := Table.fill 8 (Trunk.initial .primary), noTrunk := false }
    ap := { s.ap with players := Table.fill 48 .inactive } }

/-- `t` is `s` after a pass, a judgement of the no-trunk condition or an examination (R84, R121, R140). -/
structure State.passedTo (s t : State) : Prop where
  beside : t.besidePass = s.besidePass
  output : s.link.output <+: t.link.output
  queue : t.cc.queue.Sublist s.cc.queue
  free : ∀ p, s.cc.calls.get p = none → t.cc.calls.get p = none
  calls : ∀ p a, s.cc.calls.get p = some a → ∃ b, t.cc.calls.get p = some b ∧ a.passed b
  players : ∀ p, (∀ a, s.cc.calls.get p = some a → a.state ≠ .connected) →
    t.ap.players.get p = s.ap.players.get p
  trunks : ∀ w, (s.trunk w).passed (t.trunk w)
  kept : ∀ r ∈ s.cc.queue, r ∈ t.cc.queue ∨
    ∃ p d, s.placeOfRef r = some p ∧ t.cc.calls.get p = some d ∧ d.state = .offered

theorem Call.passed_refl (a : Call) : a.passed a := .inl rfl

theorem Call.passed.ref {a b : Call} (h : a.passed b) : b.ref = a.ref := by
  rcases h with rfl | ⟨-, h⟩ | ⟨-, h⟩
  · rfl
  · rw [h]
  · rw [h]

theorem Call.passed.trans {a b c : Call} (h : a.passed b) (g : b.passed c) : a.passed c := by
  rcases h with rfl | ⟨ha, hb⟩ | ⟨ha, hb⟩
  · exact g
  · have hs : b.state = .offered := by rw [hb]
    rcases g with rfl | ⟨hw, -⟩ | ⟨hw, -⟩
    · exact .inr (.inl ⟨ha, hb⟩)
    · simp [hs] at hw
    · simp [hs] at hw
  · have hs : b.state = .preempting := by rw [hb]
    rcases g with rfl | ⟨hw, -⟩ | ⟨hw, -⟩
    · exact .inr (.inr ⟨ha, hb⟩)
    · simp [hs] at hw
    · simp [hs] at hw

theorem Call.passed.offered {a b : Call} (h : a.passed b) (ha : a.state = .offered) : b.state = .offered := by
  rcases h with rfl | ⟨hw, -⟩ | ⟨hw, -⟩
  · exact ha
  · simp [ha] at hw
  · simp [ha] at hw

/-- A pass makes no call CONNECTED (R87, R141). -/
theorem Call.passed.connected {a b : Call} (h : a.passed b) (hb : b.state = .connected) : a.state = .connected := by
  rcases h with rfl | ⟨-, h⟩ | ⟨ha, -⟩
  · exact hb
  · rw [h] at hb
    cases hb
  · exact ha

/-- A call that a pass has gone over is the same call (R70, R71). -/
theorem Call.passed.sameCall {a b : Call} (h : a.passed b) : a.sameCall b := by
  rcases h with rfl | ⟨-, h⟩ | ⟨-, h⟩
  · exact ⟨rfl, rfl, rfl, rfl, rfl, fun _ => rfl⟩
  · rw [h]
    exact ⟨rfl, rfl, rfl, rfl, rfl, fun _ => rfl⟩
  · rw [h]
    exact ⟨rfl, rfl, rfl, rfl, rfl, fun _ => rfl⟩

theorem Trunk.passed_refl (x : Trunk) : x.passed x := ⟨rfl, List.prefix_rfl, fun _ => rfl⟩

theorem Trunk.passed.trans {x y z : Trunk} (h : x.passed y) (g : y.passed z) : x.passed z := by
  obtain ⟨h1, h2, h3⟩ := h
  obtain ⟨g1, g2, g3⟩ := g
  refine ⟨?_, h2.trans g2, fun hx => ?_⟩
  · rw [g1, h1]
  · have hy := h3 hx
    have hs : y.state ≠ .idle := by rw [hy]; exact hx
    rw [g3 hs, hy]

namespace State.passedTo

variable {s t u : State}

theorem refl (s : State) : s.passedTo s where
  beside := rfl
  output := List.prefix_rfl
  queue := List.Sublist.refl _
  free _ := id
  calls _ a h := ⟨a, h, a.passed_refl⟩
  players _ _ := rfl
  trunks w := (s.trunk w).passed_refl
  kept _ h := .inl h

/-- A pass leaves every reference where it is. -/
theorem map_ref (h : s.passedTo t) (p : LineNo) :
    (t.cc.calls.get p).map Call.ref = (s.cc.calls.get p).map Call.ref := by
  cases hc : s.cc.calls.get p with
  | none => rw [h.free p hc]
  | some a =>
    obtain ⟨b, hb, hab⟩ := h.calls p a hc
    simp [hb, hab.ref]

theorem placeOfRef (h : s.passedTo t) (r : CallRef) : t.placeOfRef r = s.placeOfRef r :=
  State.placeOfRef_congr h.map_ref r

theorem trans (h : s.passedTo t) (g : t.passedTo u) : s.passedTo u where
  beside := g.beside.trans h.beside
  output := h.output.trans g.output
  queue := g.queue.trans h.queue
  free p hp := g.free p (h.free p hp)
  calls p a ha := by
    obtain ⟨b, hb, hab⟩ := h.calls p a ha
    obtain ⟨c, hc, hbc⟩ := g.calls p b hb
    exact ⟨c, hc, hab.trans hbc⟩
  players p hp := by
    refine (g.players p fun b hb hcon => ?_).trans (h.players p hp)
    cases ha : s.cc.calls.get p with
    | none => simp [h.free p ha] at hb
    | some a =>
      obtain ⟨b', hb', hab⟩ := h.calls p a ha
      obtain rfl : b' = b := Option.some.inj (hb'.symm.trans hb)
      exact hp a ha (hab.connected hcon)
  trunks w := (h.trunks w).trans (g.trunks w)
  kept r hr := by
    rcases h.kept r hr with ht | ⟨p, d, hp, hd, ho⟩
    · rcases g.kept r ht with hu | ⟨p, d, hp, hd, ho⟩
      · exact .inl hu
      · exact .inr ⟨p, d, (h.placeOfRef r).symm.trans hp, hd, ho⟩
    · obtain ⟨e, he, hde⟩ := g.calls p d hd
      exact .inr ⟨p, e, hp, he, hde.offered ho⟩

/-- An operation on what a pass writes beside the calls, the channels and the trunks. -/
theorem of_same (hb : t.besidePass = s.besidePass) (ho : s.link.output <+: t.link.output) (hcc : t.cc = s.cc)
    (hp : t.ap.players = s.ap.players) (ht : t.ti.trunks = s.ti.trunks) : s.passedTo t where
  beside := hb
  output := ho
  queue := by rw [hcc]
  free p h := by rwa [hcc]
  calls p a h := ⟨a, by rwa [hcc], a.passed_refl⟩
  players p _ := by rw [hp]
  trunks w := by
    have : t.trunk w = s.trunk w := congrArg (Table.get · w) ht
    rw [this]
    exact Trunk.passed_refl _
  kept r h := .inl (by rwa [hcc])

end State.passedTo

/-! ### Reports and desk messages -/

section Sent

variable (s : State)

@[simp] theorem State.report_besidePass (r : Report) : (s.report r).besidePass = s.besidePass := by
  unfold State.report
  split <;> rfl

@[simp] theorem State.sendDesk_besidePass (w : TrunkNo) (m : DeskMessage) :
    (s.sendDesk w m).besidePass = s.besidePass := by
  unfold State.sendDesk
  split
  · split <;> rfl
  · rfl

theorem State.output_prefix_report_of {t : State} {o : List OutputItem} (h : t.link.output = o) (r : Report) :
    o <+: (t.report r).link.output := h ▸ State.output_prefix_report t r

theorem State.judgeNoTrunk_passedTo : s.passedTo s.judgeNoTrunk := by
  unfold State.judgeNoTrunk
  dsimp only
  split
  · exact .of_same (State.report_besidePass _ _) (State.output_prefix_report_of (by rfl) _) (by simp) (by simp) (by simp)
  · split
    · exact .of_same (State.report_besidePass _ _) (State.output_prefix_report_of (by rfl) _) (by simp) (by simp) (by simp)
    · exact .refl s

/-- A message for a desk touches no call and no channel, and joins the end of its trunk's list (R106). -/
theorem State.sendDesk_trunk_passed (w v : TrunkNo) (m : DeskMessage) :
    (s.trunk v).passed ((s.sendDesk w m).trunk v) := by
  unfold State.sendDesk
  split
  · by_cases hv : w = v
    · subst hv
      split
      · rw [State.trunk_mapTrunk_self]
        exact ⟨rfl, List.prefix_append _ _, fun _ => rfl⟩
      · rw [State.trunk_mapTrunk_self]
        exact ⟨rfl, List.prefix_rfl, fun _ => rfl⟩
    · split <;> simp [hv, Trunk.passed_refl]
  · exact Trunk.passed_refl _

theorem State.sendDesk_trunk_ne {w v : TrunkNo} (m : DeskMessage) (h : w ≠ v) :
    (s.sendDesk w m).trunk v = s.trunk v := by
  unfold State.sendDesk
  split
  · split <;> simp [h]
  · rfl

theorem State.sendDesk_passedTo (w : TrunkNo) (m : DeskMessage) : s.passedTo (s.sendDesk w m) where
  beside := by simp
  output := by simp
  queue := by simp
  free p h := by simpa using h
  calls p a h := ⟨a, by simpa using h, a.passed_refl⟩
  players p _ := by simp
  trunks v := s.sendDesk_trunk_passed w v m
  kept r h := .inl (by simpa using h)

end Sent

/-! ### Offers (R84 to R87) -/

section Offers

variable {s : State}

/-- A WAITING call as it is offered on trunk `w` (R87, R108). -/
def Call.offeredOn (c : Call) (w : TrunkNo) : Call :=
  { c with state := .offered, trunk := some w, lastTrunk := some w, queueEntry := none, agingMark := none }

/-- A trunk as an offer of call `r` takes it (R108). -/
def Trunk.offering (x : Trunk) (r : CallRef) (time : Nat) : Trunk :=
  { x with
    state := .offering, current := some r, offerTimer := some (time * 1000), guardTimer := none, idleSince := none }

/-- What an offer comes to before its message: the call out of the queue, and it and the trunk OFFERED (R87, R108). -/
def State.offerCall (s : State) (w : TrunkNo) (p : LineNo) (c : Call) : State :=
  (((s.setQueue (s.cc.queue.erase c.ref)).setCall p (some (c.offeredOn w)))).setTrunk w
    ((s.trunk w).offering c.ref s.ti.offerTime)

/-- An offer of a WAITING call: the call and the trunk, then the message to the desk if there is a snapshot (R87,
R108). -/
theorem State.offer_of_waiting {w : TrunkNo} {p : LineNo} {c : Call} (hc : s.cc.calls.get p = some c)
    (hw : c.state = .waiting) : s.offer w p = s.offerCall w p c ∨
      ∃ m, s.offer w p = (s.offerCall w p c).sendDesk w m := by
  unfold State.offer
  rw [hc]
  dsimp only
  rw [if_pos hw]
  split
  · exact .inr ⟨_, rfl⟩
  · exact .inl rfl

/-- An offer happens to a WAITING call only (R87). -/
theorem State.offer_cases (s : State) (w : TrunkNo) (p : LineNo) : s.offer w p = s ∨
    ∃ c, s.cc.calls.get p = some c ∧ c.state = .waiting ∧
      (s.offer w p = s.offerCall w p c ∨ ∃ m, s.offer w p = (s.offerCall w p c).sendDesk w m) := by
  cases hc : s.cc.calls.get p with
  | none => exact .inl (by simp [State.offer, hc])
  | some c =>
    by_cases hw : c.state = .waiting
    · exact .inr ⟨c, rfl, hw, State.offer_of_waiting hc hw⟩
    · exact .inl (by simp [State.offer, hc, hw])

theorem State.offerCall_passedTo {w : TrunkNo} {p : LineNo} {c : Call} (hc : s.cc.calls.get p = some c)
    (hp : s.placeOfRef c.ref = some p) (hw : c.state = .waiting) (hi : (s.trunk w).state = .idle) :
    s.passedTo (s.offerCall w p c) where
  beside := rfl
  output := List.prefix_rfl
  queue := List.erase_sublist
  free q hq := by
    have hne : p ≠ q := fun h => by simp [← h, hc] at hq
    simpa [State.offerCall, hne] using hq
  calls q a ha := by
    by_cases hpq : p = q
    · subst hpq
      obtain rfl : c = a := Option.some.inj (hc.symm.trans ha)
      exact ⟨c.offeredOn w, by simp [State.offerCall], .inr (.inl ⟨hw, rfl⟩)⟩
    · exact ⟨a, by simpa [State.offerCall, hpq] using ha, a.passed_refl⟩
  players q _ := rfl
  trunks v := by
    by_cases hv : w = v
    · subst hv
      rw [State.offerCall, State.trunk_setTrunk_self]
      exact ⟨rfl, List.prefix_rfl, fun h => absurd hi h⟩
    · rw [State.offerCall, State.trunk_setTrunk_ne _ _ hv]
      exact Trunk.passed_refl _
  kept r hr := by
    by_cases hrc : r = c.ref
    · exact .inr ⟨p, c.offeredOn w, hrc ▸ hp, by simp [State.offerCall], rfl⟩
    · exact .inl ((List.mem_erase_of_ne hrc).mpr hr)

/-- An offer on an IDLE trunk of a call found by its reference (R85, R86). -/
theorem State.offer_passedTo {w : TrunkNo} {p : LineNo} {r : CallRef} (hp : s.placeOfRef r = some p)
    (hi : (s.trunk w).state = .idle) : s.passedTo (s.offer w p) := by
  rcases s.offer_cases w p with h | ⟨c, hc, hw, h⟩
  · rw [h]
    exact .refl s
  · obtain ⟨d, hd, hr⟩ := State.placeOfRef_spec hp
    obtain rfl : c = d := Option.some.inj (hc.symm.trans hd)
    have hof := State.offerCall_passedTo hc (hr ▸ hp) hw hi
    rcases h with h | ⟨m, h⟩ <;> rw [h]
    · exact hof
    · exact hof.trans (State.sendDesk_passedTo _ w m)

theorem State.offer_trunk_ne {w v : TrunkNo} (p : LineNo) (h : w ≠ v) : (s.offer w p).trunk v = s.trunk v := by
  rcases s.offer_cases w p with ho | ⟨c, -, -, ho | ⟨m, ho⟩⟩ <;> rw [ho]
  · rw [State.offerCall, State.trunk_setTrunk_ne _ _ h]
    rfl
  · rw [State.sendDesk_trunk_ne _ _ h, State.offerCall, State.trunk_setTrunk_ne _ _ h]
    rfl

/-- The primary and the overflow step each offer, on one trunk, a call found by its reference, or do nothing (R85,
R86). -/
def State.offersOn (s : State) (w : TrunkNo) (t : State) : Prop :=
  t = s ∨ ∃ r p, s.placeOfRef r = some p ∧ t = s.offer w p

theorem State.offerHead_offersOn (s : State) (w : TrunkNo) : s.offersOn w (s.offerHead w) := by
  unfold State.offerHead
  split
  next p hp =>
    obtain ⟨r, -, hr⟩ := Option.bind_eq_some_iff.mp hp
    exact .inr ⟨r, p, hr, rfl⟩
  · exact .inl rfl

theorem State.offerQualified_offersOn (s : State) (w : TrunkNo) : s.offersOn w (s.offerQualified w) := by
  unfold State.offerQualified
  split
  next p hp =>
    obtain ⟨r, -, hr⟩ := Option.bind_eq_some_iff.mp hp
    exact .inr ⟨r, p, hr, rfl⟩
  · exact .inl rfl

/-- Offers on IDLE trunks, one on each (R84). -/
theorem State.foldl_offers_passedTo {f : State → TrunkNo → State} (hf : ∀ (s : State) w, s.offersOn w (f s w))
    (ws : List TrunkNo) (s : State) (hn : ws.Nodup) (hi : ∀ w ∈ ws, (s.trunk w).state = .idle) :
    s.passedTo (ws.foldl f s) := by
  induction ws generalizing s with
  | nil => exact .refl s
  | cons w ws ih =>
    obtain ⟨hw, hn⟩ := List.nodup_cons.mp hn
    have hfirst : s.passedTo (f s w) ∧ ∀ v, w ≠ v → (f s w).trunk v = s.trunk v := by
      rcases hf s w with h | ⟨r, p, hp, h⟩ <;> rw [h]
      · exact ⟨.refl s, fun _ _ => rfl⟩
      · exact ⟨State.offer_passedTo hp (hi w List.mem_cons_self), fun v hv => State.offer_trunk_ne p hv⟩
    obtain ⟨hpass, hother⟩ := hfirst
    refine hpass.trans (ih _ hn fun v hv => ?_)
    rw [hother v fun h => hw (h ▸ hv)]
    exact hi v (List.mem_cons_of_mem w hv)

/-- An eligible-idle trunk is IDLE (R84). -/
theorem State.eligibleTrunks_idle {g : TrunkGroup} {w : TrunkNo} (h : w ∈ s.eligibleTrunks g) :
    (s.trunk w).state = .idle := by
  rw [State.eligibleTrunks, List.mem_insertionSort, List.mem_filter] at h
  simp only [Trunk.eligible, Bool.and_eq_true, decide_eq_true_eq] at h
  exact h.2.1.1.2

theorem State.eligibleTrunks_nodup (s : State) (g : TrunkGroup) : (s.eligibleTrunks g).Nodup :=
  (List.perm_insertionSort _ _).nodup_iff.mpr ((List.nodup_finRange 8).filter _)

end Offers

/-! ### Preemption (R140, R141) -/

/-- A call as the start of its preemption takes it (R141). -/
def Call.preempted (c : Call) : Call :=
  { c with state := .preempting, connectedMark := none, preemptionTimer := some Config.preemptionTime }

/-- What the start of a preemption comes to before its message to the desk (R141). -/
def State.preemptCall (s : State) (p : LineNo) (c : Call) : State :=
  (s.setCall p (some c.preempted)).selectChain p s.ap.warningChain

theorem State.startPreemption_eq {s : State} {p : LineNo} {c : Call} (hc : s.cc.calls.get p = some c) :
    s.startPreemption p = match c.trunk with
      | some t => (s.preemptCall p c).sendDesk t (.preemptWarn c.ref 10)
      | none => s.preemptCall p c := by
  unfold State.startPreemption
  rw [hc]
  rfl

theorem State.preemptCall_passedTo {s : State} {p : LineNo} {c : Call} (hc : s.cc.calls.get p = some c)
    (hs : c.state = .connected) : s.passedTo (s.preemptCall p c) where
  beside := rfl
  output := List.prefix_rfl
  queue := List.Sublist.refl _
  free q hq := by
    have hne : p ≠ q := fun h => by simp [← h, hc] at hq
    simpa [State.preemptCall, hne] using hq
  calls q a ha := by
    by_cases hpq : p = q
    · subst hpq
      obtain rfl : c = a := Option.some.inj (hc.symm.trans ha)
      exact ⟨c.preempted, by simp [State.preemptCall], .inr (.inr ⟨hs, rfl⟩)⟩
    · exact ⟨a, by simpa [State.preemptCall, hpq] using ha, a.passed_refl⟩
  players q hq := by
    have hne : p ≠ q := fun h => hq c (h ▸ hc) hs
    simp [State.preemptCall, State.selectChain, hne]
  trunks w := Trunk.passed_refl _
  kept r hr := .inl hr

/-- An examination starts at most one preemption, of a CONNECTED call (R140, R141). -/
theorem State.examine_passedTo (s : State) : s.passedTo s.examine := by
  unfold State.examine
  split
  next p hp =>
    obtain ⟨c, hc, hs⟩ := State.preemptionChoice_connected hp
    rw [State.startPreemption_eq hc]
    split
    · exact (State.preemptCall_passedTo hc hs).trans (State.sendDesk_passedTo _ _ _)
    · exact State.preemptCall_passedTo hc hs
  · exact .refl s

/-- What an allocation pass makes of a state (R84 to R87, R121, R140). -/
theorem State.pass_passedTo (s : State) : s.passedTo s.pass := by
  have hp := State.foldl_offers_passedTo State.offerHead_offersOn (s.eligibleTrunks .primary) s
    (s.eligibleTrunks_nodup _) fun _ => State.eligibleTrunks_idle
  have ho (u : State) := State.foldl_offers_passedTo State.offerQualified_offersOn (u.eligibleTrunks .overflow) u
    (u.eligibleTrunks_nodup _) fun _ => State.eligibleTrunks_idle
  exact ((hp.trans (ho _)).trans (State.judgeNoTrunk_passedTo _)).trans (State.examine_passedTo _)

/-- What a change of the queue or the trunks makes of a state (R84, R121). -/
theorem State.changed_passedTo (s : State) : s.passedTo s.changed :=
  s.judgeNoTrunk_passedTo.trans (State.pass_passedTo _)

end Sys2Proof.Machine
end

section
/-! CODE RESULT (R76): the identity composed, the call in the queue, and the pass that follows. -/

namespace Sys2Proof.Machine

open Sys2Proof

/-- A call inserted by its key is in the queue (R79). -/
theorem mem_insertByKey (look : CallRef → Option Call) (c : Call) (q : List CallRef) :
    c.ref ∈ insertByKey look c q := by
  induction q with
  | nil => exact List.mem_singleton_self _
  | cons r rs ih =>
    unfold insertByKey
    split
    · split
      · exact List.mem_cons_self
      · exact List.mem_cons_of_mem r ih
    · exact List.mem_cons_of_mem r ih

section CodeResult

variable {s : State} {p : LineNo} {c : Call}

/-- The check of a code sets its flag and makes its report, or changes nothing (R41, R68). -/
theorem State.identify_of_some {code : ReceivedCode} {b : Bool} (hc : s.cc.calls.get p = some c) :
    s.identify p code b = (s.flagCode c.line code b).setCall p
      (some { c with identity := some (composeIdentity (s.dir.working.get c.line) c.line code b) }) := by
  unfold State.identify
  rw [hc]

theorem State.flagCode_some {l : LineNo} {code : ReceivedCode} {b : Bool} {f : StickyFlag}
    (h : (verify (s.dir.working.get l) code b).2 = some f) : s.flagCode l code b = s.setFlag l f := by
  unfold State.flagCode
  rw [h]

theorem State.flagCode_none {l : LineNo} {code : ReceivedCode} {b : Bool}
    (h : (verify (s.dir.working.get l) code b).2 = none) : s.flagCode l code b = s := by
  unfold State.flagCode
  rw [h]

/-- A call that has its snapshot and is not OFFERED enters WAITING: in the queue, on its waiting chain (R80, R154). -/
theorem State.enterWaiting_of_identified {i : CallIdentity} (hc : s.cc.calls.get p = some c)
    (hs : c.state ≠ .offered) (hi : c.identity = some i) : ∃ q, c.ref ∈ q ∧
      s.enterWaiting p =
        ((s.setCall p (some (c.toWaiting s.cc.now))).setQueue q).selectChain p i.snapshot.waitingChain := by
  refine ⟨insertByKey (s.setCall p (some (c.toWaiting s.cc.now))).callOfRef (c.toWaiting s.cc.now) s.cc.queue,
    mem_insertByKey _ (c.toWaiting s.cc.now) _, ?_⟩
  simp [State.enterWaiting, State.enqueue, hc, hs, hi]

/-- A WAITING call that a pass goes over stays in the queue, or is OFFERED (R84, R87). -/
theorem State.passedTo.waiting {t : State} (h : s.passedTo t) (hc : s.cc.calls.get p = some c)
    (hp : s.placeOfRef c.ref = some p) (hw : c.state = .waiting) (hq : c.ref ∈ s.cc.queue) :
    ∃ d, t.cc.calls.get p = some d ∧ c.sameCall d ∧ d.identity = c.identity ∧
      (d = c ∧ c.ref ∈ t.cc.queue ∨ d.state = .offered ∧ d.queueEntry = none ∧ d.agingMark = none) := by
  obtain ⟨d, hd, hcd⟩ := h.calls p c hc
  refine ⟨d, hd, hcd.sameCall, ?_⟩
  rcases hcd with rfl | ⟨-, hcd⟩ | ⟨hcon, -⟩
  · refine ⟨rfl, .inl ⟨rfl, ?_⟩⟩
    rcases h.kept d.ref hq with hin | ⟨p', d', hp', hd', ho⟩
    · exact hin
    · obtain rfl : p = p' := Option.some.inj (hp.symm.trans hp')
      obtain rfl : d = d' := Option.some.inj (hd.symm.trans hd')
      rw [hw] at ho
      cases ho
  · rw [hcd]
    exact ⟨rfl, .inr ⟨rfl, rfl, rfl⟩⟩
  · rw [hw] at hcon
    cases hcon

theorem exec_codeResult {l : LineNo} {code : CodeResult} (he : s.eventReady (.codeResult l code)) (hc : s.callAt p c)
    (hl : c.line = l) (hs : c.state = .originating) : exec (.codeResult l code) s = .next
      ((((s.tookEvent (.codeResult l code)).identify p (receivedOf code) false).enterWaiting p).changed) := by
  obtain ⟨hcp, -, hpl⟩ := hc
  subst hl
  change execCodeResult c.line code s = _
  rw [execCodeResult, State.running_of _ _ he.1, State.takeEvent_ready he]
  have hpl' : (s.tookEvent (.codeResult c.line code)).placeOfLine c.line = some p := hpl
  have hany : ((s.tookEvent (.codeResult c.line code)).cc.calls.get p).any (fun c => c.state = .originating) = true := by
    change (s.cc.calls.get p).any _ = true
    simp [hcp, hs]
  rw [hpl']
  dsimp only
  rw [if_pos hany]

/-- Settles O24: the call as `identify` and `enterWaiting` leave it, then the pass. -/
theorem codeResultEntersCallIntoWaiting : Obligations.CodeResultEntersCallIntoWaiting := by
  rintro s l p c code e he hc hl hs rfl
  rw [exec_codeResult he hc hl hs]
  obtain ⟨hcp, hpr, -⟩ := hc
  subst hl
  set i := composeIdentity (s.dir.working.get c.line) c.line (receivedOf code) false with hi
  set s₁ := (s.tookEvent (.codeResult c.line code)).flagCode c.line (receivedOf code) false with hs₁
  have hid : (s.tookEvent (.codeResult c.line code)).identify p (receivedOf code) false =
      s₁.setCall p (some { c with identity := some i }) := State.identify_of_some hcp
  obtain ⟨q, hq, hw⟩ := State.enterWaiting_of_identified (s := s₁.setCall p (some { c with identity := some i }))
    (p := p) (c := { c with identity := some i }) (i := i) (by simp) (by simp [hs]) rfl
  rw [hid, hw]
  set c₁ := ({ c with identity := some i } : Call).toWaiting s.cc.now with hc₁
  set w := State.selectChain _ p i.snapshot.waitingChain with hwdef
  have hcalls : w.cc.calls = s.cc.calls.set p (some c₁) := by simp [hwdef, hs₁, hc₁, State.tookEvent]
  have hwp : w.cc.calls.get p = some c₁ := by simp [hcalls]
  have hplace : w.placeOfRef c₁.ref = some p := by
    rw [State.placeOfRef_congr (s := s) fun k => ?_]
    · exact hpr
    · by_cases hk : p = k
      · subst hk
        simp [hcalls, hcp, hc₁, Call.toWaiting]
      · simp [hcalls, hk]
  have hpass := State.changed_passedTo w
  obtain ⟨d, hd, ⟨href, hline, hseq, horig, hcreated, -⟩, hdi, hcases⟩ := hpass.waiting hwp hplace rfl hq
  have hplayers : w.changed.ap.players.get p = w.ap.players.get p := by
    refine hpass.players p fun a ha => ?_
    obtain rfl : c₁ = a := Option.some.inj (hwp.symm.trans ha)
    simp [hc₁, Call.toWaiting]
  refine ⟨w.changed, d, rfl, hd, ⟨href, hline, hseq, horig, hcreated, fun h => absurd hs h⟩, hdi, ?_,
    ?_, by simp [hwdef, hs₁, State.tookEvent], fun f hf => ?_, fun hf => ?_,
    by simp [hwdef, hs₁, State.tookEvent]⟩
  · rcases hcases with ⟨rfl, hin⟩ | hoff
    · exact .inl ⟨rfl, rfl, hin, rfl, rfl⟩
    · exact .inr hoff
  · rw [hplayers]
    simp [hwdef, hs₁, hi, State.tookEvent, State.selectChain, composeIdentity]
  · have hflag : s₁ = (s.tookEvent (.codeResult c.line code)).setFlag c.line f := State.flagCode_some hf
    have hlink : w.link = s₁.link := by simp [hwdef]
    refine ⟨by simp [hwdef, hflag, State.setFlag_lines, State.tookEvent], fun hclear hr => hpass.output.subset ?_⟩
    rw [hlink, hflag]
    exact State.setFlag_report (s := s.tookEvent (.codeResult c.line code)) hclear hr
  · have hflag : s₁ = s.tookEvent (.codeResult c.line code) := State.flagCode_none hf
    simp [hwdef, hflag, State.tookEvent]

end CodeResult

end Sys2Proof.Machine
end

section
/-! CALLBACK (R133 to R136): by the state of the line and the live call that names it. -/

namespace Sys2Proof.Table

/-- Two different cells can be written in either order. -/
theorem set_comm {n : Nat} {α : Type} (t : Table n α) {i j : Fin n} (a b : α) (h : i ≠ j) :
    (t.set i a).set j b = (t.set j b).set i a := by
  have hv : i.val ≠ j.val := fun e => h (Fin.ext e)
  simp [Table.set, List.set_comm _ _ hv]

end Sys2Proof.Table

namespace Sys2Proof.Machine

open Sys2Proof

/-! ### Desk messages to one trunk (R106) -/

section Desk

variable {s : State} {u : TrunkNo} {m : DeskMessage}

/-- `x` is trunk record `y` after a message has been made for its desk: it has joined the end of the list where the link
is UP and the list has room, and otherwise counted as an overrun at most (R106). -/
def Trunk.messaged (x y : Trunk) (m : Option DeskMessage) : Prop :=
  x = { y with transmit := x.transmit, overruns := x.overruns } ∧ y.transmit <+: x.transmit ∧
    ∀ a, m = some a → y.link = .up → y.transmit.length < 8 → x.transmit = y.transmit ++ [a]

/-- A message for a desk changes its trunk's record alone (R106). -/
theorem State.sendDesk_eq_setTrunk (s : State) (u : TrunkNo) (m : DeskMessage) :
    ∃ x, s.sendDesk u m = s.setTrunk u x ∧ x.messaged (s.trunk u) (some m) := by
  have hsame : s.setTrunk u (s.trunk u) = s := by simp [State.setTrunk, State.trunk]
  unfold State.sendDesk
  split
  next hl =>
    split
    · exact ⟨_, rfl, rfl, List.prefix_append _ _, fun a ha _ _ => by cases ha; rfl⟩
    next hr => exact ⟨_, rfl, rfl, List.prefix_rfl, fun a _ _ h => absurd h hr⟩
  next hl => exact ⟨s.trunk u, hsame.symm, rfl, List.prefix_rfl, fun a _ h _ => absurd h hl⟩

/-- The identity of a call, sent to a desk (R120). -/
theorem State.sendIdent_eq_setTrunk {p : LineNo} {c : Call} (hc : s.cc.calls.get p = some c) (u : TrunkNo) :
    ∃ x, s.sendIdent u p = s.setTrunk u x ∧ x.messaged (s.trunk u) (c.record.map .ident) := by
  have hsame : s.setTrunk u (s.trunk u) = s := by simp [State.setTrunk, State.trunk]
  unfold State.sendIdent
  rw [hc, Option.bind_some]
  cases c.record with
  | none => exact ⟨s.trunk u, hsame.symm, rfl, List.prefix_rfl, fun a ha => by cases ha⟩
  | some i => exact State.sendDesk_eq_setTrunk s u (.ident i)

@[simp] theorem State.setTrunk_setTrunk (s : State) (u : TrunkNo) (x y : Trunk) :
    (s.setTrunk u x).setTrunk u y = s.setTrunk u y := by
  simp [State.setTrunk]

end Desk

/-! ### What a desk request leaves alone when a pass follows it -/

section Framed

/-- Two states that agree beside what a pass writes differ in that alone. -/
theorem State.eq_of_besidePass {s t : State} (h : t.besidePass = s.besidePass) : t = { s with
    link := { s.link with output := t.link.output, reportLoss := t.link.reportLoss }
    cc := { s.cc with calls := t.cc.calls, queue := t.cc.queue }
    ti := { s.ti with trunks := t.ti.trunks, noTrunk := t.ti.noTrunk }
    ap := { s.ap with players := t.ap.players } } := by
  have hback (v : State) : v = { v.besidePass with
      link := { v.besidePass.link with output := v.link.output, reportLoss := v.link.reportLoss }
      cc := { v.besidePass.cc with calls := v.cc.calls, queue := v.cc.queue }
      ti := { v.besidePass.ti with trunks := v.ti.trunks, noTrunk := v.ti.noTrunk }
      ap := { v.besidePass.ap with players := v.ap.players } } := rfl
  conv_lhs => rw [hback t, h]
  rfl

theorem Call.passed.identity {a b : Call} (h : a.passed b) : b.identity = a.identity := by
  rcases h with rfl | ⟨-, h⟩ | ⟨-, h⟩
  · rfl
  · rw [h]
  · rw [h]

/-- A pass goes over a call and it is still the same call (R70, R71). -/
theorem Call.sameCall.passed {a b c : Call} (h : a.sameCall b) (g : b.passed c) : a.sameCall c := by
  obtain ⟨h1, h2, h3, h4, h5, h6⟩ := h
  obtain ⟨g1, g2, g3, g4, g5, -⟩ := g.sameCall
  exact ⟨g1.trans h1, g2.trans h2, g3.trans h3, g4.trans h4, g5.trans h5, fun hs => by rw [g.identity, h6 hs]⟩

/-- A call connected is still the same call (R70, R71). -/
theorem Call.sameCall_connected (c : Call) (u : TrunkNo) (now : Word32) (stamp : Stamp) :
    c.sameCall (c.connected u now stamp) := ⟨rfl, rfl, rfl, rfl, rfl, fun _ => rfl⟩

/-- What a desk request on trunk `u` does before its pass, `w`, and what the pass makes of that. -/
theorem State.deskFramed_of_passedTo {s w t : State} {u : TrunkNo} (h : w.passedTo t)
    (hb : w.besidePass = s.besidePass)
    (hfree : ∀ q, s.cc.calls.get q = none → w.cc.calls.get q = none ∧ w.ap.players.get q = s.ap.players.get q)
    (hcalls : ∀ q a, s.cc.calls.get q = some a → ∃ b, w.cc.calls.get q = some b ∧ a.sameCall b)
    (hothers : ∀ v, v ≠ u → w.trunk v = s.trunk v)
    (hu : w.trunk u = { s.trunk u with
      state := (w.trunk u).state, current := (w.trunk u).current, offerTimer := (w.trunk u).offerTimer
      guardTimer := (w.trunk u).guardTimer, idleSince := (w.trunk u).idleSince, stack := (w.trunk u).stack
      requests := (w.trunk u).requests, transmit := (w.trunk u).transmit, overruns := (w.trunk u).overruns }) :
    s.deskFramed t u := by
  refine ⟨State.eq_of_besidePass (h.beside.trans hb), fun q hq => ?_, fun q a ha => ?_, fun v hv => ?_, ?_⟩
  · obtain ⟨hw, hpl⟩ := hfree q hq
    exact ⟨h.free q hw, (h.players q fun a ha => by simp [hw] at ha).trans hpl⟩
  · obtain ⟨b, hb, hab⟩ := hcalls q a ha
    obtain ⟨c, hc, hbc⟩ := h.calls q b hb
    exact ⟨c, hc, hab.passed hbc⟩
  · obtain ⟨h1, h2, -⟩ := h.trunks v
    rw [hothers v hv] at h1 h2
    obtain ⟨more, hmore⟩ := h2
    exact ⟨h1, more, hmore.symm⟩
  · obtain ⟨h1, -, -⟩ := h.trunks u
    rw [hu] at h1
    rw [h1]

end Framed

/-! ### The refusals and the branches of CALLBACK (R133) -/

section Callback

variable {s : State} {u : TrunkNo} {l p : LineNo} {c : Call} {q : DeskRequest}

/-- A CALLBACK whose octet names no line (R133). -/
theorem exec_callback_no_line {o : Octet} (h : s.deskReady u (.callback o)) (ho : lineOf o = none) :
    exec (.callback u o) s = .next ((s.tookRequest u).sendDesk u (.refuse (.callback o) .lineUnavailable)) := by
  change execCallback u o s = _
  rw [execCallback, State.running_of _ _ h.1, State.takeDesk_ready h, ho]
  rfl

/-- A CALLBACK on a trunk that is not IDLE (R107). -/
theorem exec_callback_not_idle (h : s.deskReady u (.callback (lineOctet l))) (hi : (s.trunk u).state ≠ .idle) :
    exec (.callback u (lineOctet l)) s =
      .next ((s.tookRequest u).sendDesk u (.refuse (.callback (lineOctet l)) .busy)) := by
  change execCallback u (lineOctet l) s = _
  rw [execCallback, State.running_of _ _ h.1, State.takeDesk_ready h, lineOf_lineOctet]
  dsimp only
  rw [if_neg (by simpa [State.tookRequest] using hi)]
  rfl

/-- A CALLBACK from an IDLE trunk to a line (R133). -/
theorem exec_callback_line (h : s.deskReady u (.callback (lineOctet l))) (hi : (s.trunk u).state = .idle) :
    exec (.callback u (lineOctet l)) s =
      .next ((s.tookRequest u).callBack u l (.callback (lineOctet l))) := by
  change execCallback u (lineOctet l) s = _
  rw [execCallback, State.running_of _ _ h.1, State.takeDesk_ready h, lineOf_lineOctet]
  dsimp only
  rw [if_pos (by simpa [State.tookRequest] using hi)]

/-- The first row of R133: a line that cannot be called. -/
theorem State.callBack_unavailable (h : (s.lines.get l).state ∈ [LineState.unequipped, .outOfService, .settling, .fault]) :
    s.callBack u l q = s.sendDesk u (.refuse q .lineUnavailable) := by
  simp only [List.mem_cons, List.not_mem_nil, or_false] at h
  unfold State.callBack
  rcases h with h | h | h | h <;> rw [h] <;> rfl

/-- A line that can be called, and that no live call names (R133). -/
theorem State.callBack_free (h : (s.lines.get l).state ∉ [LineState.unequipped, .outOfService, .settling, .fault])
    (hp : s.placeOfLine l = none) : s.callBack u l q =
      if (s.lines.get l).state = .idle then s.ringPost u l else s.sendDesk u (.refuse q .busy) := by
  simp only [List.mem_cons, List.not_mem_nil, or_false, not_or] at h
  obtain ⟨h1, h2, h3, h4⟩ := h
  unfold State.callBack
  rw [hp]
  split
  next h => exact absurd h h1
  next h => exact absurd h h2
  next h => exact absurd h h3
  next h => exact absurd h h4
  · rfl

/-- A line that can be called, with the live call that names it: by that call's state (R133). -/
theorem State.callBack_named (h : (s.lines.get l).state ∉ [LineState.unequipped, .outOfService, .settling, .fault])
    (hp : s.placeOfLine l = some p) (hc : s.cc.calls.get p = some c) :
    (c.state = .waiting → s.callBack u l q =
      ((s.setQueue (s.cc.queue.erase c.ref)).takeCall u p c.ref).changed) ∧
    (∀ o, c.state = .offered → c.trunk = some o → s.callBack u l q =
      ((s.sendDesk o (.withdraw c.ref .taken)).enterGuard o).takeCall u p c.ref) ∧
    (c.state = .originating → s.callBack u l q = s.sendDesk u (.refuse q .busy)) ∧
    (c.state = .connected ∨ c.state = .held ∨ c.state = .preempting ∨ c.state = .ringing →
      s.callBack u l q = s.sendDesk u (.refuse q .lineBusy)) := by
  simp only [List.mem_cons, List.not_mem_nil, or_false, not_or] at h
  obtain ⟨h1, h2, h3, h4⟩ := h
  unfold State.callBack
  rw [hp]
  dsimp only
  rw [hc]
  split
  next h => exact absurd h h1
  next h => exact absurd h h2
  next h => exact absurd h h3
  next h => exact absurd h h4
  · dsimp only
    refine ⟨fun hs => ?_, fun o hs ho => ?_, fun hs => ?_, fun hs => ?_⟩
    · rw [hs]
    · rw [hs, ho]
    · rw [hs]
      rfl
    · rcases hs with hs | hs | hs | hs <;> rw [hs] <;> rfl

/-! ### What a taken call comes to (R134) -/

/-- A trunk as the connection of call `r` takes it (R109, R134). -/
def Trunk.connectedTo (x : Trunk) (r : CallRef) : Trunk :=
  { x with state := .connected, current := some r, offerTimer := none, guardTimer := none, idleSince := none }

/-- The state in which the call `c` of place `p` has been connected to trunk `u`, whose record is `x` (R134). -/
def State.callTaken (s : State) (u : TrunkNo) (p : LineNo) (c : Call) (x : Trunk) : State :=
  ((s.setCall p (some (c.connected u s.cc.now s.stamp))).stopPlayer p).setTrunk u x

@[simp] theorem State.callTaken_trunk_self (s : State) (x : Trunk) : (s.callTaken u p c x).trunk u = x :=
  State.trunk_setTrunk_self _ u x

@[simp] theorem State.callTaken_trunk_ne (s : State) (x : Trunk) {v : TrunkNo} (h : u ≠ v) :
    (s.callTaken u p c x).trunk v = s.trunk v := State.trunk_setTrunk_ne _ x h

theorem State.callTaken_call (s : State) (x : Trunk) :
    (s.callTaken u p c x).cc.calls.get p = some (c.connected u s.cc.now s.stamp) := Table.get_set_self _ _ _

theorem State.callTaken_player (s : State) (x : Trunk) : (s.callTaken u p c x).ap.players.get p = .inactive :=
  Table.get_set_self _ _ _

@[simp] theorem State.callTaken_besidePass (s : State) (x : Trunk) :
    (s.callTaken u p c x).besidePass = s.besidePass := rfl

@[simp] theorem State.setQueue_besidePass (s : State) (q : List CallRef) :
    (s.setQueue q).besidePass = s.besidePass := rfl

@[simp] theorem State.tookRequest_besidePass (s : State) (u : TrunkNo) :
    (s.tookRequest u).besidePass = s.besidePass := rfl

/-- A call taken by a trunk: it is connected there, its channel stops, and its identity goes to the desk (R134, R135). -/
theorem State.takeCall_eq (hc : s.cc.calls.get p = some c) (u : TrunkNo) : ∃ x,
    s.takeCall u p c.ref = s.callTaken u p c x ∧
      x.messaged ((s.trunk u).connectedTo c.ref) (c.record.map .ident) := by
  set w := s.callTaken u p c ((s.trunk u).connectedTo c.ref) with hw
  have hcon : (s.connectTrunk u c.ref).connect p u = w := by
    have hcall : (s.cc.calls.get p).map (fun c => c.connected u s.cc.now s.stamp) =
        some (c.connected u s.cc.now s.stamp) := by rw [hc]; rfl
    rw [hw, State.callTaken, ← hcall]
    rfl
  obtain ⟨x, hx, hm⟩ := State.sendIdent_eq_setTrunk (s := w) (p := p) (c := c.connected u s.cc.now s.stamp)
    (State.callTaken_call s _) u
  refine ⟨x, ?_, ?_⟩
  · rw [State.takeCall, hcon, hx, hw, State.callTaken, State.setTrunk_setTrunk, State.callTaken]
  · rw [hw, State.callTaken_trunk_self] at hm
    exact hm

/-- The state of a trunk is no concern of the request that was taken from it (R105). -/
@[simp] theorem State.tookRequest_trunk_self (s : State) (u : TrunkNo) :
    (s.tookRequest u).trunk u = { s.trunk u with requests := (s.trunk u).requests.tail } := by
  simp [State.tookRequest]

/-- A WAITING call taken by CALLBACK from the queue: `w` is what comes before the pass (R134). -/
theorem State.callBack_takes_waiting {w : State} (hcp : s.cc.calls.get p = some c) (hl : (s.trunk u).link = .up)
    (hx : w = ((s.tookRequest u).setQueue (s.cc.queue.erase c.ref)).takeCall u p c.ref) :
    (w.changed.trunk u).state = .connected ∧ (w.changed.trunk u).current = some c.ref ∧
      (∃ d, w.changed.cc.calls.get p = some d ∧ (c.connected u s.cc.now s.stamp).passed d) ∧
      (s.cc.queue.Nodup → c.ref ∉ w.changed.cc.queue) ∧
      (∀ i, c.identity = some i → (s.trunk u).transmit.length < 8 →
        DeskMessage.ident ⟨c.ref, i.snapshot⟩ ∈ (w.changed.trunk u).transmit) ∧
      s.deskFramed w.changed u ∧ (w.changed.trunk u).stack = (s.trunk u).stack ∧
      (w.changed.trunk u).requests = (s.trunk u).requests.tail := by
  obtain ⟨x, hw, hrec, hpre, hroom⟩ := State.takeCall_eq
    (s := (s.tookRequest u).setQueue (s.cc.queue.erase c.ref)) (p := p) (c := c) hcp u
  rw [← hx] at hw
  rw [State.setQueue_trunk, State.tookRequest_trunk_self] at hrec hpre hroom
  have hpass := State.changed_passedTo w
  have hwu : w.trunk u = x := by rw [hw, State.callTaken_trunk_self]
  have hwp : w.cc.calls.get p = some (c.connected u s.cc.now s.stamp) := by
    rw [hw]
    exact State.callTaken_call _ x
  have hwcalls (q : LineNo) (hq : p ≠ q) : w.cc.calls.get q = s.cc.calls.get q := by
    rw [hw]
    exact Table.get_set_ne _ _ hq
  have hst : (w.trunk u).state ≠ .idle := by
    rw [hwu, hrec]
    nofun
  obtain ⟨-, htpre, hkeep⟩ := hpass.trunks u
  have hkeep := hkeep hst
  rw [hwu, hrec] at hkeep
  refine ⟨by rw [hkeep]; rfl, by rw [hkeep]; rfl, hpass.calls p _ hwp, fun hn hin => ?_, fun i hi hr => ?_, ?_,
    by rw [hkeep]; rfl, by rw [hkeep]; rfl⟩
  · have hsub := hpass.queue.subset hin
    rw [hw] at hsub
    exact (hn.mem_erase_iff.mp hsub).1 rfl
  · refine htpre.subset ?_
    rw [hwu, hroom _ (by rw [Call.record, hi]; rfl) hl hr]
    exact List.mem_append_right _ (List.mem_singleton_self _)
  · refine State.deskFramed_of_passedTo hpass (by simp [hw]) (fun q hq => ?_) (fun q a ha => ?_) (fun v hv => ?_) ?_
    · have hne : p ≠ q := fun h => by simp [← h, hcp] at hq
      refine ⟨by rw [hwcalls q hne, hq], ?_⟩
      rw [hw]
      exact Table.get_set_ne _ _ hne
    · by_cases hq : p = q
      · subst hq
        obtain rfl : c = a := Option.some.inj (hcp.symm.trans ha)
        exact ⟨_, hwp, rfl, rfl, rfl, rfl, rfl, fun _ => rfl⟩
      · exact ⟨a, by rw [hwcalls q hq, ha], rfl, rfl, rfl, rfl, rfl, fun _ => rfl⟩
    · rw [hw, State.callTaken_trunk_ne _ _ hv.symm]
      simp [hv.symm, State.tookRequest]
    · rw [hwu, hrec]
      rfl

/-! ### A call taken from another trunk's offer (R135) -/

/-- A trunk that a call has left (R115). -/
def Trunk.guarding (x : Trunk) (time : Nat) : Trunk :=
  { x with state := .guard_, current := none, offerTimer := none, guardTimer := some time, idleSince := none }

/-- An offer on trunk `o` withdrawn TAKEN, and the trunk in GUARD (R115, R135). -/
theorem State.withdrawTaken_eq (s : State) (o : TrunkNo) (m : DeskMessage) : ∃ y : Trunk,
    (s.sendDesk o m).enterGuard o = s.setTrunk o (y.guarding s.ti.guardTime) ∧ y.messaged (s.trunk o) (some m) := by
  obtain ⟨y, hy, hm⟩ := State.sendDesk_eq_setTrunk s o m
  refine ⟨y, ?_, hm⟩
  rw [hy, State.enterGuard, State.mapTrunk, State.trunk_setTrunk_self, State.setTrunk_setTrunk]
  rfl

/-- A call taken from the offer on trunk `o` changes the call, its channel and the two trunks (R135). -/
theorem State.callTaken_from_offer (s : State) (z x : Trunk) {o : TrunkNo} (h : o ≠ u) :
    ((s.tookRequest u).setTrunk o z).callTaken u p c x =
      { State.setTrunk (s.setTrunk u x) o z with
        cc := { s.cc with calls := s.cc.calls.set p (some (c.connected u s.cc.now s.stamp)) }
        ap := { s.ap with players := s.ap.players.set p .inactive } } := by
  have htrunks (r : Trunk) : ((s.ti.trunks.set u r).set o z).set u x = (s.ti.trunks.set u x).set o z := by
    rw [Table.set_comm _ _ _ h, Table.set_set]
  simp only [State.callTaken, State.setTrunk, State.tookRequest, State.mapTrunk, State.stopPlayer, State.setPlayer,
    State.setCall, htrunks]
  rfl

/-! ### A post rung (R136) -/

/-- The record of a CALLBACK call that rings line `l` for trunk `u` (R73, R74, R136). -/
def State.callbackCall (s : State) (u : TrunkNo) (l : LineNo) : Call :=
  { s.newCall l .ringing with
    trunk := some u, lastTrunk := some u, ringingTimer := some 60000
    identity := some (composeIdentity (s.dir.working.get l) l .absent true) }

/-- The code of a CALLBACK call is not checked (R68). -/
theorem verify_callback (e : Entry) (code : ReceivedCode) : (verify e code true).2 = none := by
  unfold verify
  split <;> rfl

/-- The state in which a post has been rung for trunk `u`, whose record is `x` (R35, R136). -/
def State.postRung (s : State) (u : TrunkNo) (l p : LineNo) (x : Trunk) : State :=
  ((s.startRinging l).addCall p (s.callbackCall u l)).setTrunk u x

@[simp] theorem State.postRung_trunk_self (s : State) (x : Trunk) : (s.postRung u l p x).trunk u = x :=
  State.trunk_setTrunk_self _ u x

theorem State.postRung_call (s : State) (x : Trunk) :
    (s.postRung u l p x).cc.calls.get p = some (s.callbackCall u l) := Table.get_set_self _ _ _

/-- A post rung changes the line, the call table with its two counters, and the trunk (R35, R73, R74, R136). -/
theorem State.postRung_tookRequest (s : State) (x : Trunk) : (s.tookRequest u).postRung u l p x =
    { s.setTrunk u x with
      cc := { s.cc with
        calls := s.cc.calls.set p (some (s.callbackCall u l)), lastSequence := s.cc.lastSequence + 1
        nextRef := refAfter (s.callbackCall u l).ref }
      lines := s.lines.set l
        { s.lines.get l with state := .ringing, ringPhase := some .on, ringPosition := 0, loopCount := 0 } } := by
  have htrunks (r : Trunk) : (s.ti.trunks.set u r).set u x = s.ti.trunks.set u x := Table.set_set _ _ _ _
  simp only [State.postRung, State.setTrunk, State.tookRequest, State.mapTrunk, State.addCall, State.startRinging,
    State.mapLine, State.setLine, htrunks]
  rfl

/-- A post rung: the line RINGING, the call in its place, and its identity to the desk (R35, R136). -/
theorem State.ringPost_eq (hp : s.freePlace = some p) : ∃ x,
    s.ringPost u l = s.postRung u l p x ∧
      x.messaged ((s.trunk u).connectedTo (s.callbackCall u l).ref) ((s.callbackCall u l).record.map .ident) := by
  set c := { s.newCall l .ringing with
    trunk := some u, lastTrunk := some u, ringingTimer := some Config.ringingTimeout } with hc
  have hid : ((s.startRinging l).addCall p c).identify p .absent true =
      (s.startRinging l).addCall p (s.callbackCall u l) := by
    rw [State.identify_of_some (c := c) (by simp [State.addCall]), State.flagCode_none (verify_callback _ _)]
    simp only [State.setCall, State.addCall, Table.set_set]
    rfl
  have hring : s.ringPost u l =
      (s.postRung u l p ((s.trunk u).connectedTo (s.callbackCall u l).ref)).sendIdent u p := by
    unfold State.ringPost
    rw [hp]
    dsimp only
    rw [hid]
    rfl
  obtain ⟨x, hx, hm⟩ := State.sendIdent_eq_setTrunk (State.postRung_call (u := u) (l := l) (p := p) s
    ((s.trunk u).connectedTo (s.callbackCall u l).ref)) u
  refine ⟨x, ?_, ?_⟩
  · rw [hring, hx, State.postRung, State.setTrunk_setTrunk, State.postRung]
  · rwa [State.postRung_trunk_self] at hm

end Callback

/-- Settles O39. -/
theorem callbackTakesRingsOrIsRefused : Obligations.CallbackTakesRingsOrIsRefused := by
  refine ⟨fun s u l p c h hi hc hl hw hs => ?_, fun s u o l p c h hi hc hl hof hco hne hs => ?_,
    fun s u l p h hi hs hn hp => ?_, fun s u o h => ⟨fun ho => ?_, ?_, ?_, ?_, ?_⟩⟩
  · obtain ⟨hcp, -, hpl⟩ := hc
    subst hl
    obtain ⟨hwait, -⟩ := State.callBack_named (s := s.tookRequest u) (u := u) (q := .callback (lineOctet c.line)) hs hpl hcp
    obtain ⟨hst, hcur, ⟨d, hd, hcd⟩, hq, hident, hframe, hstack, hreq⟩ := State.callBack_takes_waiting hcp h.2.1 rfl
    have hsame : c.sameCall d := (c.sameCall_connected u s.cc.now s.stamp).passed hcd
    refine ⟨_, d, by rw [exec_callback_line h hi, hwait hw]; rfl, hst, hcur, hd, hsame, ?_⟩
    rcases hcd with rfl | ⟨hn, -⟩ | ⟨-, hd'⟩
    · exact ⟨rfl, .inl rfl, rfl, rfl, rfl, hq, hident, hframe, hstack, hreq⟩
    · cases hn
    · rw [hd']
      exact ⟨rfl, .inr rfl, rfl, rfl, rfl, hq, hident, hframe, hstack, hreq⟩
  · obtain ⟨hcp, -, hpl⟩ := hc
    subst hl
    obtain ⟨-, hoff, -⟩ := State.callBack_named (s := s.tookRequest u) (u := u) (q := .callback (lineOctet c.line)) hs hpl hcp
    obtain ⟨y, hy, hyrec, -, hyroom⟩ := State.withdrawTaken_eq (s.tookRequest u) o (.withdraw c.ref .taken)
    obtain ⟨x, hx, hxrec, -, hxroom⟩ := State.takeCall_eq (s := (s.tookRequest u).setTrunk o (y.guarding s.ti.guardTime))
      (p := p) (c := c) hcp u
    rw [State.trunk_setTrunk_ne _ _ hne, State.tookRequest_trunk_self] at hxrec hxroom
    have hso : (s.tookRequest u).trunk o = s.trunk o := by simp [State.tookRequest, hne.symm]
    rw [hso] at hyrec hyroom
    have hexec : exec (.callback u (lineOctet c.line)) s =
        .next (((s.tookRequest u).setTrunk o (y.guarding s.ti.guardTime)).callTaken u p c x) := by
      rw [exec_callback_line h hi, hoff o hof hco, hy]
      exact congrArg _ hx
    refine ⟨_, hexec, ?_⟩
    rw [State.callTaken_trunk_self, State.callTaken_trunk_ne _ _ hne.symm, State.trunk_setTrunk_self,
      State.callTaken_call, State.callTaken_player, State.callTaken_from_offer s _ _ hne]
    exact ⟨by rw [hxrec]; rfl, by rw [hxrec]; rfl, rfl, rfl, rfl, rfl, rfl, rfl, fun hl hr => hyroom _ rfl hl hr,
      fun i hi hr => hxroom _ (by rw [Call.record, hi]; rfl) h.2.1 hr, rfl, by rw [hxrec]; rfl, by rw [hyrec]; rfl⟩
  · obtain ⟨x, hx, hxrec, -, hxroom⟩ := State.ringPost_eq (s := s.tookRequest u) (u := u) (l := l) (p := p) hp
    rw [State.tookRequest_trunk_self] at hxrec hxroom
    have hnot : (s.lines.get l).state ∉ [LineState.unequipped, .outOfService, .settling, .fault] := by simp [hs]
    have hexec : exec (.callback u (lineOctet l)) s = .next ((s.tookRequest u).postRung u l p x) := by
      rw [exec_callback_line h hi, State.callBack_free (s := s.tookRequest u) hnot hn, ← hx]
      exact congrArg Host.Outcome.next (if_pos hs)
    refine ⟨_, (s.tookRequest u).callbackCall u l, hexec, ?_⟩
    rw [State.postRung_trunk_self, State.postRung_call, State.postRung_tookRequest]
    exact ⟨by rw [hxrec]; rfl, by rw [hxrec]; rfl, rfl, rfl, rfl, rfl, rfl, rfl, rfl, rfl, rfl, by rw [hxrec]; rfl,
      fun hr => hxroom _ rfl h.2.1 hr⟩
  · exact exec_callback_no_line h (lineOf_eq_none ho)
  · rintro l rfl hi
    exact exec_callback_not_idle h hi
  · rintro l rfl hi hs
    rw [exec_callback_line h hi, State.callBack_unavailable (by simpa [State.tookRequest] using hs)]
  · rintro l rfl hi hn hs
    have hnot : (s.lines.get l).state ∉ [LineState.unequipped, .outOfService, .settling, .fault] := by
      rcases hs with hs | hs | hs | hs <;> simp [hs]
    have hidle : (s.lines.get l).state ≠ .idle := by
      rcases hs with hs | hs | hs | hs <;> simp [hs]
    rw [exec_callback_line h hi, State.callBack_free (s := s.tookRequest u) hnot hn]
    exact congrArg Host.Outcome.next (if_neg hidle)
  · rintro p c rfl hi ⟨hcp, -, hcl⟩ hs
    obtain ⟨-, -, horig, hdesk⟩ := State.callBack_named (s := s.tookRequest u) (u := u)
      (q := .callback (lineOctet c.line)) hs hcl hcp
    exact ⟨fun hst => by rw [exec_callback_line h hi, horig hst], fun hst => by rw [exec_callback_line h hi, hdesk hst]⟩

end Sys2Proof.Machine
end

section
/-! The ends of calls in a soft reset (R90 to R93, R123, R140): what each end makes of the trunks, the journal, the output
list and the calls left, while every trunk drains and none is eligible-idle. -/

namespace Sys2Proof.Machine

open Sys2Proof

/-! ### Messages made for a trunk, on its record (R106) -/

/-- A trunk record after a message has been made for its desk (R106). -/
def Trunk.deliver (x : Trunk) (m : DeskMessage) : Trunk :=
  if x.link = .up then
    if x.transmit.length < 8 then { x with transmit := x.transmit ++ [m] }
    else { x with overruns := min (x.overruns + 1) 255 }
  else x

/-- A trunk record after messages have been made for its desk, in that order (R106). -/
def Trunk.delivered (x : Trunk) (ms : List DeskMessage) : Trunk := ms.foldl Trunk.deliver x

section Deliver

variable (x : Trunk) (ms ns : List DeskMessage) (m : DeskMessage)

@[simp] theorem Trunk.delivered_nil : x.delivered [] = x := rfl

theorem Trunk.delivered_append : x.delivered (ms ++ ns) = (x.delivered ms).delivered ns := List.foldl_append

/-- The messages made for a desk join its list while the link is UP and there is room; the rest are counted (R106). -/
theorem Trunk.delivered_eq : x.delivered ms = if x.link = .up then { x with
      transmit := x.transmit ++ ms.take (8 - x.transmit.length)
      overruns := if ms.length - (8 - x.transmit.length) = 0 then x.overruns
        else min (x.overruns + (ms.length - (8 - x.transmit.length))) 255 } else x := by
  induction ms generalizing x with
  | nil => simp
  | cons m ms ih =>
    change (x.deliver m).delivered ms = _
    rw [ih, Trunk.deliver]
    by_cases hl : x.link = .up
    · by_cases hr : x.transmit.length < 8
      · obtain ⟨k, hk⟩ : ∃ k, 8 - x.transmit.length = k + 1 := ⟨7 - x.transmit.length, by omega⟩
        have hk' : 8 - (x.transmit.length + 1) = k := by omega
        simp [hl, hr, hk, hk']
      · have hk : 8 - x.transmit.length = 0 := by omega
        simp only [hl, hr, hk, if_true, if_false, List.take_zero, List.length_cons, Nat.sub_zero]
        have hn : ms.length + 1 ≠ 0 := by omega
        rw [if_neg hn]
        congr 1
        split <;> omega
    · simp [hl]

/-- Messages made for a desk change the list and the overrun count of its record alone (R106). -/
theorem Trunk.delivered_frame : x.delivered ms =
    { x with transmit := (x.delivered ms).transmit, overruns := (x.delivered ms).overruns } := by
  rw [Trunk.delivered_eq]
  split <;> rfl

theorem Trunk.prefix_delivered : x.transmit <+: (x.delivered ms).transmit := by
  rw [Trunk.delivered_eq]
  split
  · exact List.prefix_append _ _
  · exact List.prefix_rfl

end Deliver

/-- A message for a desk, on the record of its trunk (R106). -/
theorem State.sendDesk_eq_mapTrunk (s : State) (u : TrunkNo) (m : DeskMessage) :
    s.sendDesk u m = s.mapTrunk u fun x => x.delivered [m] := by
  have hsame : s.setTrunk u (s.trunk u) = s := by simp [State.setTrunk, State.trunk]
  change _ = s.setTrunk u ((s.trunk u).deliver m)
  unfold State.sendDesk Trunk.deliver
  by_cases hl : (s.trunk u).link = .up
  · rw [if_pos hl, if_pos hl]
    by_cases hr : (s.trunk u).transmit.length < 8
    · rw [if_pos hr, if_pos (show _ < Config.transmitMessages from hr)]
      rfl
    · rw [if_neg hr, if_neg (show ¬ _ < Config.transmitMessages from hr)]
      rfl
  · rw [if_neg hl, if_neg hl]
    exact hsame.symm

/-! ### What an ended call leaves of its trunk (R90, R91, R115) -/

/-- A trunk record that call `c` has left: off the hold stack, or in GUARD for `time` if it was the current one. -/
def Trunk.lets (x : Trunk) (c : Call) (time : Nat) : Trunk :=
  if c.state = .held then { x with stack := x.stack.erase c.ref }
  else if x.current = some c.ref then x.guarding time
  else x

/-- What the end of call `c` in a soft reset makes of its trunk's record (R90, R91). -/
def Trunk.ended (x : Trunk) (c : Call) (time : Nat) : Trunk :=
  (x.delivered (c.endMessage .reset).toList).lets c time

/-- The first steps of the end of call `c`: out of the queue or the hold stack, its desk told, its trunk free (R90). -/
def State.letGo (s : State) (c : Call) : State := ((s.removeCall c).endMessage c .reset).freeTrunk c

theorem State.mapTrunk_mapTrunk (s : State) (u : TrunkNo) (f g : Trunk → Trunk) :
    (s.mapTrunk u f).mapTrunk u g = s.mapTrunk u fun x => g (f x) := by
  simp [State.mapTrunk]

theorem State.mapTrunk_same (s : State) {u : TrunkNo} {f : Trunk → Trunk} (h : f (s.trunk u) = s.trunk u) :
    s.mapTrunk u f = s := by
  rw [State.mapTrunk, h]
  simp [State.setTrunk, State.trunk]

/-- A call on no trunk leaves the queue, if it stands there, and nothing else (R90). -/
theorem State.letGo_of_none (s : State) {c : Call} (h : c.trunk = none) :
    s.letGo c = s.setQueue (if c.state = .waiting then s.cc.queue.erase c.ref else s.cc.queue) := by
  unfold State.letGo State.removeCall State.endMessage State.freeTrunk
  rw [h]
  cases c.state <;> rfl

/-- The desk message of an end in a soft reset, on the record of the call's trunk (R91). -/
theorem State.endMessage_of_some (s : State) {c : Call} {u : TrunkNo} (h : c.trunk = some u) :
    s.endMessage c .reset = s.mapTrunk u fun x => x.delivered (c.endMessage .reset).toList := by
  have hnone : s = s.mapTrunk u fun x => x.delivered [] := (s.mapTrunk_same rfl).symm
  unfold State.endMessage Call.endMessage
  rw [h]
  cases c.state
  case originating => exact hnone
  case waiting => exact hnone
  all_goals exact State.sendDesk_eq_mapTrunk s u _

/-- A call on a trunk leaves that, and the queue if it stands there (R90, R91). -/
theorem State.letGo_of_some (s : State) {c : Call} {u : TrunkNo} (h : c.trunk = some u) :
    s.letGo c = (s.setQueue (if c.state = .waiting then s.cc.queue.erase c.ref else s.cc.queue)).mapTrunk u
      fun x => x.ended c s.ti.guardTime := by
  by_cases hh : c.state = .held
  · have hremove : s.removeCall c = s.mapTrunk u fun x => { x with stack := x.stack.erase c.ref } := by
      rw [State.removeCall, hh, h]
    have hfree (t : State) : t.freeTrunk c = t := by simp [State.freeTrunk, h, hh]
    rw [State.letGo, hfree, State.endMessage_of_some _ h, hremove, State.mapTrunk_mapTrunk, hh]
    refine congrArg (s.mapTrunk u) (funext fun x => ?_)
    rw [Trunk.ended, Trunk.lets, if_pos hh, Trunk.delivered_eq, Trunk.delivered_eq]
    split <;> rfl
  · have hremove : s.removeCall c =
        s.setQueue (if c.state = .waiting then s.cc.queue.erase c.ref else s.cc.queue) := by
      unfold State.removeCall
      cases hs : c.state <;> simp_all <;> rfl
    have hfree (t : State) : t.freeTrunk c = t.mapTrunk u fun x => x.lets c t.ti.guardTime := by
      unfold State.freeTrunk
      rw [h]
      dsimp only
      split
      next hc => simp [State.enterGuard, State.mapTrunk, Trunk.lets, hh, hc.2, Trunk.guarding]
      next hc =>
        refine (t.mapTrunk_same ?_).symm
        rw [Trunk.lets, if_neg hh, if_neg fun e => hc ⟨hh, e⟩]
    rw [State.letGo, hfree, State.endMessage_of_some _ h, hremove, State.mapTrunk_mapTrunk]
    rfl

/-- What the first steps of an end make of a trunk (R90, R91, R115). -/
theorem State.letGo_trunk (s : State) (c : Call) (w : TrunkNo) : (s.letGo c).trunk w =
    if c.trunk = some w then (s.trunk w).ended c s.ti.guardTime else s.trunk w := by
  cases h : c.trunk with
  | none => simp [s.letGo_of_none h]
  | some u =>
    rw [s.letGo_of_some h]
    by_cases hw : u = w
    · subst hw
      simp
    · simp [hw]

theorem State.letGo_queue (s : State) (c : Call) :
    (s.letGo c).cc.queue = if c.state = .waiting then s.cc.queue.erase c.ref else s.cc.queue := by
  cases h : c.trunk with
  | none => rw [s.letGo_of_none h]; rfl
  | some u => rw [s.letGo_of_some h]; rfl

theorem State.letGo_besidePass (s : State) (c : Call) : (s.letGo c).besidePass = s.besidePass := by
  cases h : c.trunk with
  | none => rw [s.letGo_of_none h]; rfl
  | some u => rw [s.letGo_of_some h]; rfl

end Sys2Proof.Machine
end

section
/-! A call's end in a soft reset, in any state whose trunks all drain (R90, R93, R123): the reports it can make, the number it
takes from the journal, and what it leaves of the trunks. -/

namespace Sys2Proof.Machine

open Sys2Proof

/-! ### The judgement and the examination while every trunk drains (R84, R121, R123) -/

section Judged

variable (s : State)

/-- Whether the no-trunk condition holds (R121). -/
def State.trunkless : Bool := !s.cc.queue.isEmpty && !s.ti.trunks.cells.any Trunk.reachable

/-- A judgement that finds the flag right changes nothing; one that does not sets it and makes its report (R121). -/
theorem State.judgeNoTrunk_eq : ∃ r, s.judgeNoTrunk =
    if s.ti.noTrunk = s.trunkless then s
    else State.report { s with ti := { s.ti with noTrunk := s.trunkless } } r := by
  unfold State.judgeNoTrunk State.trunkless
  dsimp only
  generalize (!s.cc.queue.isEmpty && !s.ti.trunks.cells.any Trunk.reachable) = holds
  cases hn : s.ti.noTrunk <;> cases holds
  · exact ⟨.trunksRestored false, rfl⟩
  · exact ⟨_, rfl⟩
  · exact ⟨_, rfl⟩
  · exact ⟨.trunksRestored false, rfl⟩

theorem State.judgeNoTrunk_noTrunk : s.judgeNoTrunk.ti.noTrunk = s.trunkless := by
  obtain ⟨r, h⟩ := s.judgeNoTrunk_eq
  rw [h]
  split
  next hn => exact hn
  · rw [State.report_ti]

theorem State.judgeNoTrunk_trunks : s.judgeNoTrunk.ti.trunks = s.ti.trunks := by
  obtain ⟨r, h⟩ := s.judgeNoTrunk_eq
  rw [h]
  split
  · rfl
  · rw [State.report_ti]

@[simp] theorem State.judgeNoTrunk_trunk (w : TrunkNo) : s.judgeNoTrunk.trunk w = s.trunk w :=
  congrArg (Table.get · w) s.judgeNoTrunk_trunks

/-- A second judgement right after the first changes nothing (R121). -/
theorem State.judgeNoTrunk_judgeNoTrunk : s.judgeNoTrunk.judgeNoTrunk = s.judgeNoTrunk := by
  obtain ⟨r, h⟩ := s.judgeNoTrunk.judgeNoTrunk_eq
  rw [h, if_pos]
  rw [State.judgeNoTrunk_noTrunk, State.trunkless, State.trunkless, State.judgeNoTrunk_trunks, State.judgeNoTrunk_cc]

variable {s}

/-- A trunk that drains is not eligible-idle (R123). -/
theorem State.eligible_of_draining (h : ∀ w, (s.trunk w).draining = true) (w : TrunkNo) :
    (s.trunk w).eligible = false := by
  simp [Trunk.eligible, h w]

theorem State.eligibleTrunks_of_draining (h : ∀ w, (s.trunk w).draining = true) (g : TrunkGroup) :
    s.eligibleTrunks g = [] := by
  have hnone : ((List.finRange 8).filter fun t => (s.trunk t).eligible && (s.trunk t).group = g) = [] :=
    List.filter_eq_nil_iff.mpr fun w _ => by simp [State.eligible_of_draining h w]
  rw [State.eligibleTrunks, hnone]
  rfl

/-- While every trunk drains a pass offers nothing: the judgement and the examination are left of it (R84, R123). -/
theorem State.changed_of_draining (h : ∀ w, (s.trunk w).draining = true) : s.changed = s.judgeNoTrunk.examine := by
  have hj : ∀ w, (s.judgeNoTrunk.trunk w).draining = true := fun w => by rw [State.judgeNoTrunk_trunk]; exact h w
  rw [State.changed, State.pass, State.eligibleTrunks_of_draining hj]
  dsimp only [List.foldl_nil]
  rw [State.eligibleTrunks_of_draining hj, List.foldl_nil, State.judgeNoTrunk_judgeNoTrunk]

end Judged

/-! ### The end of a call, step by step (R90) -/

section End

variable {s : State} {p : LineNo} {c : Call}

/-- The state in which an end is recorded and reported: the trunk free and the channel stopped, CALL ENDED on its way
(R90). -/
def State.leftBy (s : State) (p : LineNo) (c : Call) : State :=
  { (s.letGo c).stopPlayer p with callEnds := s.callEnds ++ [c.line] }

/-- The end of call `c` of place `p` up to its place being freed (R90). -/
def State.endedAt (s : State) (p : LineNo) (c : Call) : State :=
  State.setCall (((s.leftBy p c).record (.callEnd (s.callEndOf c .reset))).report
    (.callEvent c.ref c.line (c.identity.map CallIdentity.kind) c.state .reset s.journal.nextNumber)) p none

/-- What comes after a call's place is freed (R90, R140). -/
def State.afterEnd (s : State) (c : Call) : State :=
  if c.state = .waiting then s.judgeNoTrunk.examine else if c.state = .preempting then s.examine else s

theorem State.letGo_callEnds (s : State) (c : Call) : (s.letGo c).callEnds = s.callEnds := by simp [State.letGo]

theorem State.letGo_journal (s : State) (c : Call) : (s.letGo c).journal = s.journal := by simp [State.letGo]

theorem State.letGo_link (s : State) (c : Call) : (s.letGo c).link = s.link := by simp [State.letGo]

theorem State.letGo_time (s : State) (c : Call) : (s.letGo c).time = s.time := by simp [State.letGo]

theorem State.letGo_calls (s : State) (c : Call) : (s.letGo c).cc.calls = s.cc.calls := by
  cases h : c.trunk with
  | none => rw [s.letGo_of_none h]; rfl
  | some u => rw [s.letGo_of_some h]; rfl

theorem State.endedAt_trunk (s : State) (p : LineNo) (c : Call) (w : TrunkNo) :
    (s.endedAt p c).trunk w = (s.letGo c).trunk w := by
  change (State.endedAt s p c).ti.trunks.get w = _
  simp only [State.endedAt, State.setCall_ti, State.report_ti, State.record_ti]
  rfl

/-- What a CALL END says of a call goes by the running time and the call alone (R92). -/
theorem State.callEndOf_congr {s t : State} {c d : Call} {k : Cause} (ht : t.cc.now = s.cc.now)
    (hc : d = { c with
      state := d.state, connectedMark := d.connectedMark, preemptionTimer := d.preemptionTimer }) :
    t.callEndOf d k = s.callEndOf c k := by
  rw [hc]
  simp only [State.callEndOf, State.secondsWaited, State.age, ht]

theorem State.letGo_now (s : State) (c : Call) : (s.letGo c).cc.now = s.cc.now := by
  cases h : c.trunk with
  | none => rw [s.letGo_of_none h]; rfl
  | some u => rw [s.letGo_of_some h]; rfl

theorem Trunk.lets_frame (x : Trunk) (c : Call) (time : Nat) : x.lets c time = { x with
    state := (x.lets c time).state, current := (x.lets c time).current, offerTimer := (x.lets c time).offerTimer
    guardTimer := (x.lets c time).guardTimer, idleSince := (x.lets c time).idleSince
    stack := (x.lets c time).stack } := by
  unfold Trunk.lets
  split
  · rfl
  · split <;> rfl

/-- `y` is trunk `x` after ends of calls: some have left it, and messages have been made for its desk (R90, R91). -/
def Trunk.emptied (x y : Trunk) : Prop :=
  y = { x with
    state := y.state, current := y.current, offerTimer := y.offerTimer, guardTimer := y.guardTimer
    idleSince := y.idleSince, stack := y.stack, transmit := y.transmit, overruns := y.overruns } ∧
  x.transmit <+: y.transmit

theorem Trunk.emptied_refl (x : Trunk) : x.emptied x := ⟨rfl, List.prefix_rfl⟩

theorem Trunk.emptied.trans {x y z : Trunk} (h : x.emptied y) (g : y.emptied z) : x.emptied z := by
  obtain ⟨h1, h2⟩ := h
  obtain ⟨g1, g2⟩ := g
  exact ⟨by rw [g1, h1], h2.trans g2⟩

theorem Trunk.passed.emptied {x y : Trunk} (h : x.passed y) : x.emptied y := ⟨by rw [h.1], h.2.1⟩

theorem Trunk.emptied_ended (x : Trunk) (c : Call) (time : Nat) : x.emptied (x.ended c time) := by
  unfold Trunk.ended
  constructor
  · rw [Trunk.lets_frame, Trunk.delivered_frame]
  · rw [Trunk.lets_frame]
    exact x.prefix_delivered _

/-- The end of a call in a soft reset (R90, R123). -/
theorem State.endCall_eq (hd : ∀ w, (s.trunk w).draining = true) (hc : s.cc.calls.get p = some c) :
    s.endCall p .reset = (s.endedAt p c).afterEnd c := by
  have hdrain : ∀ w, ((s.endedAt p c).trunk w).draining = true := fun w => by
    rw [State.endedAt_trunk, State.letGo_trunk]
    split
    · rw [(Trunk.emptied_ended _ c _).1]
      exact hd w
    · exact hd w
  set a : State := { (s.letGo c).stopPlayer p with callEnds := (s.letGo c).callEnds ++ [c.line] } with ha
  have hend : a.callEndOf c .reset = s.callEndOf c .reset := State.callEndOf_congr (s.letGo_now c) rfl
  set b := State.setCall ((a.record (.callEnd (a.callEndOf c .reset))).report
    (.callEvent c.ref c.line (c.identity.map CallIdentity.kind) c.state .reset a.journal.nextNumber)) p none with hb
  have hfreed : b = s.endedAt p c := by
    rw [hb, hend, show a.journal = s.journal from s.letGo_journal c, ha, State.letGo_callEnds]
    rfl
  have hshape : s.endCall p .reset = if c.state = .preempting then
      State.examine (if c.state = .waiting then b.changed else b) else if c.state = .waiting then b.changed else b := by
    unfold State.endCall
    rw [hc]
    rfl
  rw [hshape, hfreed, State.changed_of_draining hdrain, State.afterEnd]
  cases c.state <;> rfl

/-! ### The reports that may still come (R121, R175, R181) -/

/-- The reports on the output list, with those that ends of calls can still add beside their own: JOURNAL LEVEL, and what
the no-trunk condition owes when it is judged and when it ends (R121, R175). -/
def State.reportsDue (s : State) : Nat :=
  s.link.reports + (if s.journal.records.length < s.journal.threshold then 1 else 0) +
    (if s.trunkless then 1 else 0) + (if s.ti.noTrunk = s.trunkless then 0 else 1)

theorem State.reports_le_reportsDue (s : State) : s.link.reports ≤ s.reportsDue := by
  unfold State.reportsDue
  omega

/-- A shorter queue, with the same trunks within reach, owes no more reports (R121). -/
theorem State.reportsDue_le_of {t : State} (hl : t.link.output = s.link.output) (hj : t.journal = s.journal)
    (hn : t.ti.noTrunk = s.ti.noTrunk) (hq : t.cc.queue.Sublist s.cc.queue)
    (hr : ∀ w, (t.trunk w).reachable = (s.trunk w).reachable) : t.reportsDue ≤ s.reportsDue := by
  have hany : t.ti.trunks.cells.any Trunk.reachable = s.ti.trunks.cells.any Trunk.reachable := by
    rw [Bool.eq_iff_iff, List.any_eq_true, List.any_eq_true]
    constructor
    · rintro ⟨x, hx, hxr⟩
      obtain ⟨w, rfl⟩ := Table.exists_get_of_mem hx
      exact ⟨s.trunk w, Table.get_mem _ w, (hr w).symm.trans hxr⟩
    · rintro ⟨x, hx, hxr⟩
      obtain ⟨w, rfl⟩ := Table.exists_get_of_mem hx
      exact ⟨t.trunk w, Table.get_mem _ w, (hr w).trans hxr⟩
  have hless : t.trunkless = true → s.trunkless = true := by
    unfold State.trunkless
    rw [hany]
    simp only [Bool.and_eq_true, Bool.not_eq_true', List.isEmpty_eq_false_iff]
    rintro ⟨h1, h2⟩
    exact ⟨fun h => h1 (List.sublist_nil.mp (h ▸ hq)), h2⟩
  unfold State.reportsDue
  rw [show t.link.reports = s.link.reports by rw [Link.reports, hl, Link.reports], hj, hn]
  cases ht : t.trunkless <;> cases hs : s.trunkless <;> cases s.ti.noTrunk <;> simp_all
  omega

theorem State.reportsDue_report (s : State) (r : Report) : (s.report r).reportsDue ≤ s.reportsDue + 1 := by
  have h := s.report_reports_le r
  have hless : (s.report r).trunkless = s.trunkless := by simp [State.trunkless]
  unfold State.reportsDue
  rw [hless, State.report_ti, State.report_journal]
  omega

/-- A judgement makes a report that was owed (R121). -/
theorem State.reportsDue_judgeNoTrunk (s : State) : s.judgeNoTrunk.reportsDue ≤ s.reportsDue := by
  obtain ⟨r, h⟩ := s.judgeNoTrunk_eq
  rw [h]
  split
  · exact Nat.le_refl _
  next hn =>
    refine (State.reportsDue_report _ r).trans ?_
    unfold State.reportsDue
    have hset : State.trunkless { s with ti := { s.ti with noTrunk := s.trunkless } } = s.trunkless := rfl
    rw [if_neg hn, if_pos hset.symm]
    exact Nat.le_refl _

/-- The number of records a journal holds after one more (R173). -/
theorem Journal.length_append (rs : List Record) (r : Record) :
    (Journal.append rs r).length = if rs.length < 256 then rs.length + 1 else rs.length := by
  unfold Journal.append
  change (if rs.length < 256 then _ else _ : List Record).length = _
  split
  · simp
  next h =>
    rw [List.length_append, List.length_tail, List.length_singleton]
    omega

/-- A record makes the JOURNAL LEVEL report if that was owed (R175). -/
theorem State.reportsDue_record (s : State) (k : RecordKind) : (s.record k).reportsDue ≤ s.reportsDue := by
  cases hx : s.journal.exhausted with
  | true => rw [State.record_of_exhausted hx]
  | false =>
    set rs := Journal.append s.journal.records ⟨s.journal.nextSequence, s.stamp, k⟩ with hrs
    set t : State := { s with journal := { s.journal with records := rs, nextSequence := s.journal.nextSequence + 1 } }
      with ht
    have hlen : s.journal.records.length < 256 ∧ rs.length = s.journal.records.length + 1 ∨
        256 ≤ s.journal.records.length ∧ rs.length = s.journal.records.length := by
      rw [hrs, Journal.length_append]
      split
      next h => exact .inl ⟨h, rfl⟩
      next h => exact .inr ⟨Nat.not_lt.mp h, rfl⟩
    have hrec : s.record k = if s.journal.records.length < 256 ∧ rs.length = s.journal.threshold then
        t.report (.journalLevel rs.length (Journal.oldest rs) s.journal.nextSequence) else t := by
      rw [State.record, if_neg (by simp [hx])]
      rfl
    have hdue : t.reportsDue = s.link.reports + (if rs.length < s.journal.threshold then 1 else 0) +
      (if s.trunkless then 1 else 0) + (if s.ti.noTrunk = s.trunkless then 0 else 1) := rfl
    rw [hrec]
    split
    next hdo =>
      refine (State.reportsDue_report _ _).trans ?_
      rw [hdue, State.reportsDue, if_neg (show ¬ rs.length < s.journal.threshold by omega),
        if_pos (show s.journal.records.length < s.journal.threshold by omega)]
      omega
    · have hmono : (if rs.length < s.journal.threshold then 1 else 0) ≤
          if s.journal.records.length < s.journal.threshold then 1 else 0 := by
        split <;> split <;> omega
      rw [hdue, State.reportsDue]
      omega

/-! ### The calls left -/

/-- The live calls are as many as the places taken. -/
theorem State.length_liveCalls (s : State) :
    s.liveCalls.length = (List.finRange 48).countP fun p => (s.cc.calls.get p).isSome := by
  have hcells : s.cc.calls.cells = (List.finRange 48).map s.cc.calls.get := by
    refine List.ext_getElem (by simp [s.cc.calls.full]) fun i h1 h2 => ?_
    simp [Table.get_eq]
  rw [State.liveCalls, hcells, List.filterMap_map, List.length_filterMap_eq_countP]
  rfl

/-- A place freed, and the others as taken as before: one live call fewer. -/
theorem State.length_liveCalls_freed {t : State} (hc : s.cc.calls.get p = some c) (hp : t.cc.calls.get p = none)
    (h : ∀ q, p ≠ q → (t.cc.calls.get q).isSome = (s.cc.calls.get q).isSome) :
    t.liveCalls.length + 1 = s.liveCalls.length := by
  have hperm := List.perm_cons_erase (List.mem_finRange p)
  have hnot : p ∉ (List.finRange 48).erase p := fun hin => ((List.nodup_finRange 48).mem_erase_iff.mp hin).1 rfl
  have hrest : ((List.finRange 48).erase p).countP (fun q => (t.cc.calls.get q).isSome) =
      ((List.finRange 48).erase p).countP fun q => (s.cc.calls.get q).isSome :=
    List.countP_congr fun q hq => by rw [h q fun e => hnot (e ▸ hq)]
  rw [State.length_liveCalls, State.length_liveCalls, hperm.countP_eq, hperm.countP_eq,
    List.countP_cons_of_neg (by simp [hp]), List.countP_cons_of_pos (by simp [hc]), hrest]

/-! ### What ends of calls leave alone (R90, R93, R123) -/

/-- The state beside what ends of calls write: what a pass writes, the events for the LSC, and the journal's records and
number. -/
def State.besideEnds (s : State) : State :=
  { s.besidePass with
    callEnds := [], journal := { s.journal with records := [], nextSequence := 0 } }

/-- `t` is `s` after `k` ends of calls with every trunk draining (R90, R93, R123). -/
structure State.emptied (s t : State) (k : Nat) : Prop where
  beside : t.besideEnds = s.besideEnds
  output : s.link.output <+: t.link.output
  calls : t.liveCalls.length + k = s.liveCalls.length
  trunks : ∀ w, (s.trunk w).emptied (t.trunk w)
  number : t.journal.nextSequence = max s.journal.nextSequence (min (s.journal.nextSequence + k) 4294967296)
  records : s.journal.exhausted = true → t.journal.records = s.journal.records
  due : t.reportsDue ≤ s.reportsDue + k

theorem Journal.exhausted_iff (j : Journal) : j.exhausted = true ↔ 4294967296 ≤ j.nextSequence := by
  rw [Journal.exhausted, decide_eq_true_iff]
  exact Iff.rfl

theorem State.emptied.trans {t u : State} {k j : Nat} (h : s.emptied t k) (g : t.emptied u j) :
    s.emptied u (k + j) where
  beside := g.beside.trans h.beside
  output := h.output.trans g.output
  calls := by have := h.calls; have := g.calls; omega
  trunks w := (h.trunks w).trans (g.trunks w)
  number := by have := h.number; have := g.number; omega
  records hx := by
    rw [g.records, h.records hx]
    rw [Journal.exhausted_iff] at hx ⊢
    have := h.number
    omega
  due := by have := h.due; have := g.due; omega

/-- Ends of calls leave a draining trunk draining (R123). -/
theorem State.emptied.draining {t : State} {k : Nat} (h : s.emptied t k) (hd : ∀ w, (s.trunk w).draining = true)
    (w : TrunkNo) : (t.trunk w).draining = true := by
  rw [(h.trunks w).1]
  exact hd w

theorem State.passedTo.journal {t : State} (h : s.passedTo t) : t.journal = s.journal :=
  show t.besidePass.journal = s.besidePass.journal by rw [h.beside]

/-- A judgement and an examination end no call (R121, R140). -/
theorem State.passedTo.emptied {t : State} (h : s.passedTo t) (hd : t.reportsDue ≤ s.reportsDue) : s.emptied t 0 where
  beside := by
    rw [State.besideEnds, State.besideEnds, h.beside, h.journal]
  output := h.output
  calls := by
    have hsome (p : LineNo) : (t.cc.calls.get p).isSome = (s.cc.calls.get p).isSome := by
      have := congrArg Option.isSome (h.map_ref p)
      simpa using this
    rw [State.length_liveCalls, State.length_liveCalls]
    simp only [hsome]
    rfl
  trunks w := (h.trunks w).emptied
  number := by
    rw [h.journal]
    omega
  records _ := by
    rw [h.journal]
  due := hd

theorem State.judgeNoTrunk_emptied (s : State) : s.emptied s.judgeNoTrunk 0 :=
  s.judgeNoTrunk_passedTo.emptied s.reportsDue_judgeNoTrunk

/-- An examination leaves the no-trunk flag alone (R140). -/
theorem State.examine_noTrunk (s : State) : s.examine.ti.noTrunk = s.ti.noTrunk := by
  unfold State.examine
  split
  next p _ =>
    cases hc : s.cc.calls.get p with
    | none => rw [State.startPreemption, hc]
    | some c =>
      rw [State.startPreemption_eq hc]
      split
      · rw [State.sendDesk_eq_mapTrunk]
        rfl
      · rfl
  · rfl

theorem State.examine_emptied (s : State) : s.emptied s.examine 0 := by
  have h := s.examine_passedTo
  refine h.emptied (State.reportsDue_le_of (by simp) (by simp) s.examine_noTrunk h.queue fun w => ?_)
  have := (h.trunks w).1
  rw [Trunk.reachable, this, Trunk.reachable]

/-- The number of the next record, after one (R171). -/
theorem State.record_nextSequence (s : State) (k : RecordKind) : (s.record k).journal.nextSequence =
    max s.journal.nextSequence (min (s.journal.nextSequence + 1) 4294967296) := by
  cases hx : s.journal.exhausted with
  | true =>
    rw [State.record_of_exhausted hx]
    rw [Journal.exhausted_iff] at hx
    omega
  | false =>
    have hn : ¬ 4294967296 ≤ s.journal.nextSequence := fun h => by simp [(Journal.exhausted_iff _).mpr h] at hx
    rw [State.record_journal hx]
    change s.journal.nextSequence + 1 = _
    omega

theorem State.letGo_noTrunk (s : State) (c : Call) : (s.letGo c).ti.noTrunk = s.ti.noTrunk := by
  cases h : c.trunk with
  | none => rw [s.letGo_of_none h]; rfl
  | some u => rw [s.letGo_of_some h]; rfl

theorem State.letGo_trunk_emptied (s : State) (c : Call) (w : TrunkNo) : (s.trunk w).emptied ((s.letGo c).trunk w) := by
  rw [State.letGo_trunk]
  split
  · exact Trunk.emptied_ended _ _ _
  · exact Trunk.emptied_refl _

/-- The first steps of an end make no report, and owe none (R90). -/
theorem State.letGo_reportsDue (s : State) (c : Call) : (s.letGo c).reportsDue ≤ s.reportsDue := by
  refine State.reportsDue_le_of (by rw [s.letGo_link]) (s.letGo_journal c) (s.letGo_noTrunk c) ?_ fun w => ?_
  · rw [State.letGo_queue]
    split
    · exact List.erase_sublist
    · exact List.Sublist.refl _
  · rw [Trunk.reachable, (s.letGo_trunk_emptied c w).1, Trunk.reachable]

theorem State.report_besideEnds (s : State) (r : Report) : (s.report r).besideEnds = s.besideEnds := by
  rw [State.besideEnds, State.report_besidePass, State.report_journal, State.besideEnds]

theorem State.record_besideEnds (s : State) (k : RecordKind) : (s.record k).besideEnds = s.besideEnds := by
  unfold State.record
  split
  · rfl
  · dsimp only
    split
    · exact State.report_besideEnds _ _
    · rfl

theorem State.setCall_besideEnds (s : State) (p : LineNo) (c : Option Call) :
    (s.setCall p c).besideEnds = s.besideEnds := rfl

theorem State.setCall_reportsDue (s : State) (p : LineNo) (c : Option Call) :
    (s.setCall p c).reportsDue = s.reportsDue := rfl

theorem State.leftBy_besideEnds (s : State) (p : LineNo) (c : Call) : (s.leftBy p c).besideEnds = s.besideEnds := by
  change (s.letGo c).besideEnds = _
  rw [State.besideEnds, State.letGo_besidePass, State.letGo_journal, State.besideEnds]

theorem State.leftBy_journal (s : State) (p : LineNo) (c : Call) : (s.leftBy p c).journal = s.journal :=
  s.letGo_journal c

theorem State.leftBy_link (s : State) (p : LineNo) (c : Call) : (s.leftBy p c).link = s.link := s.letGo_link c

theorem State.endedAt_journal (s : State) (p : LineNo) (c : Call) :
    (s.endedAt p c).journal = ((s.leftBy p c).record (.callEnd (s.callEndOf c .reset))).journal := by
  rw [State.endedAt, State.setCall_journal, State.report_journal]

theorem State.endedAt_calls (s : State) (p : LineNo) (c : Call) :
    (s.endedAt p c).cc.calls = s.cc.calls.set p none := by
  rw [State.endedAt, State.setCall_cc, State.report_cc, State.record_cc]
  exact congrArg (Table.set · p none) (s.letGo_calls c)

theorem State.endedAt_queue (s : State) (p : LineNo) (c : Call) : (s.endedAt p c).cc.queue = (s.letGo c).cc.queue := by
  rw [State.endedAt, State.setCall_cc, State.report_cc, State.record_cc]
  rfl

/-- An end adds its CALL EVENT to the output list, and before it a JOURNAL LEVEL at most (R92, R175). -/
theorem State.endedAt_link (s : State) (p : LineNo) (c : Call) : (s.endedAt p c).link =
    (((s.leftBy p c).record (.callEnd (s.callEndOf c .reset))).report
      (.callEvent c.ref c.line (c.identity.map CallIdentity.kind) c.state .reset s.journal.nextNumber)).link := rfl

theorem State.endedAt_emptied (hc : s.cc.calls.get p = some c) : s.emptied (s.endedAt p c) 1 where
  beside := by
    rw [State.endedAt, State.setCall_besideEnds, State.report_besideEnds, State.record_besideEnds,
      State.leftBy_besideEnds]
  output := by
    rw [State.endedAt_link, ← s.leftBy_link p c]
    exact (State.output_prefix_record _ _).trans (State.output_prefix_report _ _)
  calls := State.length_liveCalls_freed hc (by rw [State.endedAt_calls, Table.get_set_self])
    fun q hq => by rw [State.endedAt_calls, Table.get_set_ne _ _ hq]
  trunks w := (State.endedAt_trunk s p c w).symm ▸ s.letGo_trunk_emptied c w
  number := by rw [State.endedAt_journal, State.record_nextSequence, State.leftBy_journal]
  records hx := by
    rw [State.endedAt_journal, State.record_of_exhausted (by rwa [State.leftBy_journal]), State.leftBy_journal]
  due := by
    rw [State.endedAt, State.setCall_reportsDue]
    refine (State.reportsDue_report _ _).trans (Nat.add_le_add_right ((State.reportsDue_record _ _).trans ?_) 1)
    exact s.letGo_reportsDue c

/-- The end of a call in a soft reset, with every trunk draining (R90, R123). -/
theorem State.endCall_emptied (hd : ∀ w, (s.trunk w).draining = true) (hc : s.cc.calls.get p = some c) :
    s.emptied (s.endCall p .reset) 1 := by
  rw [State.endCall_eq hd hc, State.afterEnd]
  have h := State.endedAt_emptied hc
  split
  · exact (h.trans (State.judgeNoTrunk_emptied _)).trans (State.examine_emptied _)
  · split
    · exact h.trans (State.examine_emptied _)
    · exact h

end End

end Sys2Proof.Machine
end

section
/-! A soft reset as a whole (R93, R123, R188): all calls ended, the trunks that have nothing to send reset, the parameters at
their defaults, the load, and READY. -/

namespace Sys2Proof.Machine

open Sys2Proof

/-! ### All calls ended (R93) -/

section EndAll

variable {s : State} {p : LineNo} {c : Call}

theorem State.mem_liveCalls : c ∈ s.liveCalls ↔ ∃ p, s.cc.calls.get p = some c := by
  rw [State.liveCalls, List.mem_filterMap]
  constructor
  · rintro ⟨_, hx, rfl⟩
    exact Table.exists_get_of_mem hx
  · rintro ⟨p, hp⟩
    exact ⟨some c, hp ▸ Table.get_mem _ p, rfl⟩

/-- A live call's reference is found, at its place or an earlier one (R72). -/
theorem State.exists_placeOfRef (hc : s.cc.calls.get p = some c) : ∃ q d,
    s.placeOfRef c.ref = some q ∧ s.cc.calls.get q = some d := by
  have hs : (s.placeOfRef c.ref).isSome := by
    rw [State.placeOfRef, State.placeWhere, List.find?_isSome]
    exact ⟨p, List.mem_finRange p, by simp [hc]⟩
  obtain ⟨q, hq⟩ := Option.isSome_iff_exists.mp hs
  obtain ⟨d, hd, -⟩ := State.placeOfRef_spec hq
  exact ⟨q, d, hq, hd⟩

theorem State.emptied_refl (s : State) : s.emptied s 0 :=
  (State.passedTo.refl s).emptied (Nat.le_refl _)

theorem State.endAll_of_head {n : Nat} (hh : s.callsBySequence.head? = some c) (hp : s.placeOfRef c.ref = some p) :
    s.endAll (n + 1) = (s.endCall p .reset).endAll n := by
  rw [State.endAll, hh, Option.bind_some, hp]

theorem State.endAll_of_none {n : Nat} (h : s.liveCalls = []) : s.endAll n = s := by
  cases n with
  | zero => rfl
  | succ n =>
    have hh : s.callsBySequence = [] := by rw [State.callsBySequence, h, List.insertionSort_nil]
    rw [State.endAll, hh]
    rfl

theorem State.callsBySequence_perm (s : State) : s.callsBySequence.Perm s.liveCalls := List.perm_insertionSort _ _

/-- Every live call ends (R93). -/
theorem State.endAll_emptied (n : Nat) (s : State) (hd : ∀ w, (s.trunk w).draining = true)
    (hn : s.liveCalls.length ≤ n) : s.emptied (s.endAll n) s.liveCalls.length := by
  induction n generalizing s with
  | zero =>
    rw [Nat.le_zero.mp hn]
    exact s.emptied_refl
  | succ n ih =>
    cases hh : s.callsBySequence with
    | nil =>
      have hnil : s.liveCalls = [] := (hh ▸ s.callsBySequence_perm).nil_eq.symm
      rw [State.endAll_of_none hnil, hnil]
      exact s.emptied_refl
    | cons c cs =>
      have hmem : c ∈ s.liveCalls := s.callsBySequence_perm.mem_iff.mp (hh ▸ List.mem_cons_self)
      obtain ⟨p, hp⟩ := State.mem_liveCalls.mp hmem
      obtain ⟨q, d, hq, hqd⟩ := State.exists_placeOfRef hp
      have hend := State.endCall_emptied hd hqd
      have hlen := hend.calls
      rw [State.endAll_of_head (by rw [hh]; rfl) hq, ← hlen, Nat.add_comm]
      exact hend.trans (ih _ (hend.draining hd) (by omega))

theorem State.length_liveCalls_le (s : State) : s.liveCalls.length ≤ 48 := by
  rw [State.length_liveCalls]
  exact List.countP_le_length

theorem State.calls_of_liveCalls_nil (h : s.liveCalls.length = 0) (p : LineNo) : s.cc.calls.get p = none := by
  cases hc : s.cc.calls.get p with
  | none => rfl
  | some c => exact absurd (State.mem_liveCalls.mpr ⟨p, hc⟩) (by simp [List.length_eq_zero_iff.mp h])

end EndAll

/-! ### The trunks that have nothing to send (R123, R163) -/

section Drained

/-- What a reset sets of trunk `w`: its record, its two buffers and its slip count (R123, R163). -/
def State.channel (s : State) (w : TrunkNo) : Trunk × Buffer × Buffer × Nat :=
  (s.trunk w, s.ap.receive.get w, s.ap.send.get w, s.ap.slips.get w)

/-- The reset values of trunk `w`, of which the last frame is kept (R122, R123, R163). -/
def Trunk.resetChannel (x : Trunk) (w : TrunkNo) : Trunk × Buffer × Buffer × Nat :=
  ({ Trunk.initial (if w.val < 6 then .primary else .overflow) with lastFrame := x.lastFrame }, Buffer.empty,
    Buffer.empty, 0)

/-- Trunk `w` has nothing left to send in a reset (R123). -/
def State.drained (s : State) (w : TrunkNo) : Prop := (s.trunk w).draining = true ∧ (s.trunk w).transmit = []

theorem State.resetDrained_of (s : State) {w : TrunkNo} (h : s.drained w) : s.resetDrained w =
    { s with ap := { s.ap with
        receive := s.ap.receive.set w Buffer.empty
        send := s.ap.send.set w Buffer.empty
        slips := s.ap.slips.set w 0 } }.setTrunk w ((s.trunk w).resetChannel w).1 := by
  unfold State.resetDrained
  exact if_pos h

theorem State.resetDrained_of_not (s : State) {w : TrunkNo} (h : ¬ s.drained w) : s.resetDrained w = s := by
  unfold State.resetDrained
  exact if_neg h

theorem State.resetDrained_channel_ne (s : State) {v w : TrunkNo} (h : v ≠ w) :
    (s.resetDrained v).channel w = s.channel w := by
  by_cases hv : s.drained v
  · rw [s.resetDrained_of hv]
    change ((s.ti.trunks.set v _).get w, (s.ap.receive.set v _).get w, (s.ap.send.set v _).get w,
      (s.ap.slips.set v _).get w) = _
    rw [Table.get_set_ne _ _ h, Table.get_set_ne _ _ h, Table.get_set_ne _ _ h, Table.get_set_ne _ _ h]
    rfl
  · rw [s.resetDrained_of_not hv]

theorem State.resetDrained_channel_self (s : State) {w : TrunkNo} (h : s.drained w) :
    (s.resetDrained w).channel w = (s.trunk w).resetChannel w := by
  rw [s.resetDrained_of h]
  simp [State.channel, Trunk.resetChannel]

/-- Only the trunks with their buffers and slip counts are written (R123, R163). -/
theorem State.resetDrained_frame (s : State) (w : TrunkNo) : s.resetDrained w =
    { s with
      ti := { s.ti with trunks := (s.resetDrained w).ti.trunks }
      ap := { s.ap with
        receive := (s.resetDrained w).ap.receive, send := (s.resetDrained w).ap.send
        slips := (s.resetDrained w).ap.slips } } := by
  by_cases hv : s.drained w
  · rw [s.resetDrained_of hv]
    rfl
  · rw [s.resetDrained_of_not hv]

theorem State.foldl_resetDrained_frame (ws : List TrunkNo) (s : State) : ws.foldl State.resetDrained s =
    { s with
      ti := { s.ti with trunks := (ws.foldl State.resetDrained s).ti.trunks }
      ap := { s.ap with
        receive := (ws.foldl State.resetDrained s).ap.receive, send := (ws.foldl State.resetDrained s).ap.send
        slips := (ws.foldl State.resetDrained s).ap.slips } } := by
  induction ws generalizing s with
  | nil => rfl
  | cons w ws ih =>
    rw [List.foldl_cons, ih]
    rw [s.resetDrained_frame w]

/-- Trunks not in the list stay, and of the others those take their reset values that have nothing to send (R123). -/
theorem State.foldl_resetDrained_channel (ws : List TrunkNo) (s : State) (hn : ws.Nodup) (w : TrunkNo) :
    (w ∈ ws → s.drained w → (ws.foldl State.resetDrained s).channel w = (s.trunk w).resetChannel w) ∧
      ((w ∉ ws ∨ ¬ s.drained w) → (ws.foldl State.resetDrained s).channel w = s.channel w) := by
  induction ws generalizing s with
  | nil => exact ⟨nofun, fun _ => rfl⟩
  | cons v ws ih =>
    obtain ⟨hv, hn⟩ := List.nodup_cons.mp hn
    obtain ⟨hin, hout⟩ := ih (s.resetDrained v) hn
    by_cases hvw : v = w
    · subst hvw
      refine ⟨fun _ hd => ?_, fun h => ?_⟩
      · rw [List.foldl_cons, hout (.inl hv), s.resetDrained_channel_self hd]
      · rw [List.foldl_cons, hout (.inl hv), s.resetDrained_of_not (h.resolve_left fun h => h List.mem_cons_self)]
    · have hsame := s.resetDrained_channel_ne hvw
      have htrunk : (s.resetDrained v).trunk w = s.trunk w := congrArg Prod.fst hsame
      rw [State.drained, htrunk] at hin hout
      rw [List.mem_cons, or_iff_right (Ne.symm hvw), List.foldl_cons, ← hsame]
      exact ⟨hin, hout⟩

/-- A trunk takes its reset values if it drains and has nothing to send, and stays if not (R123, R163). -/
theorem State.resetIdleTrunks_channel (s : State) (w : TrunkNo) :
    (s.drained w → s.resetIdleTrunks.channel w = (s.trunk w).resetChannel w) ∧
      (¬ s.drained w → s.resetIdleTrunks.channel w = s.channel w) := by
  obtain ⟨hin, hout⟩ := State.foldl_resetDrained_channel (List.finRange 8) s (List.nodup_finRange 8) w
  exact ⟨hin (List.mem_finRange w), fun h => hout (.inr h)⟩

end Drained

/-! ### The record and READY (R176, R190) -/

section Ready

/-- The READY that ends a reset of state `s` (R190). -/
def State.readyReport (s : State) (k : ResetKind) : Report :=
  .ready k (s.dir.faults.map not) s.dir.locks s.journal.nextNumber

theorem State.recordAndReady_eq (s : State) (k : ResetKind) : s.recordAndReady k =
    ((s.record (.reset k)).mapLink fun n => { n with lastReset := k, linkError := false }).makeReady (s.readyReport k) := by
  simp [State.recordAndReady, State.readyReport]

theorem State.makeReady_room {s : State} (h : s.link.reports < 16) (r : Report) : (s.makeReady r).link =
    { s.link with output := s.link.output ++ [.report r], service := .waiting } := by
  rw [State.makeReady, if_pos (show s.link.reports < Config.outputReports from h)]
  rfl

theorem State.makeReady_full {s : State} (h : 16 ≤ s.link.reports) (r : Report) : (s.makeReady r).link =
    { s.link with heldReady := some r } := by
  rw [State.makeReady, if_neg (Nat.not_lt.mpr (show Config.outputReports ≤ s.link.reports from h))]
  rfl

end Ready

/-! ### The state after a soft reset (R188) -/

/-- Two states that agree beside what ends of calls write differ in that alone. -/
theorem State.eq_of_besideEnds {s t : State} (h : t.besideEnds = s.besideEnds) : t = { s with
    link := { s.link with output := t.link.output, reportLoss := t.link.reportLoss }
    cc := { s.cc with calls := t.cc.calls, queue := t.cc.queue }
    ti := { s.ti with trunks := t.ti.trunks, noTrunk := t.ti.noTrunk }
    ap := { s.ap with players := t.ap.players }
    callEnds := t.callEnds
    journal := { s.journal with records := t.journal.records, nextSequence := t.journal.nextSequence } } := by
  have hback (v : State) : v = { v.besideEnds with
      link := { v.besideEnds.link with output := v.link.output, reportLoss := v.link.reportLoss }
      cc := { v.besideEnds.cc with calls := v.cc.calls, queue := v.cc.queue }
      ti := { v.besideEnds.ti with trunks := v.ti.trunks, noTrunk := v.ti.noTrunk }
      ap := { v.besideEnds.ap with players := v.ap.players }
      callEnds := v.callEnds
      journal := { v.besideEnds.journal with
        records := v.journal.records, nextSequence := v.journal.nextSequence } } := rfl
  conv_lhs => rw [hback t, h]
  rfl

section SoftReset

variable (s : State)

@[simp] theorem State.beginSoftReset_trunk (w : TrunkNo) : s.beginSoftReset.trunk w = (s.trunk w).beginDrain :=
  Table.get_map _ _ _

/-- The state of a soft reset once every call has ended and the queue is empty (R93, R123). -/
def State.callsEnded : State := ((s.beginSoftReset.endAll 48).setQueue []).judgeNoTrunk

/-- The state of a soft reset before its RESET record (R188). -/
def State.beforeReady : State := s.beginSoftReset.endCallsForReset.resetIdleTrunks.defaults.loadAndPlace

theorem State.setQueue_nil_emptied : s.emptied (s.setQueue []) 0 where
  beside := rfl
  output := List.prefix_rfl
  calls := rfl
  trunks w := (s.trunk w).emptied_refl
  number := by
    rw [State.setQueue_journal]
    omega
  records _ := rfl
  due := State.reportsDue_le_of rfl rfl rfl (List.nil_sublist _) fun _ => rfl

theorem State.callsEnded_emptied : s.beginSoftReset.emptied s.callsEnded s.liveCalls.length :=
  ((State.endAll_emptied 48 s.beginSoftReset (fun w => by rw [State.beginSoftReset_trunk]; rfl) s.length_liveCalls_le).trans
    (State.setQueue_nil_emptied _)).trans (State.judgeNoTrunk_emptied _)

theorem State.callsEnded_queue : s.callsEnded.cc.queue = [] := by simp [State.callsEnded]

/-- Where a soft reset stands before its RESET record, beside the trunks and their buffers (R47, R93, R123, R163, R170,
R186, R188). -/
theorem State.beforeReady_eq : ∃ trunks receive send slips, s.beforeReady = { s with
    lmu := { setA := Thresholds.factoryA, setB := Thresholds.factoryB, records := Table.fill 48 Measurement.empty }
    lines := s.dir.load.working.map placedLine
    events := []
    callEnds := []
    dir := s.dir.load
    cc := { s.cc with
      calls := s.callsEnded.cc.calls, queue := [], agingPeriod := 20, escalation := 3, minimumHold := 60 }
    ti := { trunks := trunks, noTrunk := false, offerTime := 15, guardTime := 300 }
    ap := { s.ap with
      players := Table.fill 48 .inactive, receive := receive, send := send, slips := slips
      holdChain := 1, warningChain := 2 }
    journal := { s.callsEnded.journal with threshold := 192 }
    link := { s.link.starting with
      output := s.callsEnded.link.output, reportLoss := s.callsEnded.link.reportLoss } } := by
  have hended : s.callsEnded = _ := State.eq_of_besideEnds s.callsEnded_emptied.beside
  have hqueue := s.callsEnded_queue
  obtain ⟨trunks, receive, send, slips, hidle⟩ : ∃ trunks receive send slips,
      s.beginSoftReset.endCallsForReset.resetIdleTrunks = { s.callsEnded with
        events := []
        callEnds := []
        ti := { s.callsEnded.ti with trunks := trunks }
        ap := { s.callsEnded.ap with
          players := Table.fill 48 .inactive, receive := receive, send := send, slips := slips } } :=
    ⟨_, _, _, _, State.foldl_resetDrained_frame (List.finRange 8) s.beginSoftReset.endCallsForReset⟩
  refine ⟨trunks, receive, send, slips, ?_⟩
  rw [State.beforeReady, hidle]
  generalize s.callsEnded = w at hended hqueue ⊢
  rw [hended, hqueue]
  rfl

end SoftReset

end Sys2Proof.Machine
end

section
/-! RESET (R188): the state it leaves, and its refusal. -/

namespace Sys2Proof.Machine

open Sys2Proof

/-- Ends of calls write nothing of the AP but its player channels (R90, R153). -/
theorem State.emptied.ap {s t : State} {k : Nat} (h : s.emptied t k) :
    t.ap = { s.ap with players := t.ap.players } := congrArg State.ap (State.eq_of_besideEnds h.beside)

section SoftReset

variable (s : State)

theorem State.endCallsForReset_channel (w : TrunkNo) : s.beginSoftReset.endCallsForReset.channel w =
    s.callsEnded.channel w := rfl

theorem State.defaults_loadAndPlace_channel (w : TrunkNo) : s.defaults.loadAndPlace.channel w = s.channel w := rfl

/-- A trunk that has something to send stays as the ends of the calls left it, and any other takes its reset values (R123,
R163). -/
theorem State.beforeReady_channel (w : TrunkNo) :
    ((s.callsEnded.trunk w).transmit = [] → s.beforeReady.channel w = (s.trunk w).resetChannel w) ∧
      ((s.callsEnded.trunk w).transmit ≠ [] → s.beforeReady.channel w =
        (s.callsEnded.trunk w, s.ap.receive.get w, s.ap.send.get w, s.ap.slips.get w)) := by
  have hended := s.callsEnded_emptied
  have hdrain : (s.callsEnded.trunk w).draining = true :=
    hended.draining (fun v => by rw [State.beginSoftReset_trunk]; rfl) w
  have hlast : (s.callsEnded.trunk w).lastFrame = (s.trunk w).lastFrame := by
    rw [(hended.trunks w).1, State.beginSoftReset_trunk]
    rfl
  have hap : s.callsEnded.ap = { s.ap with players := s.callsEnded.ap.players } := hended.ap
  obtain ⟨hin, hout⟩ := s.beginSoftReset.endCallsForReset.resetIdleTrunks_channel w
  have hv := s.endCallsForReset_channel w
  have htrunk : s.beginSoftReset.endCallsForReset.trunk w = s.callsEnded.trunk w := congrArg Prod.fst hv
  rw [State.drained, htrunk] at hin hout
  rw [State.beforeReady, State.defaults_loadAndPlace_channel]
  refine ⟨fun he => ?_, fun he => ?_⟩
  · rw [hin ⟨hdrain, he⟩, Trunk.resetChannel, hlast, Trunk.resetChannel]
  · rw [hout fun h => he h.2, hv, State.channel, hap]

end SoftReset

/-- RESET with no store operation in flight (R188). -/
theorem exec_reset {s : State} (h : s.ready 0x3F []) (ho : s.dir.operation = none) :
    exec (.reset []) s = .next ((s.mapLink Link.serving).beforeReady.recordAndReady .soft) := by
  have ho' : (s.mapLink Link.serving).dir.operation = none := ho
  change execReset [] s = _
  rw [execReset, State.running_of _ _ h.1, State.serveOnce_ready h rfl, if_pos ho']
  rfl

/-- RESET with a store operation in flight (R188). -/
theorem exec_reset_busy {s : State} (h : s.ready 0x3F []) (ho : s.dir.operation ≠ none) :
    exec (.reset []) s = .next (s.answered ⟨0x3F, .busy, none, .nothing⟩) := by
  have ho' : ¬ (s.mapLink Link.serving).dir.operation = none := ho
  change execReset [] s = _
  rw [execReset, State.running_of _ _ h.1, State.serveOnce_ready h rfl, if_neg ho', State.answer_serving]

/-! ### The record and READY after it -/

section Ready

variable {s : State}

theorem State.report_frame (s : State) (r : Report) : s.report r = { s with link := (s.report r).link } := by
  unfold State.report
  split <;> rfl

theorem State.makeReady_frame (s : State) (r : Report) : s.makeReady r = { s with link := (s.makeReady r).link } := by
  unfold State.makeReady
  split <;> rfl

/-- A record writes the journal and, with its JOURNAL LEVEL, the NCL (R175). -/
theorem State.record_frame (s : State) (k : RecordKind) :
    s.record k = { s with journal := (s.record k).journal, link := (s.record k).link } := by
  unfold State.record
  split
  · rfl
  · dsimp only
    split
    · rw [State.report_frame]
    · rfl

theorem State.recordAndReady_frame (s : State) (k : ResetKind) : s.recordAndReady k =
    { s with journal := (s.record (.reset k)).journal, link := (s.recordAndReady k).link } := by
  have hy := s.record_frame (.reset k)
  rw [State.recordAndReady_eq]
  generalize s.record (.reset k) = y at hy ⊢
  refine (State.makeReady_frame _ _).trans ?_
  rw [hy]
  rfl

theorem State.recordAndReady_journal (s : State) (k : ResetKind) :
    (s.recordAndReady k).journal = (s.record (.reset k)).journal := by
  rw [State.recordAndReady_eq, State.makeReady_journal]
  rfl

theorem State.recordAndReady_trunk (s : State) (k : ResetKind) (v : TrunkNo) : (s.recordAndReady k).trunk v = s.trunk v := by
  rw [State.recordAndReady_frame]
  rfl

theorem State.record_link (s : State) (k : RecordKind) : (s.record k).link =
    { s.link with output := (s.record k).link.output, reportLoss := (s.record k).link.reportLoss } :=
  congrArg State.link (State.eq_of_besideEnds (s.record_besideEnds k))

/-- The NCL after the RESET record and READY: READY is the newest item and the NCL WAITING, or READY is held (R190). -/
theorem State.recordAndReady_link (s : State) (k : ResetKind) :
    ((s.record (.reset k)).link.reports < 16 ∧ (s.recordAndReady k).link =
      { s.link with
        lastReset := k, linkError := false, service := .waiting, reportLoss := (s.record (.reset k)).link.reportLoss
        output := (s.record (.reset k)).link.output ++ [.report (s.readyReport k)] }) ∨
    (16 ≤ (s.record (.reset k)).link.reports ∧ (s.recordAndReady k).link =
      { s.link with
        lastReset := k, linkError := false, heldReady := some (s.readyReport k)
        output := (s.record (.reset k)).link.output, reportLoss := (s.record (.reset k)).link.reportLoss }) := by
  have hrec := s.record_link (.reset k)
  rw [State.recordAndReady_eq]
  generalize s.record (.reset k) = y at hrec ⊢
  set r := y.mapLink fun n => { n with lastReset := k, linkError := false } with hr
  have hlink : r.link = { s.link with
    output := y.link.output, reportLoss := y.link.reportLoss, lastReset := k, linkError := false } := by
    rw [hr, State.mapLink]
    dsimp only
    rw [hrec]
  rcases Nat.lt_or_ge y.link.reports 16 with h | h
  · exact .inl ⟨h, by rw [State.makeReady_room (s := r) h, hlink]⟩
  · exact .inr ⟨h, by rw [State.makeReady_full (s := r) h, hlink]⟩

theorem State.record_threshold (s : State) (k : RecordKind) : (s.record k).journal.threshold = s.journal.threshold :=
  show (s.record k).besideEnds.journal.threshold = s.besideEnds.journal.threshold by rw [State.record_besideEnds]

/-- A record makes one report at most (R175). -/
theorem State.record_reports_le (s : State) (k : RecordKind) : (s.record k).link.reports ≤ s.link.reports + 1 := by
  unfold State.record
  split
  · exact Nat.le_succ _
  · dsimp only
    split
    · exact State.report_reports_le _ _
    · exact Nat.le_succ _

theorem Journal.getLast?_append (rs : List Record) (r : Record) : (Journal.append rs r).getLast? = some r := by
  unfold Journal.append
  split <;> exact List.getLast?_concat

/-- The load takes what the store areas say (R65). -/
theorem Directory.load_faults (d : Directory) : d.load.faults.map not = d.load.areas.map StoreArea.checks := by
  ext i
  simp [Directory.load]

end Ready

section Clauses

variable {s : State}

/-- The load and the defaults touch no record and no report (R93, R188). -/
theorem State.beforeReady_kept (s : State) : s.beforeReady.journal.threshold = 192 ∧
    s.beforeReady.journal.records = s.callsEnded.journal.records ∧ s.beforeReady.stamp = s.stamp ∧
    s.beforeReady.link = { s.link.starting with
      output := s.callsEnded.link.output, reportLoss := s.callsEnded.link.reportLoss } := by
  obtain ⟨_, _, _, _, hx⟩ := s.beforeReady_eq
  rw [hx]
  exact ⟨rfl, rfl, rfl, rfl⟩

/-- The number of the RESET record of a soft reset (R171, R176). -/
theorem State.beforeReady_nextSequence (s : State) : s.beforeReady.journal.nextSequence =
    max s.journal.nextSequence (min (s.journal.nextSequence + s.liveCalls.length) 4294967296) := by
  obtain ⟨_, _, _, _, hx⟩ := s.beforeReady_eq
  rw [hx]
  exact s.callsEnded_emptied.number

theorem Journal.nextNumber_eq (j : Journal) : j.nextNumber = if j.nextSequence ≤ 4294967295 then j.nextSequence else 0 := by
  unfold Journal.nextNumber
  cases h : j.exhausted with
  | true => rw [if_pos rfl, if_neg (by have := (Journal.exhausted_iff j).mp h; omega)]
  | false =>
    have : ¬ 4294967296 ≤ j.nextSequence := fun e => by simp [(Journal.exhausted_iff j).mpr e] at h
    rw [if_neg (by simp), if_pos (by omega)]

theorem State.beforeReady_nextNumber (s : State) : s.beforeReady.journal.nextNumber =
    if s.journal.nextSequence + s.liveCalls.length ≤ 4294967295 then s.journal.nextSequence + s.liveCalls.length
    else 0 := by
  rw [Journal.nextNumber_eq, State.beforeReady_nextSequence]
  split <;> split <;> omega

/-- The reports that the ends of a soft reset can make beside the CALL EVENTs: three at most (R121, R175). -/
theorem State.beginSoftReset_reportsDue (s : State) : s.beginSoftReset.reportsDue ≤ s.link.reports + 3 := by
  have hbegin : s.beginSoftReset.link.reports = s.link.reports := by
    change ((s.link.output ++ [OutputItem.reply _]).filter OutputItem.isReport).length = _
    rw [List.filter_append, List.length_append]
    rfl
  rw [State.reportsDue, hbegin]
  split <;> split <;> split <;> omega

/-- The reports of a soft reset, before its RESET record: the CALL EVENTs, and three at most beside them (R121, R175). -/
theorem State.callsEnded_reports (s : State) : s.callsEnded.link.reports ≤ s.link.reports + s.liveCalls.length + 3 := by
  have h := s.callsEnded_emptied.due
  have hle := s.callsEnded.reports_le_reportsDue
  have hdue := s.beginSoftReset_reportsDue
  omega

/-- A trunk that has something to send is as the ends of the calls left it, and any other drains no longer (R123). -/
theorem State.beforeReady_trunk_sent (s : State) (w : TrunkNo) :
    ((s.callsEnded.trunk w).transmit = [] → (s.beforeReady.trunk w).draining = false) ∧
      ((s.callsEnded.trunk w).transmit ≠ [] → s.beforeReady.trunk w = s.callsEnded.trunk w) := by
  obtain ⟨hin, hout⟩ := s.beforeReady_channel w
  simp only [State.channel, Trunk.resetChannel, Prod.mk.injEq] at hin hout
  exact ⟨fun he => by rw [(hin he).1]; rfl, fun he => (hout he).1⟩

/-- The list of trunk `u` and what stands beside it after a soft reset (R123, R163). -/
theorem State.beforeReady_trunk (s : State) (u : TrunkNo) :
    (s.beforeReady.trunk u).receiver = .between ∧ (s.beforeReady.trunk u).requests = [] ∧
      ((s.beforeReady.trunk u).draining = true ↔ (s.beforeReady.trunk u).transmit ≠ []) ∧
      ((s.beforeReady.trunk u).draining = true →
        (∃ new, (s.beforeReady.trunk u).transmit = (s.trunk u).transmit ++ new) ∧
        s.beforeReady.ap.receive.get u = s.ap.receive.get u ∧ s.beforeReady.ap.send.get u = s.ap.send.get u ∧
        s.beforeReady.ap.slips.get u = s.ap.slips.get u) ∧
      ((s.beforeReady.trunk u).draining = false →
        s.beforeReady.trunk u =
          { Trunk.initial (if u.val < 6 then .primary else .overflow) with lastFrame := (s.trunk u).lastFrame } ∧
        s.beforeReady.ap.receive.get u = Buffer.empty ∧ s.beforeReady.ap.send.get u = Buffer.empty ∧
        s.beforeReady.ap.slips.get u = 0) := by
  obtain ⟨hin, hout⟩ := s.beforeReady_channel u
  obtain ⟨hrec, new, hnew⟩ := s.callsEnded_emptied.trunks u
  rw [State.beginSoftReset_trunk] at hrec hnew
  by_cases he : (s.callsEnded.trunk u).transmit = []
  · have hch := hin he
    simp only [State.channel, Trunk.resetChannel, Prod.mk.injEq] at hch
    obtain ⟨htrunk, hreceive, hsend, hslips⟩ := hch
    rw [htrunk, hreceive, hsend, hslips]
    exact ⟨rfl, rfl, ⟨nofun, fun h => absurd rfl h⟩, nofun, fun _ => ⟨rfl, rfl, rfl, rfl⟩⟩
  · have hch := hout he
    simp only [State.channel, Prod.mk.injEq] at hch
    obtain ⟨htrunk, hreceive, hsend, hslips⟩ := hch
    have hdrain : (s.callsEnded.trunk u).draining = true := by rw [hrec]; rfl
    rw [htrunk, hreceive, hsend, hslips, hdrain]
    exact ⟨by rw [hrec]; rfl, by rw [hrec]; rfl, ⟨fun _ => he, fun _ => rfl⟩,
      fun _ => ⟨⟨new, hnew.symm⟩, rfl, rfl, rfl⟩, nofun⟩

end Clauses

end Sys2Proof.Machine
end

section
/-! Between two ends of a soft reset, with every call in its place (R90, R93, R123): which calls are left, and what the ends so
far have made of the queue and the trunks. -/

namespace Sys2Proof.Machine

open Sys2Proof

/-! ### The first of a sorted list -/

/-- The head of a list sorted by a relation that is total and transitive on its members comes before each of them. -/
theorem rel_head?_insertionSort {α : Type} {r : α → α → Prop} [DecidableRel r] {l : List α}
    (htotal : ∀ a ∈ l, ∀ b ∈ l, r a b ∨ r b a)
    (htrans : ∀ a ∈ l, ∀ b ∈ l, ∀ c ∈ l, r a b → r b c → r a c) {m : α} (hm : (l.insertionSort r).head? = some m) :
    m ∈ l ∧ ∀ x ∈ l, r m x := by
  induction l generalizing m with
  | nil => cases hm
  | cons a l ih =>
    have ih {m : α} := ih (m := m) (fun a ha b hb => htotal a (List.mem_cons_of_mem _ ha) b (List.mem_cons_of_mem _ hb))
      fun a ha b hb c hc => htrans a (List.mem_cons_of_mem _ ha) b (List.mem_cons_of_mem _ hb) c (List.mem_cons_of_mem _ hc)
    have ha : a ∈ a :: l := List.mem_cons_self
    rw [List.insertionSort_cons] at hm
    cases hs : l.insertionSort r with
    | nil =>
      obtain rfl : l = [] := (hs ▸ List.perm_insertionSort r l).nil_eq.symm
      obtain rfl : a = m := Option.some.inj hm
      exact ⟨ha, List.forall_mem_singleton.mpr (or_self_iff.mp (htotal _ ha _ ha))⟩
    | cons b bs =>
      obtain ⟨hb, hmin⟩ := ih (m := b) (by rw [hs]; rfl)
      have hb' := List.mem_cons_of_mem a hb
      rw [hs, List.orderedInsert] at hm
      split at hm
      next hab =>
        obtain rfl : a = m := Option.some.inj hm
        refine ⟨ha, List.forall_mem_cons.mpr ⟨or_self_iff.mp (htotal _ ha _ ha), fun x hx => ?_⟩⟩
        exact htrans _ ha _ hb' _ (List.mem_cons_of_mem _ hx) hab (hmin x hx)
      next hab =>
        obtain rfl : b = m := Option.some.inj hm
        exact ⟨hb', List.forall_mem_cons.mpr ⟨(htotal _ ha _ hb').resolve_left hab, hmin⟩⟩

/-- The first of a list in strictly ascending order that has a property is the least that has it. -/
theorem find?_eq_of_least {α : Type} {f : α → Nat} {P : α → Bool} {l : List α} (hl : l.Pairwise fun a b => f a < f b)
    {m : α} (hm : m ∈ l) (hp : P m = true) (hmin : ∀ x ∈ l, P x = true → f m ≤ f x) : l.find? P = some m := by
  induction l with
  | nil => cases hm
  | cons a l ih =>
    obtain ⟨ha, hl⟩ := List.pairwise_cons.mp hl
    rcases List.mem_cons.mp hm with rfl | hin
    · exact List.find?_cons_of_pos hp
    · have hnot : ¬ P a = true := fun h => Nat.lt_irrefl _ ((ha m hin).trans_le (hmin a List.mem_cons_self h))
      rw [List.find?_cons_of_neg hnot]
      exact ih hl hin fun x hx => hmin x (List.mem_cons_of_mem a hx)

/-! ### A trunk that some of its calls have left (R90, R115) -/

/-- Trunk record `x` once the calls outside `refs` have left it: off the hold stack, and the trunk in GUARD for `time` if its
current call is one of them. -/
def Trunk.leaving (x : Trunk) (refs : List CallRef) (time : Nat) : Trunk :=
  if x.current.any (· ∉ refs) then ({ x with stack := x.stack.filter (· ∈ refs) } : Trunk).guarding time
  else { x with stack := x.stack.filter (· ∈ refs) }

section Leaving

variable {x : Trunk} {refs : List CallRef} {time : Nat} {r : CallRef} {c : Call}

/-- Messages for the desk are made alike before and after calls leave (R106). -/
theorem Trunk.leaving_delivered (x : Trunk) (refs : List CallRef) (time : Nat) (ms : List DeskMessage) :
    (x.leaving refs time).delivered ms = (x.delivered ms).leaving refs time := by
  have hcurrent : (x.delivered ms).current = x.current := by rw [Trunk.delivered_frame]
  have hframe := x.delivered_frame ms
  unfold Trunk.leaving
  rw [hcurrent]
  split
  · rw [Trunk.delivered_eq, Trunk.delivered_eq]
    by_cases hl : x.link = .up <;> simp [hl, Trunk.guarding]
  · rw [Trunk.delivered_eq, Trunk.delivered_eq]
    by_cases hl : x.link = .up <;> simp [hl]

/-- A trunk all of whose calls are left is as it was. -/
theorem Trunk.leaving_of_all (hc : ∀ r, x.current = some r → r ∈ refs) (hs : ∀ r ∈ x.stack, r ∈ refs) :
    x.leaving refs time = x := by
  have hstack : x.stack.filter (· ∈ refs) = x.stack := List.filter_eq_self.mpr fun r hr => by simpa using hs r hr
  have hnone : ¬ x.current.any (· ∉ refs) = true := by
    cases h : x.current with
    | none => simp
    | some r => simpa using hc r h
  rw [Trunk.leaving, if_neg hnone, hstack]

/-- The end of a call of another trunk leaves this one as it is. -/
theorem Trunk.leaving_of_other (hc : x.current ≠ some r) (hs : r ∉ x.stack) :
    x.leaving (r :: refs) time = x.leaving refs time := by
  have hstack : x.stack.filter (· ∈ r :: refs) = x.stack.filter (· ∈ refs) :=
    List.filter_congr fun a ha => by
      have : a ≠ r := fun h => hs (h ▸ ha)
      simp [this]
  have hany : x.current.any (· ∉ r :: refs) = x.current.any (· ∉ refs) := by
    cases h : x.current with
    | none => rfl
    | some a =>
      have : a ≠ r := fun e => hc (e ▸ h)
      simp [this]
  rw [Trunk.leaving, hstack, hany, Trunk.leaving]

/-- A HELD call leaves the stack (R90). -/
theorem Trunk.leaving_lets_held (hh : c.state = .held) (hr : c.ref ∉ refs) (hn : x.stack.Nodup)
    (hc : x.current ≠ some c.ref) : (x.leaving (c.ref :: refs) time).lets c time = x.leaving refs time := by
  have hstack : (x.stack.filter (· ∈ c.ref :: refs)).erase c.ref = x.stack.filter (· ∈ refs) := by
    rw [(hn.filter _).erase_eq_filter, List.filter_filter]
    refine List.filter_congr fun a _ => ?_
    by_cases ha : a = c.ref
    · subst ha
      simp [hr]
    · simp [ha]
  have hany : x.current.any (· ∉ c.ref :: refs) = x.current.any (· ∉ refs) := by
    cases h : x.current with
    | none => rfl
    | some a =>
      have : a ≠ c.ref := fun e => hc (e ▸ h)
      simp [this]
  rw [Trunk.leaving, hany, Trunk.leaving, Trunk.lets, if_pos hh]
  split
  · exact congrArg (fun l => ({ x with stack := l } : Trunk).guarding time) hstack
  · exact congrArg (fun l => ({ x with stack := l } : Trunk)) hstack

/-- A current call leaves its trunk in GUARD (R90, R115). -/
theorem Trunk.leaving_lets_current (hh : c.state ≠ .held) (hr : c.ref ∉ refs) (hs : c.ref ∉ x.stack)
    (hc : x.current = some c.ref) : (x.leaving (c.ref :: refs) time).lets c time = x.leaving refs time := by
  have hstack : x.stack.filter (· ∈ c.ref :: refs) = x.stack.filter (· ∈ refs) :=
    List.filter_congr fun a ha => by
      have : a ≠ c.ref := fun h => hs (h ▸ ha)
      simp [this]
  have hstay : ¬ x.current.any (· ∉ c.ref :: refs) = true := by simp [hc]
  have hgo : x.current.any (· ∉ refs) = true := by simp [hc, hr]
  rw [Trunk.leaving, if_neg hstay, Trunk.leaving, if_pos hgo, Trunk.lets, if_neg hh, hstack]
  exact if_pos hc

/-- A trunk is CONNECTED to a call that has not left it (R97). -/
theorem Trunk.leaving_connected : (x.leaving refs time).state = .connected ∧ (x.leaving refs time).current = some r ↔
    x.state = .connected ∧ x.current = some r ∧ r ∈ refs := by
  unfold Trunk.leaving
  split
  next h =>
    refine ⟨nofun, fun ⟨_, hc, hr⟩ => ?_⟩
    simp [hc, hr] at h
  next h =>
    refine ⟨fun ⟨hs, hc⟩ => ⟨hs, hc, ?_⟩, fun ⟨hs, hc, _⟩ => ⟨hs, hc⟩⟩
    rw [hc] at h
    simpa using h

/-- Once every call has left, the stack is empty and a trunk that had a current call is in GUARD (R90, R115). -/
theorem Trunk.leaving_nil (x : Trunk) (time : Nat) (ho : x.current = none → x.offerTimer = none) :
    x.leaving [] time = { x with
      stack := []
      state := if x.current = none then x.state else .guard_
      guardTimer := if x.current = none then x.guardTimer else some time
      idleSince := if x.current = none then x.idleSince else none
      current := none
      offerTimer := none } := by
  unfold Trunk.leaving
  cases h : x.current with
  | none => simp [ho h]
  | some r => simp [Trunk.guarding]

@[simp] theorem Trunk.leaving_group : (x.leaving refs time).group = x.group := by
  unfold Trunk.leaving
  split <;> rfl

@[simp] theorem Trunk.leaving_draining : (x.leaving refs time).draining = x.draining := by
  unfold Trunk.leaving
  split <;> rfl

end Leaving

/-! ### The calls left (R93, R141) -/

/-- A live call of the state before the reset as it stands with `w` warned last: PREEMPTING if it is that one (R141). -/
def Call.warned (c : Call) (w : Option CallRef) : Call := if w = some c.ref then c.preempted else c

section Warned

variable (c : Call) (w : Option CallRef)

/-- A warned call differs from what its end says of it in the connected mark and the preemption timer alone. -/
theorem Call.warned_eq : c.warned w = { c.asWarned w with
    connectedMark := (c.warned w).connectedMark, preemptionTimer := (c.warned w).preemptionTimer } := by
  unfold Call.warned Call.asWarned
  split <;> rfl

theorem Call.asWarned_eq : c.asWarned w = { c with state := (c.asWarned w).state } := by
  unfold Call.asWarned
  split <;> rfl

@[simp] theorem Call.warned_ref : (c.warned w).ref = c.ref := by rw [warned_eq, asWarned_eq]
@[simp] theorem Call.warned_line : (c.warned w).line = c.line := by rw [warned_eq, asWarned_eq]
@[simp] theorem Call.warned_trunk : (c.warned w).trunk = c.trunk := by rw [warned_eq, asWarned_eq]
@[simp] theorem Call.warned_sequence : (c.warned w).sequence = c.sequence := by rw [warned_eq, asWarned_eq]
@[simp] theorem Call.asWarned_ref : (c.asWarned w).ref = c.ref := by rw [asWarned_eq]
@[simp] theorem Call.asWarned_line : (c.asWarned w).line = c.line := by rw [asWarned_eq]
@[simp] theorem Call.warned_identity : (c.warned w).identity = c.identity := by rw [warned_eq, asWarned_eq]
@[simp] theorem Call.asWarned_identity : (c.asWarned w).identity = c.identity := by rw [asWarned_eq]
@[simp] theorem Call.asWarned_trunk : (c.asWarned w).trunk = c.trunk := by rw [asWarned_eq]
theorem Call.warned_state : (c.warned w).state = (c.asWarned w).state := by rw [warned_eq]

theorem Call.endMessage_warned (k : Cause) : (c.warned w).endMessage k = (c.asWarned w).endMessage k := by
  rw [warned_eq]
  rfl

variable {c w}

theorem Call.warned_of_ne (h : w ≠ some c.ref) : c.warned w = c := if_neg h

theorem Call.asWarned_of_ne (h : w ≠ some c.ref) : c.asWarned w = c := if_neg h

end Warned

/-! ### The state between two ends -/

/-- `u` stands between two ends of the soft reset of `s`: the calls of `rest` are left, `w` warned last, and `sent` are the
messages made so far for each trunk. -/
structure State.midReset (s u : State) (w : Option CallRef) (sent : TrunkNo → List DeskMessage) (rest : List Call) :
    Prop where
  control : u.cc = { s.cc with calls := u.cc.calls, queue := u.cc.queue }
  guardTime : u.ti.guardTime = s.ti.guardTime
  time : u.time = s.time
  calls : ∀ p, u.cc.calls.get p = ((s.cc.calls.get p).filter (· ∈ rest)).map (Call.warned · w)
  nodup : u.cc.queue.Nodup
  queue : ∀ r, r ∈ u.cc.queue ↔ ∃ c ∈ rest, c.ref = r ∧ c.state = .waiting
  trunks : ∀ v, u.trunk v = ((s.trunk v).beginDrain.delivered (sent v)).leaving (rest.map Call.ref) s.ti.guardTime
  connected : ∀ c ∈ rest, w = some c.ref → c.state = .connected

/-- `rest` are live calls of `s` by strictly ascending origination sequence. -/
def State.inOrder (s : State) (rest : List Call) : Prop :=
  (∀ c ∈ rest, ∃ p, s.cc.calls.get p = some c) ∧
    rest.Pairwise fun a b => a.sequence.toNat < b.sequence.toNat

section MidReset

variable {s u : State} {w : Option CallRef} {sent : TrunkNo → List DeskMessage} {rest : List Call} {c d : Call}
  {p q : LineNo} {v : TrunkNo}

/-- Live calls with one reference are one call (R72). -/
theorem State.callsSound.eq (h : s.callsSound) (hc : s.cc.calls.get p = some c) (hd : s.cc.calls.get q = some d)
    (hr : c.ref = d.ref) : c = d ∧ p = q := by
  obtain ⟨-, -, huniq⟩ := h
  obtain rfl := huniq p q c d hc hd (.inl hr)
  exact ⟨Option.some.inj (hc.symm.trans hd), rfl⟩

theorem State.inOrder.ref_notMem (h : s.inOrder (c :: rest)) (hs : s.callsSound) : c.ref ∉ rest.map Call.ref := by
  rw [List.mem_map]
  rintro ⟨d, hd, hr⟩
  obtain ⟨hlive, hsorted⟩ := h
  obtain ⟨p, hp⟩ := hlive c List.mem_cons_self
  obtain ⟨q, hq⟩ := hlive d (List.mem_cons_of_mem c hd)
  obtain ⟨rfl, -⟩ := hs.eq hp hq hr.symm
  exact Nat.lt_irrefl _ (List.rel_of_pairwise_cons hsorted hd)

theorem State.inOrder.tail (h : s.inOrder (c :: rest)) : s.inOrder rest :=
  ⟨fun d hd => h.1 d (List.mem_cons_of_mem c hd), h.2.of_cons⟩

/-- The current call of a trunk is a call of its own, and so are those on its stack (R97, R124). -/
theorem State.callsPlaced.onTrunk (h : s.callsPlaced) (hc : s.cc.calls.get p = some c) :
    ((s.trunk v).current = some c.ref → c.trunk = some v ∧ c.state ≠ .held) ∧
      (c.ref ∈ (s.trunk v).stack → c.trunk = some v ∧ c.state = .held) := by
  obtain ⟨hsound, -, -, htrunks⟩ := h
  obtain ⟨-, -, -, -, -, -, hcur, hstack, -⟩ := htrunks v
  refine ⟨fun hr => ?_, fun hr => ?_⟩
  · obtain ⟨q, d, hd, href, hon⟩ := hcur _ hr
    obtain ⟨rfl, -⟩ := hsound.eq hc hd href.symm
    exact hon
  · obtain ⟨q, d, hd, href, hon⟩ := hstack _ hr
    obtain ⟨rfl, -⟩ := hsound.eq hc hd href.symm
    exact hon

/-- A call that has a trunk is its current call or on its stack (R97, R124). -/
theorem State.callsPlaced.held_or_current (h : s.callsPlaced) (hc : s.cc.calls.get p = some c) (hv : c.trunk = some v) :
    c.state = .held ∧ c.ref ∈ (s.trunk v).stack ∨ c.state ≠ .held ∧ (s.trunk v).current = some c.ref := by
  obtain ⟨-, -, hplaced, -⟩ := h
  have hp := hplaced p c hc
  unfold State.callPlaced at hp
  cases hs : c.state <;> rw [hs] at hp <;> dsimp only at hp
  case originating | waiting => rw [hv] at hp; cases hp
  case held =>
    obtain ⟨u, hu, hin⟩ := hp
    obtain rfl : v = u := Option.some.inj (hv.symm.trans hu)
    exact .inl ⟨rfl, hin⟩
  all_goals
    obtain ⟨u, hu, -, hin⟩ := hp
    obtain rfl : v = u := Option.some.inj (hv.symm.trans hu)
    exact .inr ⟨by nofun, hin⟩

/-- What ends of calls leave of the CC, of the guard time and of the time base (R90). -/
theorem State.emptied.kept {t : State} {k : Nat} (h : s.emptied t k) :
    t.cc = { s.cc with calls := t.cc.calls, queue := t.cc.queue } ∧ t.ti.guardTime = s.ti.guardTime ∧ t.time = s.time := by
  have ht := State.eq_of_besideEnds h.beside
  exact ⟨congrArg State.cc ht, by rw [ht], by rw [ht]⟩

/-- The messages of the end of call `c` for trunk `v` (R91). -/
def Call.ownMessages (c : Call) (v : TrunkNo) : List DeskMessage :=
  if c.trunk = some v then (c.endMessage .reset).toList else []

/-- A call that may be warned is CONNECTED, so a warning makes none of the states in which a call waits or is held. -/
theorem Call.warned_state_iff (h : w = some c.ref → c.state = .connected) {st : CallState} (h1 : st ≠ .connected)
    (h2 : st ≠ .preempting) : (c.warned w).state = st ↔ c.state = st := by
  unfold Call.warned
  split
  next hw => exact ⟨fun e => absurd e.symm h2, fun e => absurd ((h hw).symm.trans e).symm h1⟩
  · exact Iff.rfl

namespace State.midReset

/-- Between two ends the CC, the guard time and the time base are those before them (R90). -/
theorem kept {t : State} {k : Nat} (h : s.midReset u w sent rest) (ht : u.emptied t k) :
    t.cc = { s.cc with calls := t.cc.calls, queue := t.cc.queue } ∧ t.ti.guardTime = s.ti.guardTime ∧
      t.time = s.time := by
  obtain ⟨h1, h2, h3⟩ := ht.kept
  refine ⟨?_, h2.trans h.guardTime, h3.trans h.time⟩
  rw [h.control] at h1
  exact h1

theorem draining (h : s.midReset u w sent rest) (v : TrunkNo) : (u.trunk v).draining = true := by
  rw [h.trunks v, Trunk.leaving_draining, Trunk.delivered_frame]
  rfl

/-- The call of a place that is left. -/
theorem call (h : s.midReset u w sent rest) (hc : s.cc.calls.get p = some c) (hin : c ∈ rest) :
    u.cc.calls.get p = some (c.warned w) := by
  rw [h.calls, hc, Option.filter_some, if_pos (by simpa using hin)]
  rfl

theorem call_of (h : s.midReset u w sent rest) {d : Call} (hd : u.cc.calls.get p = some d) :
    ∃ c ∈ rest, s.cc.calls.get p = some c ∧ d = c.warned w := by
  rw [h.calls, Option.map_eq_some_iff] at hd
  obtain ⟨c, hc, rfl⟩ := hd
  obtain ⟨hc, hin⟩ := Option.filter_eq_some_iff.mp hc
  exact ⟨c, by simpa using hin, hc, rfl⟩

theorem sound (h : s.midReset u w sent rest) (hs : s.callsSound) : u.callsSound := by
  obtain ⟨hnext, hzero, huniq⟩ := hs
  refine ⟨by rw [h.control]; exact hnext, fun p d hd => ?_, fun p q a b ha hb hab => ?_⟩
  · obtain ⟨c, -, hc, rfl⟩ := h.call_of hd
    rw [Call.warned_ref]
    exact hzero p c hc
  · obtain ⟨c, -, hc, rfl⟩ := h.call_of ha
    obtain ⟨d, -, hd, rfl⟩ := h.call_of hb
    simp only [Call.warned_ref, Call.warned_line] at hab
    exact huniq p q c d hc hd hab

/-- The first call of the list is the one whose end comes next (R93). -/
theorem next (h : s.midReset u w sent (c :: rest)) (hs : s.callsSound) (ho : s.inOrder (c :: rest))
    (hc : s.cc.calls.get p = some c) :
    u.callsBySequence.head? = some (c.warned w) ∧ u.placeOfRef (c.warned w).ref = some p := by
  have hu := h.call hc List.mem_cons_self
  refine ⟨?_, State.placeOfRef_of_sound (h.sound hs) hu⟩
  have hmem : c.warned w ∈ u.liveCalls := State.mem_liveCalls.mpr ⟨p, hu⟩
  cases hh : u.callsBySequence.head? with
  | none =>
    rw [← u.callsBySequence_perm.mem_iff, List.head?_eq_none_iff.mp hh] at hmem
    cases hmem
  | some d =>
    obtain ⟨hd, hmin⟩ := rel_head?_insertionSort (r := fun c d : Call => c.sequence.toNat ≤ d.sequence.toNat)
      (fun _ _ _ _ => Nat.le_total _ _) (fun _ _ _ _ _ _ => Nat.le_trans) hh
    obtain ⟨q, hq⟩ := State.mem_liveCalls.mp hd
    obtain ⟨e, he, -, rfl⟩ := h.call_of hq
    rcases List.mem_cons.mp he with rfl | he
    · rfl
    · have hle := hmin _ hmem
      have hlt := List.rel_of_pairwise_cons ho.2 he
      simp only [Call.warned_sequence] at hle
      omega

/-- A judgement of the no-trunk condition changes nothing of it (R121). -/
theorem judgeNoTrunk (h : s.midReset u w sent rest) : s.midReset u.judgeNoTrunk w sent rest := by
  obtain ⟨hcontrol, hguard, htime⟩ := h.kept u.judgeNoTrunk_emptied
  have hcc := u.judgeNoTrunk_cc
  exact ⟨hcontrol, hguard, htime, hcc ▸ h.calls, hcc ▸ h.nodup, hcc ▸ h.queue,
    fun v => (u.judgeNoTrunk_trunk v).trans (h.trunks v), h.connected⟩

/-- A call's end, up to its place being freed (R90, R91, R115). -/
theorem endedAt (h : s.midReset u w sent (c :: rest)) (hs : s.callsPlaced) (ho : s.inOrder (c :: rest))
    (hc : s.cc.calls.get p = some c) :
    s.midReset (u.endedAt p (c.warned w)) w (fun v => sent v ++ (c.asWarned w).ownMessages v) rest := by
  have hnot := ho.ref_notMem hs.1
  have hcnot : c ∉ rest := fun hin => hnot (List.mem_map_of_mem hin)
  have hw := h.connected c List.mem_cons_self
  have hheld := Call.warned_state_iff hw (st := .held) nofun nofun
  have hwait := Call.warned_state_iff hw (st := .waiting) nofun nofun
  obtain ⟨hcontrol, hguard, htime⟩ := h.kept (State.endedAt_emptied (h.call hc List.mem_cons_self))
  have hqueue : (u.endedAt p (c.warned w)).cc.queue = if c.state = .waiting then u.cc.queue.erase c.ref else u.cc.queue := by
    rw [State.endedAt_queue, State.letGo_queue, Call.warned_ref]
    simp only [hwait]
  refine ⟨hcontrol, hguard, htime, fun q => ?calls, ?nodup, fun r => ?queue, fun v => ?trunks,
    fun d hd => h.connected d (List.mem_cons_of_mem c hd)⟩
  case calls =>
    rw [State.endedAt_calls, Table.get_set]
    split
    next hpq =>
      subst hpq
      rw [hc, Option.filter_some, if_neg (by simpa using hcnot)]
      rfl
    next hpq =>
      rw [h.calls]
      cases hd : s.cc.calls.get q with
      | none => rfl
      | some d =>
        have hne : d ≠ c := fun e => hpq (hs.1.eq hc (e ▸ hd) rfl).2
        simp [Option.filter_some, hne]
  case nodup =>
    rw [hqueue]
    split
    · exact h.nodup.erase _
    · exact h.nodup
  case queue =>
    rw [hqueue]
    split
    next hst =>
      rw [h.nodup.mem_erase_iff, h.queue]
      constructor
      · rintro ⟨hne, d, hd, hr, hdw⟩
        refine ⟨d, (List.mem_cons.mp hd).resolve_left fun e => hne (e ▸ hr.symm), hr, hdw⟩
      · rintro ⟨d, hd, rfl, hdw⟩
        exact ⟨fun e => hnot (e ▸ List.mem_map_of_mem hd), d, List.mem_cons_of_mem c hd, rfl, hdw⟩
    next hst =>
      rw [h.queue]
      constructor
      · rintro ⟨d, hd, hr, hdw⟩
        exact ⟨d, (List.mem_cons.mp hd).resolve_left fun e => hst (e ▸ hdw), hr, hdw⟩
      · rintro ⟨d, hd, hr, hdw⟩
        exact ⟨d, List.mem_cons_of_mem c hd, hr, hdw⟩
  case trunks =>
    rw [State.endedAt_trunk, State.letGo_trunk, h.trunks v, h.guardTime, Call.warned_trunk, Trunk.delivered_append,
      Call.ownMessages, Call.asWarned_trunk, List.map_cons]
    set x := (s.trunk v).beginDrain.delivered (sent v) with hx
    have hframe (ms : List DeskMessage) : (x.delivered ms).current = (s.trunk v).current ∧
        (x.delivered ms).stack = (s.trunk v).stack := by
      rw [Trunk.delivered_frame, hx, Trunk.delivered_frame]
      exact ⟨rfl, rfl⟩
    obtain ⟨hcur, hstack⟩ := hs.onTrunk (v := v) hc
    have hon := hs.held_or_current (v := v) hc
    by_cases hv : c.trunk = some v
    · rw [if_pos hv, if_pos hv, Trunk.ended, Call.endMessage_warned, Trunk.leaving_delivered]
      obtain ⟨hc', hs'⟩ := hframe ((c.asWarned w).endMessage .reset).toList
      have hlets (y : Trunk) (time : Nat) : y.lets (c.warned w) time = y.lets c time := by
        simp only [Trunk.lets, hheld, Call.warned_ref]
      rw [hlets]
      obtain ⟨-, -, -, hplaced⟩ := hs
      obtain ⟨-, -, -, -, -, -, -, -, hnodup, -⟩ := hplaced v
      rcases hon hv with ⟨hst, hin⟩ | ⟨hst, hin⟩
      · exact Trunk.leaving_lets_held hst hnot (hs' ▸ hnodup) fun e => (hcur (hc' ▸ e)).2 hst
      · exact Trunk.leaving_lets_current hst hnot (fun e => hst (hstack (hs' ▸ e)).2) (hc'.trans hin)
    · obtain ⟨hc', hs'⟩ := hframe []
      rw [if_neg hv, if_neg hv, Trunk.delivered_nil]
      refine Trunk.leaving_of_other (fun e => hv (hcur ?_).1) fun e => hv (hstack ?_).1
      · exact hc'.symm.trans e
      · exact hs' ▸ e

end State.midReset

end MidReset

end Sys2Proof.Machine
end

section
/-! The examination after an end in a soft reset, with every call in its place (R140, R141, R143): the call that `warnedAfter`
names is the one that becomes PREEMPTING. -/

namespace Sys2Proof.Machine

open Sys2Proof

/-- The call chosen among `rest` where conditions 1, 3 and 4 of R140 hold: the earliest connected mark, and of equal ones the
lowest sequence. -/
def State.chosenFor (s : State) (rest : List Call) : Option Call :=
  if rest.any Call.callsForTrunk = true ∧ ∀ d ∈ rest, d.state ≠ .preempting then
    rest.find? fun d => s.clearable d && rest.all fun e => !s.clearable e || s.connectedAge e ≤ s.connectedAge d
  else none

theorem State.warnedAfter_eq (s : State) (c : Call) (rest : List Call) : s.warnedAfter c rest =
    if c.state = .waiting ∨ c.state = .preempting then s.chosenFor rest else none := by
  unfold State.warnedAfter State.chosenFor
  by_cases h : c.state = .waiting ∨ c.state = .preempting
  · rw [if_pos h]
    simp only [h, true_and]
  · rw [if_neg h, if_neg fun e => h e.1]

/-- The call by which a trunk meets condition 3 of R140. -/
theorem State.candidate_iff {s : State} {v : TrunkNo} {p : LineNo} : s.candidate v = some p ↔
    (s.trunk v).group = .primary ∧ (s.trunk v).state = .connected ∧ ∃ r c, (s.trunk v).current = some r ∧
      s.placeOfRef r = some p ∧ s.cc.calls.get p = some c ∧ c.isKind .maintenance = true ∧ c.state = .connected ∧
      s.served c = true := by
  unfold State.candidate
  dsimp only
  constructor
  · intro h
    split at h
    next hg =>
      split at h
      next q hq =>
        obtain ⟨r, hr, hrq⟩ := Option.bind_eq_some_iff.mp hq
        obtain ⟨c, hc, -⟩ := State.placeOfRef_spec hrq
        rw [hc] at h
        split at h
        next hall =>
          obtain rfl : q = p := Option.some.inj h
          simp only [Option.any_some, Bool.and_eq_true, decide_eq_true_eq, and_assoc] at hall
          exact ⟨hg.1, hg.2, r, c, hr, hrq, hc, hall⟩
        · cases h
      · cases h
    · cases h
  · rintro ⟨hg, hs, r, c, hr, hp, hc, hm, hst, hv⟩
    rw [if_pos ⟨hg, hs⟩, hr, Option.bind_some, hp]
    simp [hc, hm, hst, hv]

theorem State.clearable_iff {s : State} {c : Call} : s.clearable c = true ↔ c.isKind .maintenance = true ∧
    c.state = .connected ∧ s.served c = true ∧ ∃ v, c.trunk = some v ∧ (s.trunk v).group = .primary := by
  cases hv : c.trunk <;> simp [State.clearable, hv, and_assoc]

namespace State.midReset

variable {s u : State} {w : Option CallRef} {sent : TrunkNo → List DeskMessage} {rest : List Call} {c d : Call}
  {p q : LineNo} {v : TrunkNo}

theorem age (h : s.midReset u w sent rest) (m : Word32) : u.age m = s.age m := by
  rw [State.age, h.control, State.age]

theorem served (h : s.midReset u w sent rest) (c : Call) : u.served c = s.served c := by
  unfold State.served
  simp only [h.age]
  rw [h.control]

/-- The trunks' groups stand, and a trunk is CONNECTED to the calls left alone (R97). -/
theorem trunk_group (h : s.midReset u w sent rest) (v : TrunkNo) : (u.trunk v).group = (s.trunk v).group := by
  rw [h.trunks v, Trunk.leaving_group, Trunk.delivered_frame]
  rfl

theorem trunk_connected (h : s.midReset u w sent rest) {r : CallRef} :
    (u.trunk v).state = .connected ∧ (u.trunk v).current = some r ↔
      (s.trunk v).state = .connected ∧ (s.trunk v).current = some r ∧ r ∈ rest.map Call.ref := by
  rw [h.trunks v, Trunk.leaving_connected, Trunk.delivered_frame]
  exact Iff.rfl

/-- While no call left is PREEMPTING, the calls left stand as before the reset (R141). -/
theorem call_of_unwarned (h : s.midReset u w sent rest) (hw : ∀ d ∈ rest, w ≠ some d.ref) :
    u.cc.calls.get p = some d ↔ d ∈ rest ∧ s.cc.calls.get p = some d := by
  constructor
  · intro hd
    obtain ⟨c, hc, hp, rfl⟩ := h.call_of hd
    rw [Call.warned_of_ne (hw c hc)]
    exact ⟨hc, hp⟩
  · rintro ⟨hd, hp⟩
    rw [h.call hp hd, Call.warned_of_ne (hw d hd)]

/-- Condition 3 of R140 between two ends: the calls left that are clearable. -/
theorem mem_candidates (h : s.midReset u w sent rest) (hs : s.callsPlaced) (hw : ∀ d ∈ rest, w ≠ some d.ref) :
    p ∈ (List.finRange 8).filterMap u.candidate ↔
      ∃ d ∈ rest, s.cc.calls.get p = some d ∧ s.clearable d = true := by
  rw [List.mem_filterMap]
  constructor
  · rintro ⟨v, -, hv⟩
    obtain ⟨hg, hst, r, d, hr, hp, hd, hm, hcon, hserved⟩ := State.candidate_iff.mp hv
    obtain ⟨hd, hpd⟩ := (h.call_of_unwarned hw).mp hd
    obtain ⟨-, hcur, -⟩ := h.trunk_connected.mp ⟨hst, hr⟩
    obtain ⟨c, hc, rfl⟩ := State.placeOfRef_spec hp
    obtain ⟨-, hpc⟩ := (h.call_of_unwarned hw).mp hc
    obtain rfl : d = c := Option.some.inj (hpd.symm.trans hpc)
    refine ⟨d, hd, hpd, State.clearable_iff.mpr ⟨hm, hcon, (h.served d) ▸ hserved, v, ?_, h.trunk_group v ▸ hg⟩⟩
    exact ((hs.onTrunk hpd).1 hcur).1
  · rintro ⟨d, hd, hpd, hclear⟩
    obtain ⟨hm, hcon, hserved, v, hv, hg⟩ := State.clearable_iff.mp hclear
    obtain ⟨hsound, -, hplaced, -⟩ := hs
    have hpl := hplaced p d hpd
    rw [State.callPlaced, hcon] at hpl
    obtain ⟨v', hv', hst, hcur⟩ := hpl
    obtain rfl : v = v' := Option.some.inj (hv.symm.trans hv')
    have hu := (h.call_of_unwarned hw).mpr ⟨hd, hpd⟩
    obtain ⟨hst, hcur⟩ := h.trunk_connected.mpr ⟨hst, hcur, List.mem_map_of_mem hd⟩
    exact ⟨v, List.mem_finRange v, State.candidate_iff.mpr ⟨(h.trunk_group v).trans hg, hst, d.ref, d, hcur,
      State.placeOfRef_of_sound (h.sound hsound) hu, hu, hm, hcon, (h.served d).trans hserved⟩⟩

/-- Condition 1 of R140 between two ends: a call left that waits for a trunk. -/
theorem queue_any (h : s.midReset u w sent rest) (hs : s.callsPlaced) (ho : s.inOrder rest)
    (hw : ∀ d ∈ rest, w ≠ some d.ref) :
    (u.cc.queue.any fun r => (u.callOfRef r).any fun c => c.isKind .emergency || c.isKind .callback) =
      rest.any Call.callsForTrunk := by
  have hfound {d : Call} (hd : d ∈ rest) : u.callOfRef d.ref = some d := by
    obtain ⟨p, hp⟩ := ho.1 d hd
    exact State.callOfRef_of_sound (h.sound hs.1) ((h.call_of_unwarned hw).mpr ⟨hd, hp⟩)
  rw [Bool.eq_iff_iff, List.any_eq_true, List.any_eq_true]
  constructor
  · rintro ⟨r, hr, hk⟩
    obtain ⟨d, hd, rfl, hst⟩ := (h.queue r).mp hr
    rw [hfound hd, Option.any_some] at hk
    exact ⟨d, hd, by simp only [Call.callsForTrunk, hst, hk, decide_true, Bool.and_self]⟩
  · rintro ⟨d, hd, hk⟩
    rw [Call.callsForTrunk, Bool.and_eq_true, decide_eq_true_eq] at hk
    exact ⟨d.ref, (h.queue d.ref).mpr ⟨d, hd, rfl, hk.1⟩, by rw [hfound hd, Option.any_some]; exact hk.2⟩

/-- Condition 4 of R140 between two ends: a call left that is PREEMPTING. -/
theorem any_preempting (h : s.midReset u w sent rest) (ho : s.inOrder rest) :
    (u.liveCalls.any fun c => c.state = .preempting) = true ↔
      ∃ d ∈ rest.map (Call.asWarned · w), d.state = .preempting := by
  rw [List.any_eq_true]
  constructor
  · rintro ⟨d, hd, hst⟩
    obtain ⟨p, hp⟩ := State.mem_liveCalls.mp hd
    obtain ⟨c, hc, -, rfl⟩ := h.call_of hp
    exact ⟨_, List.mem_map_of_mem hc, by rw [← Call.warned_state]; simpa using hst⟩
  · rintro ⟨_, hd, hst⟩
    obtain ⟨c, hc, rfl⟩ := List.mem_map.mp hd
    obtain ⟨p, hp⟩ := ho.1 c hc
    exact ⟨_, State.mem_liveCalls.mpr ⟨p, h.call hp hc⟩, by rw [Call.warned_state]; simpa using hst⟩

/-- While no call left is PREEMPTING none of them is the one warned last (R141). -/
theorem unwarned (hn : ¬ ∃ d ∈ rest.map (Call.asWarned · w), d.state = .preempting) :
    (∀ d ∈ rest, w ≠ some d.ref) ∧ rest.map (Call.asWarned · w) = rest := by
  have hw : ∀ d ∈ rest, w ≠ some d.ref := fun d hd e =>
    hn ⟨_, List.mem_map_of_mem hd, by simp [Call.asWarned, e]⟩
  exact ⟨hw, (List.map_congr_left fun d hd => Call.asWarned_of_ne (hw d hd)).trans (List.map_id' rest)⟩

/-- How the calls of two places compare for condition 3 (R140). -/
theorem chosenBefore_iff (h : s.midReset u w sent rest) (hw : ∀ d ∈ rest, w ≠ some d.ref)
    (hc : c ∈ rest ∧ s.cc.calls.get p = some c) (hd : d ∈ rest ∧ s.cc.calls.get q = some d) :
    u.chosenBefore p q = true ↔ s.connectedAge d < s.connectedAge c ∨
      s.connectedAge c = s.connectedAge d ∧ c.sequence.toNat ≤ d.sequence.toNat := by
  have hage : u.age = s.age := funext h.age
  rw [State.chosenBefore, (h.call_of_unwarned hw).mpr hc, (h.call_of_unwarned hw).mpr hd]
  simp [State.connectedAge, hage]

/-- The candidate chosen first is, of the clearable calls left, the one of the earliest connected mark and, of equal ones, of
the lowest sequence (R140). -/
theorem first_candidate (h : s.midReset u w sent rest) (hs : s.callsPlaced) (ho : s.inOrder rest)
    (hw : ∀ d ∈ rest, w ≠ some d.ref)
    (hp : (((List.finRange 8).filterMap u.candidate).insertionSort
      fun p q => u.chosenBefore p q = true).head? = some p) :
    ∃ d ∈ rest, s.cc.calls.get p = some d ∧ s.clearable d = true ∧
      rest.find? (fun d => s.clearable d && rest.all fun e => !s.clearable e || s.connectedAge e ≤ s.connectedAge d) =
        some d := by
  have hmem {q : LineNo} : q ∈ (List.finRange 8).filterMap u.candidate ↔ _ := h.mem_candidates hs hw
  have hbefore {q q' : LineNo} {c d : Call} (hc : c ∈ rest ∧ s.cc.calls.get q = some c)
      (hd : d ∈ rest ∧ s.cc.calls.get q' = some d) := h.chosenBefore_iff hw hc hd
  have htotal : ∀ a ∈ (List.finRange 8).filterMap u.candidate, ∀ b ∈ (List.finRange 8).filterMap u.candidate,
      u.chosenBefore a b = true ∨ u.chosenBefore b a = true := fun a ha b hb => by
    obtain ⟨c, hc, hpc, -⟩ := hmem.mp ha
    obtain ⟨d, hd, hpd, -⟩ := hmem.mp hb
    rw [hbefore ⟨hc, hpc⟩ ⟨hd, hpd⟩, hbefore ⟨hd, hpd⟩ ⟨hc, hpc⟩]
    omega
  have htrans : ∀ a ∈ (List.finRange 8).filterMap u.candidate, ∀ b ∈ (List.finRange 8).filterMap u.candidate,
      ∀ c ∈ (List.finRange 8).filterMap u.candidate, u.chosenBefore a b = true → u.chosenBefore b c = true →
      u.chosenBefore a c = true := fun a ha b hb q hq => by
    obtain ⟨c, hc, hpc, -⟩ := hmem.mp ha
    obtain ⟨d, hd, hpd, -⟩ := hmem.mp hb
    obtain ⟨e, he, hpe, -⟩ := hmem.mp hq
    rw [hbefore ⟨hc, hpc⟩ ⟨hd, hpd⟩, hbefore ⟨hd, hpd⟩ ⟨he, hpe⟩, hbefore ⟨hc, hpc⟩ ⟨he, hpe⟩]
    omega
  obtain ⟨hin, hmin⟩ := rel_head?_insertionSort htotal htrans hp
  obtain ⟨d, hd, hpd, hclear⟩ := hmem.mp hin
  have hleast {e : Call} (he : e ∈ rest) (hec : s.clearable e = true) : s.connectedAge e < s.connectedAge d ∨
      s.connectedAge d = s.connectedAge e ∧ d.sequence.toNat ≤ e.sequence.toNat := by
    obtain ⟨q, hq⟩ := ho.1 e he
    exact (hbefore ⟨hd, hpd⟩ ⟨he, hq⟩).mp (hmin q (hmem.mpr ⟨e, he, hq, hec⟩))
  refine ⟨d, hd, hpd, hclear, find?_eq_of_least ho.2 hd ?_ fun e he hpe => ?_⟩
  · rw [hclear, Bool.true_and, List.all_eq_true]
    intro e he
    cases hec : s.clearable e with
    | false => rfl
    | true =>
      have := hleast he hec
      simp only [Bool.not_true, Bool.false_or, decide_eq_true_eq]
      omega
  · rw [Bool.and_eq_true, List.all_eq_true] at hpe
    have hd' := hpe.2 d hd
    rw [hclear, Bool.not_true, Bool.false_or, decide_eq_true_eq] at hd'
    have := hleast he hpe.1
    omega

/-- The examination between two ends chooses the call that `chosenFor` names, which is CONNECTED (R140). -/
theorem preemptionChoice (h : s.midReset u w sent rest) (hs : s.callsPlaced) (ho : s.inOrder rest) :
    (s.chosenFor (rest.map (Call.asWarned · w)) = none ∧ u.preemptionChoice = none) ∨
      ∃ d p, s.chosenFor (rest.map (Call.asWarned · w)) = some d ∧ u.preemptionChoice = some p ∧ d ∈ rest ∧
        s.cc.calls.get p = some d ∧ d.state = .connected ∧ ∀ e ∈ rest, w ≠ some e.ref := by
  have hidle : ((List.finRange 8).any fun t => (u.trunk t).eligible && (u.trunk t).group = .primary) = false :=
    List.any_eq_false.mpr fun v _ => by simp [State.eligible_of_draining h.draining v]
  unfold State.preemptionChoice
  dsimp only
  rw [hidle]
  by_cases hpre : ∃ d ∈ rest.map (Call.asWarned · w), d.state = .preempting
  · refine .inl ⟨?_, by rw [(h.any_preempting ho).mpr hpre]; simp⟩
    obtain ⟨d, hd, hst⟩ := hpre
    exact if_neg fun hall => hall.2 d hd hst
  · obtain ⟨hw, hrest⟩ := unwarned hpre
    have hnopre : (u.liveCalls.any fun c => c.state = .preempting) = false :=
      Bool.eq_false_iff.mpr fun e => hpre ((h.any_preempting ho).mp e)
    rw [hrest, hnopre, h.queue_any hs ho hw, State.chosenFor]
    rw [hrest] at hpre
    by_cases hany : rest.any Call.callsForTrunk = true
    · rw [hany, if_pos ⟨rfl, fun d hd hst => hpre ⟨d, hd, hst⟩⟩]
      simp only [Bool.not_false, Bool.and_self, if_true]
      cases hh : (((List.finRange 8).filterMap u.candidate).insertionSort fun p q => u.chosenBefore p q = true).head? with
      | none =>
        refine .inl ⟨List.find?_eq_none.mpr fun d hd hp => ?_, rfl⟩
        rw [Bool.and_eq_true] at hp
        obtain ⟨p, hpd⟩ := ho.1 d hd
        have hin := (h.mem_candidates hs hw).mpr ⟨d, hd, hpd, hp.1⟩
        rw [← List.mem_insertionSort (r := fun p q => u.chosenBefore p q = true), List.head?_eq_none_iff.mp hh] at hin
        cases hin
      | some p =>
        obtain ⟨d, hd, hpd, hclear, hfind⟩ := h.first_candidate hs ho hw hh
        exact .inr ⟨d, p, hfind, rfl, hd, hpd, (State.clearable_iff.mp hclear).2.1, hw⟩
    · exact .inl ⟨if_neg fun hall => hany hall.1, by simp [hany]⟩

/-- The start of the preemption of a CONNECTED call on trunk `v` (R141). -/
theorem examine_eq {t : TrunkNo} (hp : u.preemptionChoice = some p) (hd : u.cc.calls.get p = some d)
    (ht : d.trunk = some t) :
    u.examine = (u.preemptCall p d).mapTrunk t fun x => x.delivered [.preemptWarn d.ref 10] := by
  rw [State.examine, hp]
  dsimp only
  rw [State.startPreemption_eq hd, ht, ← State.sendDesk_eq_mapTrunk]

/-- The examination between two ends: the call that `chosenFor` names, if it names one, is warned, and its desk told (R140,
R141). -/
theorem examine (h : s.midReset u w sent rest) (hs : s.callsPlaced) (ho : s.inOrder rest) {x : Option Call}
    (hx : x = s.chosenFor (rest.map (Call.asWarned · w))) :
    s.midReset u.examine (if x = none then w else x.map Call.ref)
      (fun v => sent v ++ (x.toList.filter fun d => d.trunk = some v).map fun d => .preemptWarn d.ref 10) rest := by
  subst hx
  rcases h.preemptionChoice hs ho with ⟨hnone, hchoice⟩ | ⟨d, p, hsome, hchoice, hd, hpd, hcon, hw⟩
  · have hsame : u.examine = u := by rw [State.examine, hchoice]
    rw [hnone, hsame]
    simpa using h
  · rw [hsome, if_neg nofun]
    have hud := (h.call_of_unwarned hw).mpr ⟨hd, hpd⟩
    obtain ⟨hsound, -, hplaced, -⟩ := hs
    have hpl := hplaced p d hpd
    rw [State.callPlaced, hcon] at hpl
    obtain ⟨t, ht, -, -⟩ := hpl
    have hexamine := examine_eq hchoice hud ht
    obtain ⟨hcontrol, hguard, htime⟩ := h.kept u.examine_emptied
    refine ⟨hcontrol, hguard, htime, fun q => ?calls, ?nodup, ?queue, fun v => ?trunks, fun e he hwe => ?connected⟩
    case calls =>
      rw [hexamine]
      change (u.cc.calls.set p (some d.preempted)).get q = _
      by_cases hpq : p = q
      · subst hpq
        simp [hpd, hd, Option.filter_some, Call.warned]
      · rw [Table.get_set_ne _ _ hpq, h.calls]
        cases hq : s.cc.calls.get q with
        | none => rfl
        | some e =>
          by_cases he : e ∈ rest
          · have hne : d.ref ≠ e.ref := fun hr => hpq (hsound.eq hpd hq hr).2
            simp [Option.filter_some, he, Call.warned, hw e he, hne]
          · simp [Option.filter_some, he]
    case nodup => rw [hexamine]; exact h.nodup
    case queue => rw [hexamine]; exact h.queue
    case trunks =>
      rw [hexamine, Trunk.delivered_append, ← Trunk.leaving_delivered, ← h.trunks v]
      by_cases hv : t = v
      · subst hv
        have hwarn : ((some d).toList.filter fun d => d.trunk = some t) = [d] := by simp [ht]
        rw [hwarn, State.trunk_mapTrunk_self]
        rfl
      · have hwarn : ((some d).toList.filter fun d => d.trunk = some v) = [] := by simp [ht, hv]
        rw [hwarn, State.trunk_mapTrunk_ne _ _ hv]
        rfl
    case connected =>
      obtain ⟨q, hq⟩ := ho.1 e he
      obtain ⟨rfl, -⟩ := hsound.eq hpd hq (Option.some.inj hwe)
      exact hcon

end State.midReset

end Sys2Proof.Machine
end

section
/-! The calls of a soft reset ended in order of origination sequence (R93): their records, their reports and the messages for
the desks. -/

namespace Sys2Proof.Machine

open Sys2Proof

/-! ### One end -/

/-- The messages of one end for trunk `v`: of the call ended, and of the preemption that starts after it (R91, R141). -/
def momentMessages (v : TrunkNo) (e : Call × Option Call) : List DeskMessage :=
  e.1.ownMessages v ++ (e.2.toList.filter fun d => d.trunk = some v).map fun d => .preemptWarn d.ref 10

/-- The CALL END records of `calls` ended in that order, the first of them the `i`th of the reset (R92). -/
def State.endRecords (s : State) (i : Nat) (calls : List Call) : List Record :=
  (calls.zipIdx i).map fun e => ⟨s.journal.nextSequence + e.2, s.stamp, .callEnd (s.callEndOf e.1 .reset)⟩

/-- The CALL EVENT reports of ends that found `calls`, the first of them the `i`th of the reset (R92). -/
def State.endEvents (s : State) (i : Nat) (calls : List Call) : List OutputItem :=
  (calls.zipIdx i).map fun e =>
    .report (.callEvent e.1.ref e.1.line (e.1.identity.map CallIdentity.kind) e.1.state .reset
      (if s.journal.nextSequence + e.2 ≤ 4294967295 then s.journal.nextSequence + e.2 else 0))

section OneEnd

variable {s u : State} {w : Option CallRef} {sent : TrunkNo → List DeskMessage} {rest : List Call} {c : Call}
  {p : LineNo} {i : Nat}

theorem State.afterEnd_journal (u : State) (c : Call) : (u.afterEnd c).journal = u.journal := by
  unfold State.afterEnd
  split
  · simp
  · split <;> simp

theorem State.afterEnd_output (u : State) (c : Call) : u.link.output <+: (u.afterEnd c).link.output := by
  unfold State.afterEnd
  split
  · exact u.judgeNoTrunk_emptied.output.trans u.judgeNoTrunk.examine_emptied.output
  · split
    · exact u.examine_emptied.output
    · exact List.prefix_rfl

/-- A record handed to the journal as the `i`th after number `n`: it joins it if there are numbers left (R171, R173). -/
theorem State.record_records_of {n : Nat} (hn : u.journal.nextSequence = max n (min (n + i) 4294967296)) (k : RecordKind) :
    (u.record k).journal.records =
      (([⟨n + i, u.stamp, k⟩] : List Record).filter fun r => r.sequence ≤ 4294967295).foldl Journal.append
        u.journal.records := by
  by_cases hle : n + i ≤ 4294967295
  · have hopen : u.journal.exhausted = false := by
      rw [← Bool.not_eq_true, Journal.exhausted_iff]
      omega
    have hnum : u.journal.nextSequence = n + i := by omega
    rw [State.record_journal hopen, hnum, List.filter_cons_of_pos (by simpa using hle)]
    rfl
  · have hfull : u.journal.exhausted = true := (Journal.exhausted_iff _).mpr (by omega)
    rw [State.record_of_exhausted hfull, List.filter_cons_of_neg (by simpa using hle)]
    rfl

theorem Journal.nextNumber_of {j : Journal} {n : Nat} (hn : j.nextSequence = max n (min (n + i) 4294967296)) :
    j.nextNumber = if n + i ≤ 4294967295 then n + i else 0 := by
  rw [Journal.nextNumber_eq, hn]
  split <;> split <;> omega

namespace State.midReset

/-- The end of the next call of a soft reset (R90, R93, R140). -/
theorem endCall (h : s.midReset u w sent (c :: rest)) (hs : s.callsPlaced) (ho : s.inOrder (c :: rest))
    (hc : s.cc.calls.get p = some c) {x : Option Call}
    (hx : x = s.warnedAfter (c.asWarned w) (rest.map (Call.asWarned · w))) :
    s.midReset (u.endCall p .reset) (if x = none then w else x.map Call.ref)
      (fun v => sent v ++ momentMessages v (c.asWarned w, x)) rest := by
  have hended := h.endedAt hs ho hc
  rw [State.endCall_eq h.draining (h.call hc List.mem_cons_self), State.afterEnd, Call.warned_state]
  rw [State.warnedAfter_eq] at hx
  simp only [momentMessages, ← List.append_assoc]
  by_cases hw : (c.asWarned w).state = .waiting
  · rw [if_pos hw]
    rw [if_pos (.inl hw)] at hx
    exact hended.judgeNoTrunk.examine hs ho.tail hx
  · rw [if_neg hw]
    by_cases hp : (c.asWarned w).state = .preempting
    · rw [if_pos hp]
      rw [if_pos (.inr hp)] at hx
      exact hended.examine hs ho.tail hx
    · rw [if_neg hp]
      rw [if_neg (not_or.mpr ⟨hw, hp⟩)] at hx
      subst hx
      simpa using hended

/-- What an end says of its call is what the state before the reset says of it (R92). -/
theorem callEndOf (h : s.midReset u w sent rest) (c : Call) : u.callEndOf (c.warned w) .reset = s.callEndOf c .reset :=
  State.callEndOf_congr (by rw [h.control]) (by rw [Call.warned_eq, Call.asWarned_eq])

/-- The CALL END record of the next call of a soft reset (R92). -/
theorem endCall_records (h : s.midReset u w sent (c :: rest)) (hc : s.cc.calls.get p = some c)
    (hn : u.journal.nextSequence = max s.journal.nextSequence (min (s.journal.nextSequence + i) 4294967296)) :
    (u.endCall p .reset).journal.records = ((s.endRecords i [c]).filter fun r => r.sequence ≤ 4294967295).foldl
      Journal.append u.journal.records := by
  have hstamp : (u.leftBy p (c.warned w)).stamp = s.stamp := by
    have ht : (u.leftBy p (c.warned w)).time = u.time := u.letGo_time _
    rw [State.stamp, ht, h.time, State.stamp]
  rw [State.endCall_eq h.draining (h.call hc List.mem_cons_self), State.afterEnd_journal, State.endedAt_journal,
    State.record_records_of (i := i) (by rw [State.leftBy_journal]; exact hn), State.leftBy_journal, h.callEndOf, hstamp]
  rfl

/-- The CALL EVENT of the next call of a soft reset, with room for it (R92, R181). -/
theorem endCall_event (h : s.midReset u w sent (c :: rest)) (hc : s.cc.calls.get p = some c)
    (hn : u.journal.nextSequence = max s.journal.nextSequence (min (s.journal.nextSequence + i) 4294967296))
    (hroom : u.reportsDue < 16) : ∃ more,
      (u.endCall p .reset).link.output = u.link.output ++ more ∧ (s.endEvents i [c.asWarned w]).Sublist more := by
  have hu := h.call hc List.mem_cons_self
  set y := (u.leftBy p (c.warned w)).record (.callEnd (u.callEndOf (c.warned w) .reset)) with hy
  have hdue : y.link.reports < 16 := by
    have h1 : y.reportsDue ≤ (u.leftBy p (c.warned w)).reportsDue := State.reportsDue_record _ _
    have h2 : (u.leftBy p (c.warned w)).reportsDue ≤ u.reportsDue := u.letGo_reportsDue _
    have h3 := y.reports_le_reportsDue
    omega
  have hevent : (u.endedAt p (c.warned w)).link.output = y.link.output ++ s.endEvents i [c.asWarned w] := by
    rw [State.endedAt_link, State.report_output hdue, Journal.nextNumber_of hn, State.endEvents]
    simp [Call.warned_state]
  obtain ⟨before, hbefore⟩ := State.output_prefix_record (u.leftBy p (c.warned w))
    (.callEnd (u.callEndOf (c.warned w) .reset))
  obtain ⟨after, hafter⟩ := (u.endedAt p (c.warned w)).afterEnd_output (c.warned w)
  refine ⟨before ++ s.endEvents i [c.asWarned w] ++ after, ?_,
    ((List.sublist_append_right _ _).trans (List.sublist_append_left _ _))⟩
  rw [State.endCall_eq h.draining hu, ← hafter, hevent, ← hbefore, State.leftBy_link]
  simp only [List.append_assoc]

end State.midReset

end OneEnd

/-! ### All of them -/

section AllEnds

variable {s : State}

/-- One number more is taken, as long as there are numbers left. -/
theorem max_min_succ {a b n i last : Nat} (ha : a = max n (min (n + i) last)) (hb : b = max a (min (a + 1) last)) :
    b = max n (min (n + (i + 1)) last) := by
  omega

theorem State.endRecords_cons (s : State) (i : Nat) (c : Call) (rest : List Call) :
    s.endRecords i (c :: rest) = s.endRecords i [c] ++ s.endRecords (i + 1) rest := rfl

theorem State.endEvents_cons (s : State) (i : Nat) (c : Call) (rest : List Call) :
    s.endEvents i (c :: rest) = s.endEvents i [c] ++ s.endEvents (i + 1) rest := rfl

/-- The calls left of a soft reset, ended in order of origination sequence (R93). -/
theorem State.midReset.endAll (hs : s.callsPlaced) (rest : List Call) {n i : Nat} {u : State} {w : Option CallRef}
    {sent : TrunkNo → List DeskMessage} (hlen : rest.length ≤ n) (h : s.midReset u w sent rest) (ho : s.inOrder rest)
    (hn : u.journal.nextSequence = max s.journal.nextSequence (min (s.journal.nextSequence + i) 4294967296)) :
    (∃ w', s.midReset (u.endAll n) w' (fun v => sent v ++ (s.resetMoments w rest).flatMap (momentMessages v)) []) ∧
      (u.endAll n).journal.records = ((s.endRecords i rest).filter fun r => r.sequence ≤ 4294967295).foldl
        Journal.append u.journal.records ∧
      (u.reportsDue + rest.length < 16 → ∃ more, (u.endAll n).link.output = u.link.output ++ more ∧
        (s.endEvents i ((s.resetMoments w rest).map Prod.fst)).Sublist more) := by
  induction rest generalizing n i u w sent with
  | nil =>
    have hnone : u.liveCalls = [] := List.eq_nil_iff_forall_not_mem.mpr fun d hd => by
      obtain ⟨p, hp⟩ := State.mem_liveCalls.mp hd
      obtain ⟨c, hc, -⟩ := h.call_of hp
      cases hc
    rw [State.endAll_of_none hnone]
    exact ⟨⟨w, by simpa [State.resetMoments] using h⟩, rfl, fun _ => ⟨[], (List.append_nil _).symm, List.Sublist.refl _⟩⟩
  | cons c rest ih =>
    obtain ⟨p, hc⟩ := ho.1 c List.mem_cons_self
    obtain ⟨n, rfl⟩ : ∃ m, n = m + 1 := ⟨n - 1, by rw [List.length_cons] at hlen; omega⟩
    obtain ⟨hhead, hplace⟩ := h.next hs.1 ho hc
    have hstep := State.endCall_emptied h.draining (h.call hc List.mem_cons_self)
    have hnum := hstep.number
    have hdue := hstep.due
    obtain ⟨hmid, hrecords, hevents⟩ := ih (n := n) (i := i + 1) (Nat.le_of_succ_le_succ hlen)
      (h.endCall hs ho hc rfl) ho.tail (max_min_succ hn hnum)
    rw [State.endAll_of_head hhead hplace, State.resetMoments]
    refine ⟨?_, ?_, fun hroom => ?_⟩
    · simpa only [List.flatMap_cons, ← List.append_assoc] using hmid
    · rw [hrecords, h.endCall_records hc hn, s.endRecords_cons i c rest, List.filter_append, List.foldl_append]
    · rw [List.length_cons] at hroom
      obtain ⟨first, hfirst, hsub⟩ := h.endCall_event hc hn (by omega)
      obtain ⟨more, hmore, hsubs⟩ := hevents (by omega)
      refine ⟨first ++ more, by rw [hmore, hfirst, List.append_assoc], ?_⟩
      rw [List.map_cons, State.endEvents_cons]
      exact hsub.append hsubs

/-- The start of a soft reset: every call is left, none is warned, and no message has been made (R93, R123). -/
theorem State.midReset_begin (hs : s.callsPlaced) {calls : List Call} (hperm : calls.Perm s.liveCalls) :
    s.midReset (s.mapLink Link.serving).beginSoftReset none (fun _ => []) calls := by
  have hlive {p : LineNo} {c : Call} (hc : s.cc.calls.get p = some c) : c ∈ calls :=
    hperm.mem_iff.mpr (State.mem_liveCalls.mpr ⟨p, hc⟩)
  obtain ⟨-, ⟨hnodup, hqueue, -⟩, -, hplaced⟩ := hs
  refine ⟨rfl, rfl, rfl, fun p => ?calls, hnodup, fun r => (hqueue r).trans ?queue, fun v => ?trunks, fun c _ h => ?none⟩
  case calls =>
    change s.cc.calls.get p = _
    cases hc : s.cc.calls.get p with
    | none => rfl
    | some c =>
      rw [Option.filter_some, if_pos (by simpa using hlive hc)]
      rfl
  case queue =>
    constructor
    · rintro ⟨p, c, hc, hr, hw⟩
      exact ⟨c, hlive hc, hr, hw⟩
    · rintro ⟨c, hc, hr, hw⟩
      obtain ⟨p, hp⟩ := State.mem_liveCalls.mp (hperm.mem_iff.mp hc)
      exact ⟨p, c, hp, hr, hw⟩
  case trunks =>
    obtain ⟨-, -, -, -, -, -, hcur, hstack, -⟩ := hplaced v
    rw [State.beginSoftReset_trunk, Trunk.delivered_nil, Trunk.leaving_of_all]
    · rfl
    · intro r hr
      obtain ⟨p, c, hc, rfl, -⟩ := hcur r hr
      exact List.mem_map_of_mem (hlive hc)
    · intro r hr
      obtain ⟨p, c, hc, rfl, -⟩ := hstack r hr
      exact List.mem_map_of_mem (hlive hc)
  case none => cases h

/-- What a soft reset with every call in its place comes to before its RESET record (R93, R123). -/
theorem State.callsEnded_spec (hs : s.callsPlaced) {calls : List Call} (hperm : calls.Perm s.liveCalls)
    (ho : calls.Pairwise fun a b => a.sequence.toNat < b.sequence.toNat) :
    (∀ v, (s.mapLink Link.serving).callsEnded.trunk v =
        ((s.trunk v).beginDrain.delivered (s.resetMessages calls v)).leaving [] s.ti.guardTime) ∧
      (s.mapLink Link.serving).callsEnded.journal.records =
        ((s.endRecords 0 calls).filter fun r => r.sequence ≤ 4294967295).foldl Journal.append s.journal.records ∧
      (s.link.reports + calls.length < 12 → ∃ more, (s.mapLink Link.serving).callsEnded.link.output =
        s.link.output ++ .reply ⟨0x3F, .done, none, .nothing⟩ :: more ∧ (s.resetEvents calls).Sublist more) := by
  have hlen : calls.length ≤ 48 := hperm.length_eq ▸ s.length_liveCalls_le
  have horder : s.inOrder calls := ⟨fun c hc => State.mem_liveCalls.mp (hperm.mem_iff.mp hc), ho⟩
  obtain ⟨⟨w', hmid⟩, hrecords, hevents⟩ := State.midReset.endAll hs calls (i := 0) hlen
    (State.midReset_begin hs hperm) horder (show s.journal.nextSequence = _ by omega)
  refine ⟨fun v => ?_, ?_, fun hroom => ?_⟩
  · rw [State.callsEnded, State.judgeNoTrunk_trunk]
    exact hmid.trunks v
  · rw [State.callsEnded, State.judgeNoTrunk_journal]
    exact hrecords
  · have hdue := (s.mapLink Link.serving).beginSoftReset_reportsDue
    change _ ≤ s.link.reports + 3 at hdue
    obtain ⟨more, hmore, hsub⟩ := hevents (by omega)
    obtain ⟨after, hafter⟩ := (State.setQueue ((s.mapLink Link.serving).beginSoftReset.endAll 48) []).judgeNoTrunk_emptied.output
    refine ⟨more ++ after, ?_, hsub.trans (List.sublist_append_left _ _)⟩
    have hreply : (s.mapLink Link.serving).beginSoftReset.link.output =
      s.link.output ++ [.reply ⟨0x3F, .done, none, .nothing⟩] := rfl
    rw [State.callsEnded, ← hafter, State.setQueue_link, hmore, hreply]
    simp only [List.append_assoc, List.cons_append, List.nil_append]

end AllEnds

end Sys2Proof.Machine
end

section
/-! The clauses on RESET put together (R188). -/

namespace Sys2Proof.Machine

open Sys2Proof

section Assembled

/-- The NCL after a soft reset of state `s`: READY on its list and WAITING, or READY waiting for room (R188, R190). -/
theorem State.softReset_link (s : State) :
    let t := s.beforeReady.recordAndReady .soft
    s.beginSoftReset.link.output <+: t.link.output ∧
      (t.link.service = .waiting ∧
          t.link.output.getLast? = some (.report (s.beforeReady.readyReport .soft)) ∨
        t.link.service = .starting ∧ 16 ≤ t.link.reports ∧
          t.link.heldReady = some (s.beforeReady.readyReport .soft)) ∧
      (s.link.reports + s.liveCalls.length < 12 → t.link.service = .waiting) ∧
      t.link.receiver = .hunting ∧ t.link.inputs = [] ∧ t.link.repeatCount = 0 ∧ t.link.armed = none ∧
      t.link.linkError = false ∧ t.link.lastReset = .soft := by
  intro t
  obtain ⟨-, -, -, hlink⟩ := s.beforeReady_kept
  have hout : s.beginSoftReset.link.output <+: (s.beforeReady.record (.reset .soft)).link.output := by
    refine s.callsEnded_emptied.output.trans ?_
    have := State.output_prefix_record s.beforeReady (.reset .soft)
    rwa [hlink] at this
  have hreports : (s.beforeReady.record (.reset .soft)).link.reports ≤ s.link.reports + s.liveCalls.length + 4 := by
    have h1 := s.beforeReady.record_reports_le (.reset .soft)
    have h2 : s.beforeReady.link.reports ≤ s.link.reports + s.liveCalls.length + 3 := by
      rw [hlink]
      exact s.callsEnded_reports
    omega
  have hready := State.recordAndReady_link s.beforeReady .soft
  generalize s.beforeReady.record (.reset .soft) = y at hout hreports hready
  rcases hready with ⟨hroom, ht⟩ | ⟨hfull, ht⟩
  · rw [hlink] at ht
    rw [ht]
    exact ⟨hout.trans (List.prefix_append _ _), .inl ⟨rfl, List.getLast?_concat⟩, fun _ => rfl, rfl, rfl, rfl, rfl, rfl, rfl⟩
  · rw [hlink] at ht
    rw [ht]
    exact ⟨hout, .inr ⟨rfl, hfull, rfl⟩, fun h => absurd hfull (by omega), rfl, rfl, rfl, rfl, rfl, rfl⟩

/-- The journal after a soft reset (R170, R171, R176). -/
theorem State.softReset_journal (s : State) (n : Nat) (hn : n = s.journal.nextSequence + s.liveCalls.length) :
    let t := s.beforeReady.recordAndReady .soft
    t.journal.threshold = 192 ∧
      (n ≤ 4294967295 → t.journal.nextSequence = n + 1 ∧
        t.journal.records.getLast? = some ⟨n, s.stamp, .reset .soft⟩) ∧
      (s.journal.exhausted = true → t.journal.records = s.journal.records) := by
  intro t
  obtain ⟨hthreshold, hrecords, hstamp, -⟩ := s.beforeReady_kept
  have ht : t.journal = (s.beforeReady.record (.reset .soft)).journal := State.recordAndReady_journal _ _
  have hnext := s.beforeReady_nextSequence
  rw [← hn] at hnext
  rw [ht]
  generalize s.beforeReady = x at hthreshold hrecords hstamp hnext
  refine ⟨by rw [State.record_threshold, hthreshold], fun hle => ?_, fun hx => ?_⟩
  · have hopen : x.journal.exhausted = false := by
      rw [← Bool.not_eq_true, Journal.exhausted_iff]
      omega
    have hnum : x.journal.nextSequence = n := by omega
    rw [State.record_journal hopen, hnum, hstamp]
    exact ⟨rfl, Journal.getLast?_append _ _⟩
  · have hfull : x.journal.exhausted = true := by
      rw [Journal.exhausted_iff] at hx ⊢
      omega
    rw [State.record_of_exhausted hfull, hrecords]
    exact s.callsEnded_emptied.records hx

/-- RESET SOFT is handed to the journal last (R93, R176). -/
theorem State.softReset_records (s : State) : (s.beforeReady.recordAndReady .soft).journal.records =
    (([⟨s.journal.nextSequence + s.liveCalls.length, s.stamp, .reset .soft⟩] : List Record).filter
      fun r => r.sequence ≤ 4294967295).foldl Journal.append s.callsEnded.journal.records := by
  obtain ⟨-, hrecords, hstamp, -⟩ := s.beforeReady_kept
  rw [State.recordAndReady_journal, State.record_records_of s.beforeReady_nextSequence, hrecords, hstamp]

/-- With room for it READY is the newest item of the output list, after what the ends have put there (R190). -/
theorem State.softReset_output {s : State} (hroom : s.link.reports + s.liveCalls.length < 12) :
    ∃ after ready, (s.beforeReady.recordAndReady .soft).link.output =
      s.callsEnded.link.output ++ (after ++ [.report ready]) := by
  obtain ⟨-, -, -, hlink⟩ := s.beforeReady_kept
  obtain ⟨after, hafter⟩ := State.output_prefix_record s.beforeReady (.reset .soft)
  have hreports := s.beforeReady.record_reports_le (.reset .soft)
  have hended := s.callsEnded_reports
  have hout : s.beforeReady.link.output = s.callsEnded.link.output := by rw [hlink]
  have hsame : s.beforeReady.link.reports = s.callsEnded.link.reports := by rw [Link.reports, hout, Link.reports]
  have hready := State.recordAndReady_link s.beforeReady .soft
  rw [← hafter, hout] at hready
  rcases hready with ⟨-, ht⟩ | ⟨hfull, -⟩
  · exact ⟨after, s.beforeReady.readyReport .soft, by rw [ht]; simp only [List.append_assoc]⟩
  · omega

/-- A trunk's record with the messages of a soft reset made for it and its calls gone (R91, R106, R115, R123). -/
theorem Trunk.leaving_delivered_beginDrain {x : Trunk} {msgs sent : List DeskMessage} {lost time : Nat}
    (hsent : sent = if x.link = .up then x.transmit ++ msgs.take (8 - x.transmit.length) else x.transmit)
    (hlost : lost = if x.link = .up then msgs.length - (8 - x.transmit.length) else 0)
    (ho : x.current = none → x.offerTimer = none) :
    (x.beginDrain.delivered msgs).leaving [] time = { x with
      draining := true, receiver := .between, requests := [], stack := [], transmit := sent
      overruns := if lost = 0 then x.overruns else min (x.overruns + lost) 255
      state := if x.current = none then x.state else .guard_
      guardTimer := if x.current = none then x.guardTimer else some time
      idleSince := if x.current = none then x.idleSince else none
      current := none, offerTimer := none } := by
  subst hsent hlost
  rw [Trunk.leaving_nil _ _ (by rw [Trunk.delivered_frame]; exact ho), Trunk.delivered_eq]
  by_cases hl : x.link = .up
  · rw [if_pos (show x.beginDrain.link = .up from hl)]
    rw [if_pos hl, if_pos hl]
    rfl
  · rw [if_neg (show ¬ x.beginDrain.link = .up from hl)]
    rw [if_neg hl, if_neg hl]
    rfl

end Assembled

/-- Settles O16: what a soft reset leaves, block by block; then, with every call in its place, its records, reports and
messages, by the induction over the calls in `State.midReset.endAll`; and its refusal. -/
theorem softResetEndsCallsAndReloads : Obligations.SoftResetEndsCallsAndReloads := by
  refine ⟨?_, ?_, fun s h ho => exec_reset_busy h ho⟩
  · intro s n number h ho hn hnumber
    have hexec := exec_reset h ho
    set u := s.mapLink Link.serving with hu
    obtain ⟨trunks, receive, send, slips, hx⟩ := u.beforeReady_eq
    have ht := State.recordAndReady_frame u.beforeReady .soft
    obtain ⟨hout, hready, hwaiting, hlink⟩ := u.softReset_link
    obtain ⟨hthreshold, hrecord, hkept⟩ := u.softReset_journal n hn
    have htrunk := u.beforeReady_trunk
    have hfree : ∀ p, u.callsEnded.cc.calls.get p = none :=
      State.calls_of_liveCalls_nil (Nat.add_right_cancel (u.callsEnded_emptied.calls.trans (Nat.zero_add _).symm))
    have hnum := u.beforeReady_nextNumber
    change n = u.journal.nextSequence + u.liveCalls.length at hn
    have hreply : u.beginSoftReset.link.output = s.link.output ++ [.reply ⟨0x3F, .done, none, .nothing⟩] := rfl
    have hdir : u.beforeReady.dir.faults.map not = u.beforeReady.dir.areas.map StoreArea.checks := by
      rw [hx]
      exact Directory.load_faults _
    generalize u.beforeReady.recordAndReady .soft = t at hexec ht hout hready hwaiting hlink hthreshold hrecord hkept
    generalize u.beforeReady = x at hx ht hready htrunk hnum hdir
    generalize u.callsEnded = w at hx hfree
    rw [State.readyReport, hdir, hnum, ← hn, ← hnumber] at hready
    obtain ⟨more, hmore⟩ := hout
    rw [hreply, List.append_assoc] at hmore
    have hti (v : TrunkNo) : t.trunk v = x.trunk v := by rw [ht]; rfl
    have hap : t.ap = x.ap := by rw [ht]
    have hdirt : t.dir = x.dir := by rw [ht]
    refine ⟨t, hexec, fun p => ?free, ?_, fun p => ?silent, ?_, ?_, ?_, ?_, ?_, ?_, fun v => ?trunk, ?_, ?_, ?_, ?_, ?held, ?_,
      hthreshold, ?_, fun l => ?line, hrecord, hkept, ⟨more, hmore.symm⟩, ?ready, hwaiting, hlink⟩
    case trunk => rw [hti, hap]; exact htrunk v
    case ready => rw [hdirt]; exact hready
    all_goals rw [ht, hx]
    case free => exact hfree p
    case silent => exact Table.get_fill _ p
    case held => exact h.1
    case line => exact ⟨Table.get_map _ _ l, Table.get_fill _ l⟩
    all_goals rfl
  · intro s calls h ho hs hperm horder
    have hexec := exec_reset h ho
    obtain ⟨htrunks, hrecords, houtput⟩ := State.callsEnded_spec hs hperm horder
    refine ⟨_, hexec, ?_, fun hroom => ?_, fun v x msgs sent lost hx hmsgs hsent hlost => ?_⟩
    · rw [State.softReset_records, hrecords, ← List.foldl_append, ← List.filter_append,
        show (s.mapLink Link.serving).liveCalls.length = calls.length from hperm.length_eq.symm]
      rfl
    · obtain ⟨more, hmore, hsub⟩ := houtput hroom
      obtain ⟨after, ready, hafter⟩ := State.softReset_output (s := s.mapLink Link.serving) (hperm.length_eq ▸ hroom)
      refine ⟨more ++ after, ready, ?_, hsub.trans (List.sublist_append_left _ _)⟩
      rw [hafter, hmore]
      simp only [List.append_assoc, List.cons_append]
    · obtain ⟨-, -, -, hplaced⟩ := hs
      obtain ⟨-, -, hcur, hoff, -⟩ := hplaced v
      have hoffer : x.current = none → x.offerTimer = none := fun hc => by
        by_contra ho
        subst hx
        exact hcur.mp (.inl (hoff.mpr ho)) hc
      have hended := htrunks v
      rw [← hx, ← hmsgs, Trunk.leaving_delivered_beginDrain hsent hlost hoffer] at hended
      obtain ⟨hin, hout⟩ := (s.mapLink Link.serving).beforeReady_trunk_sent v
      rw [congrArg Trunk.transmit hended] at hin hout
      rw [State.recordAndReady_trunk]
      exact ⟨hin, fun he => (hout he).trans hended⟩

end Sys2Proof.Machine
end

section
/-! What identifies a live call (R70, R71): it is kept by every operation on the calls, and so by every command. A call
that is composed stays composed, which makes the keeping transitive; only a free place takes a new call. -/

namespace Sys2Proof.Machine

open Sys2Proof

/-! ### One call -/

/-- `b` is the call `a` at a later time: the same call, its snapshot composed if that of `a` was. -/
def Call.stays (a b : Call) : Prop := a.sameCall b ∧ (a.state ≠ .originating → b.state ≠ .originating)

theorem Call.stays_refl (a : Call) : a.stays a := ⟨⟨rfl, rfl, rfl, rfl, rfl, fun _ => rfl⟩, id⟩

theorem Call.stays.trans {a b c : Call} (h : a.stays b) (g : b.stays c) : a.stays c := by
  obtain ⟨⟨href, hline, hseq, horigin, hcreated, hidentity⟩, hstate⟩ := h
  obtain ⟨⟨gref, gline, gseq, gorigin, gcreated, gidentity⟩, gstate⟩ := g
  exact ⟨⟨gref.trans href, gline.trans hline, gseq.trans hseq, gorigin.trans horigin, gcreated.trans hcreated,
    fun ha => (gidentity (hstate ha)).trans (hidentity ha)⟩, fun ha => gstate (hstate ha)⟩

/-- A call taken by a pass stays: a pass leaves no call ORIGINATING that was not. -/
theorem Call.taken.stays {a b : Call} (h : a.taken b) : a.stays b := by
  refine ⟨Call.taken_sameCall h, fun ha => ?_⟩
  obtain ⟨-, -, -, -, -, -, -, -, -, hs | ⟨-, hs⟩ | ⟨-, hs⟩⟩ := h
  · rwa [hs]
  · simp [hs]
  · simp [hs]

theorem Call.stays_toWaiting (c : Call) (now : Word32) : c.stays (c.toWaiting now) :=
  ⟨⟨rfl, rfl, rfl, rfl, rfl, fun _ => rfl⟩, fun _ => nofun⟩

theorem Call.stays_connected (c : Call) (u : TrunkNo) (now : Word32) (stamp : Stamp) :
    c.stays (c.connected u now stamp) :=
  ⟨⟨rfl, rfl, rfl, rfl, rfl, fun _ => rfl⟩, fun _ => nofun⟩

/-- The offer count and the rescue flag are no part of what identifies a call (R81). -/
theorem Call.stays_handed (c : Call) (n : Nat) (b : Bool) : c.stays { c with offerCount := n, rescued := b } :=
  ⟨⟨rfl, rfl, rfl, rfl, rfl, fun _ => rfl⟩, id⟩

theorem Call.stays_onHold (c : Call) (now : Word32) : c.stays (c.onHold now) :=
  ⟨⟨rfl, rfl, rfl, rfl, rfl, fun _ => rfl⟩, fun _ => nofun⟩

theorem Call.stays_reminded (c : Call) (due : Option Int) : c.stays { c with reminderIn := due } :=
  ⟨⟨rfl, rfl, rfl, rfl, rfl, fun _ => rfl⟩, id⟩

/-- Aging changes the effective class alone of an identity (R82). -/
theorem Call.stays_aged (c : Call) (now : Word32) : c.stays (c.aged now) := by
  refine ⟨⟨rfl, rfl, rfl, rfl, rfl, fun _ => ?_⟩, id⟩
  simp [Call.aged, Function.comp_def, CallIdentity.fixed]
  rfl

/-- A rescue changes the effective class alone of an identity (R81). -/
theorem CallIdentity.fixed_rescuedClass (i : CallIdentity) : i.rescuedClass.fixed = i.fixed := by
  unfold CallIdentity.rescuedClass
  split <;> rfl

theorem Call.stays_rescued (c : Call) :
    c.stays { c with rescued := true, identity := c.identity.map CallIdentity.rescuedClass } := by
  refine ⟨⟨rfl, rfl, rfl, rfl, rfl, fun _ => ?_⟩, id⟩
  simp [Function.comp_def, CallIdentity.fixed_rescuedClass]

/-! ### The call table -/

/-- What place `p` holds in `t`, if anything, is the call it holds in `s`. -/
def State.keepsAt (s t : State) (p : LineNo) : Prop :=
  ∀ b, t.cc.calls.get p = some b → ∃ a, s.cc.calls.get p = some a ∧ a.stays b

/-- Every live call of `t` was one of `s`, in the same place. -/
def State.keeps (s t : State) : Prop := ∀ p, s.keepsAt t p

section Keeps

variable {s t u : State} {p : LineNo}

theorem State.keepsAt.trans (h : s.keepsAt t p) (g : t.keepsAt u p) : s.keepsAt u p := fun c hc => by
  obtain ⟨b, hb, hbc⟩ := g c hc
  obtain ⟨a, ha, hab⟩ := h b hb
  exact ⟨a, ha, hab.trans hbc⟩

theorem State.keeps.trans (h : s.keeps t) (g : t.keeps u) : s.keeps u := fun p => (h p).trans (g p)

theorem State.keepsAt_of_get (h : t.cc.calls.get p = s.cc.calls.get p) : s.keepsAt t p :=
  fun b hb => ⟨b, h ▸ hb, b.stays_refl⟩

theorem State.keeps_of_calls (h : t.cc.calls = s.cc.calls) : s.keeps t := fun _ => State.keepsAt_of_get (by rw [h])

theorem State.keeps_refl (s : State) : s.keeps s := State.keeps_of_calls rfl

/-- What leaves the calls alone keeps what was kept. -/
theorem State.keeps.calls (h : s.keeps t) (hu : u.cc.calls = t.cc.calls) : s.keeps u :=
  h.trans (State.keeps_of_calls hu)

theorem State.keeps.cc (h : s.keeps t) (hu : u.cc = t.cc) : s.keeps u := h.calls (by rw [hu])

/-- One place emptied, or given its call at a later time. -/
theorem State.keeps_set {x : Option Call} (hx : ∀ b, x = some b → ∃ a, s.cc.calls.get p = some a ∧ a.stays b)
    (ht : t.cc.calls = s.cc.calls.set p x) : s.keeps t := fun q b hb => by
  rw [ht, Table.get_set] at hb
  split at hb
  next hq => exact hq ▸ hx b hb
  next => exact ⟨b, hb, b.stays_refl⟩

theorem State.keeps.freed (h : s.keeps t) (p : LineNo) : s.keeps (t.setCall p none) :=
  h.trans (State.keeps_set (fun _ hb => absurd hb (Option.some_ne_none _).symm) rfl)

theorem State.keeps.setCall {a b : Call} (h : s.keeps t) (ha : t.cc.calls.get p = some a) (hab : a.stays b) :
    s.keeps (t.setCall p (some b)) :=
  h.trans (State.keeps_set (fun _ hb => ⟨a, ha, Option.some.inj hb ▸ hab⟩) rfl)

theorem State.keeps.mapCall {f : Call → Call} (h : s.keeps t) (hf : ∀ c : Call, c.stays (f c)) :
    s.keeps (t.mapCall p f) := by
  refine h.trans (State.keeps_set (fun b hb => ?_) rfl)
  obtain ⟨a, ha, rfl⟩ := Option.map_eq_some_iff.mp hb
  exact ⟨a, ha, hf a⟩

theorem State.keeps.foldl {α : Type} {f : State → α → State} (hf : ∀ v x, s.keeps v → s.keeps (f v x)) (h : s.keeps t)
    (xs : List α) : s.keeps (xs.foldl f t) := by
  induction xs generalizing t with
  | nil => exact h
  | cons x xs ih => exact ih (hf t x h)

theorem State.takenTo.keeps (h : s.takenTo t) : s.keeps t := fun p b hb => by
  obtain ⟨hnone, hsome⟩ := h p
  cases ha : s.cc.calls.get p with
  | none => simp [hnone ha] at hb
  | some a =>
    obtain ⟨c, hc, hac⟩ := hsome a ha
    rw [hb] at hc
    cases hc
    exact ⟨a, rfl, hac.stays⟩

end Keeps

/-! ### Operations that leave the calls alone -/

section Frames

variable (s : State)

@[simp] theorem State.enqueue_calls (p : LineNo) : (s.enqueue p).cc.calls = s.cc.calls := by
  unfold State.enqueue
  split <;> rfl

@[simp] theorem State.removeCall_calls (c : Call) : (s.removeCall c).cc.calls = s.cc.calls := by
  unfold State.removeCall
  split <;> rfl

@[simp] theorem State.setTime_cc (b : TimeBase) : (s.setTime b).cc = s.cc := by
  unfold State.setTime
  dsimp only
  split <;> simp

@[simp] theorem State.takeResult_cc (l : LineNo) (r : EvalResult) : (s.takeResult l r).cc = s.cc := by
  change (s.takeResult l r).besideLsc.cc = s.besideLsc.cc
  rw [State.takeResult_besideLsc]

@[simp] theorem State.evaluateWhere_cc (e : LineSample) (due : LineRecord → EvalResult → Bool) :
    (s.evaluateWhere e due).cc = s.cc := by
  obtain h | ⟨m, r, -, -, h⟩ := s.evaluateWhere_cases e due
  · rw [h]
  · rw [h, State.takeResult_cc, State.setMeasurement_cc]

@[simp] theorem State.takeCallEnded_cc (l : LineNo) : (s.takeCallEnded l).cc = s.cc := by
  unfold State.takeCallEnded
  dsimp only
  split
  · split <;> rfl
  · split <;> rfl
  · split <;> rfl
  · rfl

@[simp] theorem State.resetDrained_cc (u : TrunkNo) : (s.resetDrained u).cc = s.cc := by
  rw [s.resetDrained_frame u]

@[simp] theorem State.pushReceive_cc (u : TrunkNo) (x : Block) : (s.pushReceive u x).cc = s.cc := rfl

@[simp] theorem State.removeTrunk_cc (u : TrunkNo) : (s.removeTrunk u).cc = s.cc := rfl

@[simp] theorem State.reportService_cc (u : TrunkNo) : (s.reportService u).cc = s.cc := by
  simp [State.reportService]

@[simp] theorem State.requestStore_cc (code : Octet) (kind : StoreKind) (body : List Octet) :
    (s.requestStore code kind body).cc = s.cc := by
  unfold State.requestStore
  dsimp only
  split <;> rfl

@[simp] theorem State.recordAndReady_cc (k : ResetKind) : (s.recordAndReady k).cc = s.cc := by
  simp [State.recordAndReady]

@[simp] theorem State.applyLineSet_cc (l : LineNo) (v : LineService) : (s.applyLineSet l v).cc = s.cc := by
  unfold State.applyLineSet
  dsimp only
  split <;> rfl

@[simp] theorem State.runLineQuery_cc (body : List Octet) : (s.runLineQuery body).cc = s.cc := by
  unfold State.runLineQuery
  split
  · split
    · rfl
    · dsimp only
      split <;> rfl
  · rfl

@[simp] theorem State.runLineSet_cc (body : List Octet) : (s.runLineSet body).cc = s.cc := by
  unfold State.runLineSet
  split
  · split
    · split <;> simp
    · rfl
  · rfl

@[simp] theorem State.runLineTest_cc (body : List Octet) : (s.runLineTest body).cc = s.cc := by
  unfold State.runLineTest
  split
  · split <;> rfl
  · rfl

@[simp] theorem State.runCalSet_cc (body : List Octet) : (s.runCalSet body).cc = s.cc := by
  unfold State.runCalSet
  split
  · split
    · split <;> rfl
    · rfl
  · rfl

@[simp] theorem State.runDirRead_cc (body : List Octet) : (s.runDirRead body).cc = s.cc := by
  unfold State.runDirRead
  split
  · split <;> rfl
  · rfl

@[simp] theorem State.runAgain_cc (code : Octet) (body : List Octet) : (s.runAgain code body).cc = s.cc := by
  unfold State.runAgain
  split <;> simp

@[simp] theorem State.afterReply_cc (r : Reply) : (s.afterReply r).cc = s.cc := by
  unfold State.afterReply
  split
  · rfl
  · split
    · rfl
    · split <;> simp

end Frames

/-! ### Operations on calls -/

section Operations

variable {s t : State}

theorem State.keeps.changed (h : s.keeps t) : s.keeps t.changed := h.trans t.changed_takenTo.keeps

theorem State.keeps.examine (h : s.keeps t) : s.keeps t.examine := h.trans t.examine_takenTo.keeps

theorem State.keeps.pass (h : s.keeps t) : s.keeps t.pass := h.trans t.pass_takenTo.keeps

theorem State.keeps.enterWaiting (h : s.keeps t) (p : LineNo) : s.keeps (t.enterWaiting p) := by
  unfold State.enterWaiting
  split
  · exact h
  next c hc =>
    have hw : s.keeps ((t.setCall p (some (c.toWaiting t.cc.now))).enqueue p) :=
      (h.setCall hc (c.stays_toWaiting t.cc.now)).calls (State.enqueue_calls _ p)
    dsimp only
    split
    · exact hw
    · split
      · exact hw.cc (State.selectChain_cc _ _ _)
      · exact hw

/-- An end frees its place; what it brings besides is a pass or an examination (R90, R140). -/
theorem State.keeps.endCall (h : s.keeps t) (p : LineNo) (cause : Cause) : s.keeps (t.endCall p cause) := by
  unfold State.endCall
  split
  · exact h
  next c _ =>
    have hended {u : State} (hu : s.keeps u) : s.keeps (if c.state = .waiting then u.changed else u) := by
      split
      · exact hu.changed
      · exact hu
    have hexamined {u : State} (hu : s.keeps u) : s.keeps (if c.state = .preempting then u.examine else u) := by
      split
      · exact hu.examine
      · exact hu
    exact hexamined (hended (.freed (h.calls (by simp)) p))

theorem State.keeps.handBack (h : s.keeps t) (r : CallRef) (counted : Bool) : s.keeps (t.handBack r counted) := by
  unfold State.handBack
  split
  · exact .enterWaiting (h.mapCall fun c => c.stays_handed _ c.rescued) _
  · exact h

theorem State.keeps.endOffer (h : s.keeps t) (u : TrunkNo) (r : CallRef) (cause : Cause) :
    s.keeps (t.endOffer u r cause) :=
  .changed (.handBack (h.cc (by simp)) r true)

theorem State.keeps.connect (h : s.keeps t) (p : LineNo) (u : TrunkNo) : s.keeps (t.connect p u) :=
  .cc (h.mapCall fun c => c.stays_connected u t.cc.now t.stamp) (State.stopPlayer_cc _ p)

theorem State.keeps.rescue (h : s.keeps t) (r : CallRef) : s.keeps (t.rescue r) := by
  have hrescued (p : LineNo) : s.keeps (((t.mapCall p fun c =>
      { c with rescued := true, identity := c.identity.map CallIdentity.rescuedClass }).enterWaiting p).changed) :=
    .changed (.enterWaiting (h.mapCall Call.stays_rescued) p)
  unfold State.rescue
  split
  · exact h
  next p _ =>
    split
    · exact .changed (.enterWaiting (h.mapCall fun c => c.stays_handed c.offerCount true) p)
    · exact hrescued p
    · exact hrescued p
    · exact hrescued p
    · exact h.endCall p _
    · exact h

theorem State.keeps.linkLoss (h : s.keeps t) (u : TrunkNo) : s.keeps (t.linkLoss u) := by
  unfold State.linkLoss
  dsimp only
  split
  · exact .changed (h.cc (by simp))
  · exact .changed (.foldl (fun _ r hv => hv.rescue r) (h.cc (by simp)) _)

theorem State.keeps.linkUp (h : s.keeps t) (u : TrunkNo) : s.keeps (t.linkUp u) := by
  unfold State.linkUp
  dsimp only
  split
  · exact .changed (h.cc (by simp))
  · exact .changed (h.cc (by simp))

theorem State.keeps.badFrame (h : s.keeps t) (u : TrunkNo) : s.keeps (t.badFrame u) := by
  unfold State.badFrame
  dsimp only
  split
  · exact .linkLoss (h.cc (by simp)) u
  · exact h.cc (by simp)

theorem State.keeps.goodFrame (h : s.keeps t) (u : TrunkNo) (f : TrunkFrame) : s.keeps (t.goodFrame u f) := by
  unfold State.goodFrame
  dsimp only
  split
  · exact h.cc (by simp)
  · split
    · exact .linkUp (h.cc (by simp)) u
    · exact h.cc (by simp)

theorem State.keeps.ageCall (h : s.keeps t) (p : LineNo) : s.keeps (t.ageCall p) := by
  unfold State.ageCall
  split
  · exact h
  next c hc =>
    have haged := h.setCall hc (c.stays_aged t.cc.now)
    dsimp only
    split
    · exact haged
    · exact haged.calls (State.enqueue_calls _ p)

theorem State.keeps.foldl_ageIfDue (h : s.keeps t) (b : Bool) (ps : List LineNo) :
    s.keeps (ps.foldl State.ageIfDue (t, b)).1 := by
  induction ps generalizing t b with
  | nil => exact h
  | cons p ps ih =>
    refine ih (t := (State.ageIfDue (t, b) p).1) ?_ _
    unfold State.ageIfDue
    split
    · split
      · exact h.ageCall p
      · exact h
    · exact h

theorem State.keeps.retrieveTop (h : s.keeps t) (u : TrunkNo) (r : CallRef) : s.keeps (t.retrieveTop u r) := by
  unfold State.retrieveTop
  split
  · exact .cc (.connect (h.cc (by simp)) _ u) (State.sendIdent_cc _ _ _)
  · exact h

theorem State.keeps.takeCall (h : s.keeps t) (u : TrunkNo) (p : LineNo) (r : CallRef) : s.keeps (t.takeCall u p r) :=
  .cc (.connect (h.cc (by simp)) p u) (State.sendIdent_cc _ _ _)

theorem State.keeps.clearCall (h : s.keeps t) (armed : Option CallRef) (r : CallRef) :
    s.keeps (t.clearCall armed r) := by
  unfold State.clearCall
  split
  · split
    · exact .endCall (h.cc (by simp)) _ _
    · exact h.cc (by simp)
  · exact h.cc (by simp)

theorem State.keeps.applyService (h : s.keeps t) (u : TrunkNo) (v : TrunkService) : s.keeps (t.applyService u v) := by
  unfold State.applyService
  dsimp only
  split
  · split <;> exact h.cc (by simp)
  · exact h
  · exact h
  · split
    · exact .cc (.handBack (h.cc (by simp)) _ false) (State.reportService_cc _ u)
    · exact h.cc (by simp)
  · exact h.cc (by simp)

theorem State.keeps.applyTrunkSet (h : s.keeps t) (u : TrunkNo) (v : TrunkService) (g : TrunkGroup) :
    s.keeps (t.applyTrunkSet u v g) := by
  unfold State.applyTrunkSet
  dsimp only
  split
  · exact .changed (.applyService (h.cc (by simp)) u v)
  · exact .applyService (h.cc (by simp)) u v

theorem State.keeps.endAll (h : s.keeps t) (n : Nat) : s.keeps (t.endAll n) := by
  induction n generalizing t with
  | zero => exact h
  | succ n ih =>
    unfold State.endAll
    split
    · exact ih (h.endCall _ _)
    · exact h

/-- A soft reset ends calls and starts none (R93). -/
theorem State.keeps.softReset (h : s.keeps t) : s.keeps t.softReset := by
  have hbegun : s.keeps t.beginSoftReset := h.cc rfl
  have hended : s.keeps t.beginSoftReset.endCallsForReset := (hbegun.endAll 48).calls (by simp [State.endCallsForReset])
  have hdrained : s.keeps t.beginSoftReset.endCallsForReset.resetIdleTrunks :=
    .foldl (fun v u hv => hv.cc (v.resetDrained_cc u)) hended _
  have hplaced {u : State} (hu : s.keeps u) : s.keeps u.defaults.loadAndPlace := hu.calls rfl
  exact (hplaced hdrained).cc (State.recordAndReady_cc _ .soft)

end Operations

end Sys2Proof.Machine
end

section
/-! New calls stand in places that were free (R72): what creates one keeps what identifies the others (R70, R71). -/

namespace Sys2Proof.Machine

open Sys2Proof

/-- Every live call of `s` that has a successor in its place stays. -/
def State.keepsLive (s t : State) : Prop := ∀ p a, s.cc.calls.get p = some a → s.keepsAt t p

section KeepsLive

variable {s t u : State} {p : LineNo}

theorem State.keeps.live (h : s.keeps t) : s.keepsLive t := fun p _ _ => h p

theorem State.keepsLive.congr (h : u.keepsLive t) (hu : u.cc = s.cc) : s.keepsLive t := fun p a ha => by
  have hp := h p a (by rwa [hu])
  unfold State.keepsAt at hp ⊢
  rwa [hu] at hp

/-- A state in which only a place that was free has been given a call (R72). -/
theorem State.keepsLive_of_free (hp : s.cc.calls.get p = none) (h : ∀ q, p ≠ q → s.keepsAt t q) : s.keepsLive t :=
  fun q a ha => h q fun hpq => by simp [← hpq, hp] at ha

/-- What a meaning keeps of the live calls, a command on the running part keeps. -/
theorem State.keepsLive.running {f : State → State} (hx : s.running f = .next t) (hf : ∀ v : State, v.keepsLive (f v)) :
    s.keepsLive t := by
  cases hs : s.held with
  | true =>
    rw [State.running_held s f hs] at hx
    cases hx
    exact s.keeps_refl.live
  | false =>
    rw [State.running_of s f hs] at hx
    cases hx
    exact hf s

/-- Taking a line event touches no call before the event is acted on (R27). -/
theorem State.keepsLive.takeEvent {e : LineEvent} {f : State → State} (hf : ∀ v : State, v.keepsLive (f v)) :
    s.keepsLive (s.takeEvent e f) := by
  unfold State.takeEvent
  split
  · exact hf s
  · split
    · exact (hf { s with events := s.events.erase e }).congr rfl
    · exact s.keeps_refl.live

/-- Taking a desk request touches no call before the request is served (R105, R107). -/
theorem State.keepsLive.takeDesk {w : TrunkNo} {q : DeskRequest} {f : State → State}
    (hf : ∀ v : State, v.keepsLive (f v)) : s.keepsLive (s.takeDesk w q f) := by
  unfold State.takeDesk
  dsimp only
  split
  · split
    · exact hf s
    next rest _ =>
      split
      · exact (hf (s.setTrunk w { s.trunk w with requests := rest })).congr rfl
      · exact s.keeps_refl.live
  · exact s.keeps_refl.live

end KeepsLive

/-! ### New calls (R72, R75, R77, R136) -/

section NewCalls

variable {s : State} {p q : LineNo}

theorem State.freePlace_free (h : s.freePlace = some p) : s.cc.calls.get p = none := by
  have := List.find?_some h
  simpa using this

theorem State.addCall_get_ne (c : Call) (h : p ≠ q) : (s.addCall p c).cc.calls.get q = s.cc.calls.get q :=
  Table.get_set_ne _ _ h

theorem State.identify_get_ne (code : ReceivedCode) (callback : Bool) (h : p ≠ q) :
    (s.identify p code callback).cc.calls.get q = s.cc.calls.get q := by
  unfold State.identify
  split
  · simp [h]
  · rfl

/-- A call composed while ORIGINATING stays (R76). -/
theorem State.keeps_identify (code : ReceivedCode) (callback : Bool)
    (h : ∀ c, s.cc.calls.get p = some c → c.state = .originating) : s.keeps (s.identify p code callback) := by
  unfold State.identify
  split
  next c hc =>
    have hcomposed (i : CallIdentity) : c.stays { c with identity := some i } :=
      ⟨⟨rfl, rfl, rfl, rfl, rfl, fun hn => absurd (h c hc) hn⟩, id⟩
    exact .setCall (s.keeps_refl.cc (State.flagCode_cc _ _ _ _)) (by rwa [State.flagCode_cc]) (hcomposed _)
  · exact s.keeps_refl

/-- A call created and composed leaves the other places as they are. -/
theorem State.created_get_ne (c : Call) (code : ReceivedCode) (callback : Bool) (h : p ≠ q) :
    ((s.addCall p c).identify p code callback).cc.calls.get q = s.cc.calls.get q :=
  (State.identify_get_ne code callback h).trans (State.addCall_get_ne c h)

theorem State.keepsLive_openWaiting (s : State) (l : LineNo) : s.keepsLive (s.openWaiting l) := by
  unfold State.openWaiting
  split
  next p _ hp =>
    refine State.keepsLive_of_free (State.freePlace_free hp) fun q hq => ?_
    exact (State.keepsAt_of_get (State.created_get_ne _ .absent false hq)).trans
      (((State.keeps_refl _).enterWaiting p).changed q)
  · exact s.keeps_refl.live

theorem State.keepsLive_ringPost (s : State) (w : TrunkNo) (l : LineNo) : s.keepsLive (s.ringPost w l) := by
  unfold State.ringPost
  split
  · exact s.keeps_refl.live
  next p hp =>
    refine State.keepsLive_of_free (State.freePlace_free hp) fun q hq => State.keepsAt_of_get ?_
    simp only [State.sendIdent_cc, State.connectTrunk_cc, State.created_get_ne _ _ _ hq]
    rfl

theorem State.keepsLive_callBack (s : State) (w : TrunkNo) (l : LineNo) (q : DeskRequest) :
    s.keepsLive (s.callBack w l q) := by
  have h := s.keeps_refl
  have hrefused (r : Reason) : s.keepsLive (s.refuse w q r) := (h.cc (State.refuse_cc _ _ _ _)).live
  unfold State.callBack
  split
  · exact hrefused _
  · exact hrefused _
  · exact hrefused _
  · exact hrefused _
  · split
    · split
      · exact h.live
      · split
        · exact (State.keeps.changed (.takeCall (h.calls (by simp)) _ _ _)).live
        · exact (State.keeps.takeCall (h.cc (by simp)) _ _ _).live
        · exact hrefused _
        · exact hrefused _
    · split
      · exact s.keepsLive_ringPost w l
      · exact hrefused _

end NewCalls

end Sys2Proof.Machine
end

section
/-! Every command keeps what identifies a live call (R70, R71). -/

namespace Sys2Proof.Machine

open Sys2Proof

@[simp] theorem State.released_cc (s : State) : s.released.cc = s.cc := by
  rw [State.released, State.recordAndReady_cc]
  rfl

section Taken

variable {s t : State}

theorem State.keeps.running {f : State → State} (hx : s.running f = .next t)
    (hf : ∀ v, s.keeps v → s.keeps (f v)) : s.keepsLive t :=
  State.keeps.live (State.running_keeps hf s.keeps_refl hx)

theorem State.keeps.takeEvent {e : LineEvent} {f : State → State} (h : s.keeps t)
    (hf : ∀ v, s.keeps v → s.keeps (f v)) : s.keeps (t.takeEvent e f) :=
  State.takeEvent_keeps (fun _ _ hv => hv.cc rfl) hf h

theorem State.keeps.takeDesk {w : TrunkNo} {q : DeskRequest} {f : State → State} (h : s.keeps t)
    (hf : ∀ v, s.keeps v → s.keeps (f v)) : s.keeps (t.takeDesk w q f) :=
  State.takeDesk_keeps (fun _ _ hv => hv.cc rfl) hf h

theorem State.keeps.serveOnce {code : Octet} {allowed : Nat → Bool} {body : List Octet} {g : State → State}
    (h : s.keeps t) (hg : ∀ v, s.keeps v → s.keeps (g v)) : s.keeps (t.serveOnce code allowed body g) :=
  State.serveOnce_keeps (fun _ _ hv => hv.cc rfl) hg h

theorem State.keeps.serveRuns {code : Octet} {len : Nat} {body : List Octet} {run : List Octet → State → State}
    (h : s.keeps t) (hr : ∀ v, (run body v).cc = v.cc) : s.keeps (t.serveRuns code len body run) :=
  State.serveRuns_keeps (fun _ _ hv => hv.cc rfl) (fun v hv => hv.cc (hr v)) h

theorem State.keeps.setParam {α : Type} {id : Octet} {value : List Octet} {check : List Octet → Option α}
    {apply : α → State → State} (h : s.keeps t) (ha : ∀ a v, s.keeps v → s.keeps (apply a v)) :
    s.keeps (t.setParam id value check apply) :=
  State.setParam_keeps (fun _ _ hv => hv.cc rfl) ha h

end Taken

/-- Every command keeps the live calls it does not end: most leave the call table alone, the others go through the
operations above. -/
theorem exec_keepsLive {s t : State} (c : Instr) (hx : exec c s = .next t) : s.keepsLive t := by
  unfold exec at hx
  cases c with
  | powerOnReset =>
    cases hx
    refine State.keeps.live fun p b hb => ?_
    simp [State.powerOn, State.heldInReset, CallControl.initial] at hb
  | powerOnResetRelease =>
    cases hx
    split
    · exact (s.keeps_refl.cc s.released_cc).live
    · exact s.keeps_refl.live
  | samplePair l x y =>
    refine State.keeps.running hx fun u hu => hu.cc ?_
    split
    · rfl
    · split <;> simp
  | codeTimerExpiry e => exact State.keeps.running hx fun u hu => hu.cc (u.evaluateWhere_cc _ _)
  | lockoutCountExpiry e => exact State.keeps.running hx fun u hu => hu.cc (u.evaluateWhere_cc _ _)
  | ringPhaseChange e => exact State.keeps.running hx fun u hu => hu.cc (u.evaluateWhere_cc _ _)
  | seizure l =>
    refine .running hx fun u => .takeEvent fun v => ?_
    split
    next p _ hp =>
      exact State.keepsLive_of_free (State.freePlace_free hp) fun q hq =>
        State.keepsAt_of_get (State.addCall_get_ne _ hq)
    · exact v.keeps_refl.live
  | codeResult l code =>
    refine State.keeps.running hx fun u hu => hu.takeEvent fun v hv => ?_
    split
    next p _ =>
      split
      next hc =>
        have horiginating : ∀ c, v.cc.calls.get p = some c → c.state = .originating := fun c h => by simpa [h] using hc
        exact .changed (.enterWaiting (hv.trans (State.keeps_identify _ _ horiginating)) p)
      · exact hv
    · exact hv
  | offHookAtStart l => exact .running hx fun u => .takeEvent fun v => v.keepsLive_openWaiting l
  | lockoutExpiry l => exact .running hx fun u => .takeEvent fun v => v.keepsLive_openWaiting l
  | hangUp l =>
    refine State.keeps.running hx fun u hu => hu.takeEvent fun v hv => ?_
    split
    · split
      · exact hv.endCall _ _
      · exact hv
    · exact hv
  | lineLost l =>
    refine State.keeps.running hx fun u hu => hu.takeEvent fun v hv => ?_
    split
    · exact hv.endCall _ _
    · exact hv
  | lineFault l kind =>
    refine State.keeps.running hx fun u hu => hu.takeEvent fun v hv => ?_
    split
    · exact hv.endCall _ _
    · exact hv
  | answered l =>
    refine State.keeps.running hx fun u hu => hu.takeEvent fun v hv => ?_
    split
    · split
      · split
        · exact hv.connect _ _
        · exact hv
      · exact hv
    · exact hv
  | callEnded l => exact State.keeps.running hx fun u hu => hu.cc (State.takeCallEnded_cc _ l)
  | aging r =>
    refine State.keeps.running hx fun u hu => ?_
    split
    · split
      · split
        · split
          · exact hu.ageCall _
          · exact (hu.ageCall _).changed
        · exact hu
      · exact hu
    · exact hu
  | trunkFrameReceived w f =>
    refine State.keeps.running hx fun u hu => ?_
    split
    · split
      · exact hu.goodFrame w _
      · exact hu.badFrame w
    · exact hu.badFrame w
  | trunkFrameSent w => exact State.keeps.running hx fun u hu => hu.cc rfl
  | accept w r =>
    refine State.keeps.running hx fun u hu => hu.takeDesk fun v hv => ?_
    dsimp only
    split
    · split
      · exact .cc (.connect (hv.cc (by simp)) _ w) (State.confirm_cc _ _ _)
      · exact hv.cc (by simp)
    · exact hv.cc (by simp)
  | decline w r =>
    refine State.keeps.running hx fun u hu => hu.takeDesk fun v hv => ?_
    dsimp only
    split
    · exact hv.endOffer w r _
    · exact hv.cc (by simp)
  | release w r =>
    refine State.keeps.running hx fun u hu => hu.takeDesk fun v hv => ?_
    dsimp only
    split
    · split
      · exact .endCall (hv.cc (by simp)) _ _
      · exact hv.cc (by simp)
    · exact hv.cc (by simp)
  | hold w r =>
    refine State.keeps.running hx fun u hu => hu.takeDesk fun v hv => ?_
    split
    · exact hv.cc (by simp)
    · exact hv.cc (by simp)
    next p _ _ =>
      have hheld : s.keeps (v.mapCall p fun c => c.onHold v.cc.now) := hv.mapCall fun c => c.stays_onHold _
      exact .changed (hheld.cc (by simp))
  | retrieve w =>
    refine State.keeps.running hx fun u hu => hu.takeDesk fun v hv => ?_
    dsimp only
    split
    · exact hv.cc (by simp)
    · exact hv.retrieveTop w _
    · exact hv.retrieveTop w _
    · split
      · exact .changed (.retrieveTop (.handBack (hv.cc (by simp)) _ false) w _)
      · exact hv.retrieveTop w _
    · exact hv.cc (by simp)
  | identRequest w r =>
    refine State.keeps.running hx fun u hu => hu.takeDesk fun v hv => hv.cc ?_
    dsimp only
    split
    · split <;> simp
    · simp
  | callback w line =>
    refine .running hx fun u => .takeDesk fun v => ?_
    split
    · exact (v.keeps_refl.cc (by simp)).live
    · split
      · exact v.keepsLive_callBack w _ _
      · exact (v.keeps_refl.cc (by simp)).live
  | offerTimerExpiry w =>
    refine State.keeps.running hx fun u hu => ?_
    dsimp only
    split
    · split
      · exact hu.endOffer w _ _
      · exact hu
    · exact hu
  | guardTimerExpiry w =>
    refine State.keeps.running hx fun u hu => ?_
    dsimp only
    split
    · exact .changed (hu.cc (by simp))
    · exact hu
  | holdReminder r =>
    refine State.keeps.running hx fun u hu => ?_
    split
    · split
      next c hc =>
        split
        · split
          · exact (hu.setCall hc (c.stays_reminded _)).cc (State.sendDesk_cc _ _ _)
          · exact hu
        · exact hu
      · exact hu
    · exact hu
  | minimumHoldServed r =>
    refine State.keeps.running hx fun u hu => ?_
    split
    · split
      · split
        · exact hu.examine
        · exact hu
      · exact hu
    · exact hu
  | preemptionTimerExpiry r =>
    refine State.keeps.running hx fun u hu => ?_
    split
    · split
      · exact hu.endCall _ _
      · exact hu
    · exact hu
  | ringingTimeout r =>
    refine State.keeps.running hx fun u hu => ?_
    split
    · split
      · exact hu.endCall _ _
      · exact hu
    · exact hu
  | audioBlockTick bs => exact State.keeps.running hx fun u hu => hu.cc rfl
  | secondPulse => exact State.keeps.running hx fun u hu => hu.cc (u.setTime_cc _)
  | pulseWatchdogExpiry =>
    refine State.keeps.running hx fun u hu => hu.cc ?_
    split
    · split <;> simp
    · rfl
  | storeCompletionDone =>
    refine State.keeps.running hx fun u hu => hu.cc ?_
    split
    · split <;> simp
    · rfl
  | storeCompletionFault =>
    refine State.keeps.running hx fun u hu => hu.cc ?_
    split
    · split <;> simp
    · rfl
  | frameReceived os => exact State.keeps.running hx fun u hu => hu.cc rfl
  | interOctetTimeout => exact State.keeps.running hx fun u hu => hu.cc rfl
  | replySent =>
    refine State.keeps.running hx fun u hu => hu.cc ?_
    split
    · exact State.afterReply_cc _ _
    · rfl
  | unknownRequest code body =>
    refine State.keeps.running hx fun u hu => ?_
    split
    · exact State.serve_keeps (fun _ _ hv => hv.cc rfl) (fun _ hv => hv.cc rfl) hu
    · exact hu
  | status body => exact State.keeps.running hx fun u hu => hu.serveOnce fun v hv => hv.cc rfl
  | paramSetThresholdSet setB value => exact State.keeps.running hx fun u hu => hu.setParam fun a v hv => hv.cc rfl
  | paramSetAgingPeriod value =>
    refine State.keeps.running hx fun u hu => hu.setParam fun n v hv => ?_
    have haged := State.keeps.foldl_ageIfDue (s := s) (t := { v with cc := { v.cc with agingPeriod := n } })
      (hv.calls rfl) false (List.finRange 48)
    dsimp only
    split
    · exact haged.changed
    · exact haged
  | paramSetEscalationThreshold value =>
    exact State.keeps.running hx fun u hu => hu.setParam fun n v hv => .pass (hv.calls rfl)
  | paramSetOfferTime value => exact State.keeps.running hx fun u hu => hu.setParam fun n v hv => hv.cc rfl
  | paramSetGuardTime value => exact State.keeps.running hx fun u hu => hu.setParam fun n v hv => hv.cc rfl
  | paramSetMinimumHold value =>
    exact State.keeps.running hx fun u hu => hu.setParam fun n v hv => .examine (hv.calls rfl)
  | paramSetHoldChain value => exact State.keeps.running hx fun u hu => hu.setParam fun a v hv => hv.cc rfl
  | paramSetWarningChain value => exact State.keeps.running hx fun u hu => hu.setParam fun a v hv => hv.cc rfl
  | paramSetJournalThreshold value => exact State.keeps.running hx fun u hu => hu.setParam fun a v hv => hv.cc rfl
  | paramQuery body => exact State.keeps.running hx fun u hu => hu.serveOnce fun v hv => hv.cc rfl
  | lineQuery body => exact State.keeps.running hx fun u hu => hu.serveRuns fun v => v.runLineQuery_cc body
  | lineSet body => exact State.keeps.running hx fun u hu => hu.serveRuns fun v => v.runLineSet_cc body
  | lineTest body => exact State.keeps.running hx fun u hu => hu.serveRuns fun v => v.runLineTest_cc body
  | calSet body => exact State.keeps.running hx fun u hu => hu.serveRuns fun v => v.runCalSet_cc body
  | dirRead body => exact State.keeps.running hx fun u hu => hu.serveRuns fun v => v.runDirRead_cc body
  | dirWrite body =>
    refine State.keeps.running hx fun u hu => hu.serveOnce fun v hv => hv.cc ?_
    split
    · split
      · rfl
      · split
        · rfl
        · split <;> rfl
    · rfl
  | dirEnable body =>
    refine State.keeps.running hx fun u hu => hu.serveOnce fun v hv => hv.cc ?_
    split <;> rfl
  | dirCommit body => exact State.keeps.running hx fun u hu => hu.serveOnce fun v hv => hv.cc (v.requestStore_cc _ _ _)
  | dirLock body => exact State.keeps.running hx fun u hu => hu.serveOnce fun v hv => hv.cc (v.requestStore_cc _ _ _)
  | dirErase body => exact State.keeps.running hx fun u hu => hu.serveOnce fun v hv => hv.cc (v.requestStore_cc _ _ _)
  | callList body =>
    refine State.keeps.running hx fun u hu => hu.serveOnce fun v hv => hv.cc ?_
    split
    · split <;> rfl
    · rfl
  | callQuery body =>
    refine State.keeps.running hx fun u hu => hu.serveOnce fun v hv => hv.cc ?_
    split
    · split
      · rfl
      · split <;> rfl
    · rfl
  | clearArm body =>
    refine State.keeps.running hx fun u hu => hu.serveOnce fun v hv => hv.cc ?_
    split
    · split
      · rfl
      · split <;> rfl
    · rfl
  | clearCall body =>
    refine State.keeps.running hx fun u hu => hu.serveOnce fun v hv => ?_
    split
    · exact hv.clearCall _ _
    · exact hv.cc rfl
  | trunkSet body =>
    refine State.keeps.running hx fun u hu => hu.serveOnce fun v hv => ?_
    split
    · split
      · split
        · exact hv.cc rfl
        · exact hv.applyTrunkSet _ _ _
      · exact hv.cc rfl
    · exact hv.cc rfl
  | trunkQuery body =>
    refine State.keeps.running hx fun u hu => hu.serveOnce fun v hv => hv.cc ?_
    split
    · split <;> rfl
    · rfl
  | promptWrite body =>
    refine State.keeps.running hx fun u hu => hu.serveOnce fun v hv => hv.cc ?_
    split
    · split <;> rfl
    · rfl
  | clipSet body =>
    refine State.keeps.running hx fun u hu => hu.serveOnce fun v hv => hv.cc ?_
    split
    · split
      · split <;> rfl
      · rfl
    · rfl
  | chainSet body =>
    refine State.keeps.running hx fun u hu => hu.serveOnce fun v hv => hv.cc ?_
    split
    · split
      · split <;> rfl
      · rfl
    · rfl
  | journalRead body =>
    refine State.keeps.running hx fun u hu => hu.serveOnce fun v hv => hv.cc ?_
    split
    · split <;> rfl
    · rfl
  | timeSet body =>
    refine State.keeps.running hx fun u hu => hu.serveOnce fun v hv => hv.cc ?_
    split <;> simp
  | timeQuery body => exact State.keeps.running hx fun u hu => hu.serveOnce fun v hv => hv.cc rfl
  | repeatPrefix body =>
    refine State.keeps.running hx fun u hu => hu.serveOnce fun v hv => hv.cc ?_
    split
    · split <;> rfl
    · rfl
  | reset body =>
    refine State.keeps.running hx fun u hu => hu.serveOnce fun v hv => ?_
    split
    · exact hv.softReset
    · exact hv.cc rfl
  | trunkResetAfterDrain w =>
    refine State.keeps.running hx fun u hu => ?_
    split
    · exact .changed (hu.cc (by simp))
    · exact hu
  | reportSent =>
    refine State.keeps.running hx fun u hu => hu.cc ?_
    split <;> rfl
  | startOctetReceived => exact State.keeps.running hx fun u hu => hu.cc rfl
  | internalSecondBoundary =>
    refine State.keeps.running hx fun u hu => hu.cc ?_
    split <;> rfl

/-- Settles O10: every command keeps the live calls it does not end, and a call that stays is the same call. -/
theorem liveCallKeepsItsIdentity : Obligations.LiveCallKeepsItsIdentity := by
  intro c s t hx p a b ha hb
  obtain ⟨a', ha', hsame, -⟩ := exec_keepsLive c hx p a ha b hb
  rw [ha] at ha'
  cases ha'
  exact hsame

end Sys2Proof.Machine
end

section
/-! Requests of the Post Directory (chapter 3): the store requests (R57, R58) and the edits of a working entry
(R53 to R56). -/

namespace Sys2Proof.Machine

open Sys2Proof

/-! ### Bank checks -/

section Checks

variable {d : Directory} {kind : StoreKind} {b : Fin 3} {l : LineNo}

/-- The bank check of an edit: LOCKED (R54). -/
theorem Directory.editRefusal_of_locked (h : d.locks.get (bankOf l) = true) : d.editRefusal l = some .locked := by
  simp [Directory.editRefusal, h]

/-- The bank check of an edit: BUSY, on a bank that is not locked (R54). -/
theorem Directory.editRefusal_of_busy {op : StoreOp} (h : d.locks.get (bankOf l) = false) (ho : d.operation = some op)
    (hb : op.bank = bankOf l) : d.editRefusal l = some .busy := by
  simp [Directory.editRefusal, h, Directory.busy_eq_true ho hb]

/-- The bank check of an edit passed: an operation on another bank does not hinder it (R54). -/
theorem Directory.editRefusal_of_free (h : d.locks.get (bankOf l) = false)
    (ho : ∀ op, d.operation = some op → op.bank ≠ bankOf l) : d.editRefusal l = none := by
  simp [Directory.editRefusal, h, Directory.busy_eq_false ho]

/-- A bank check of an edit never answers DONE. -/
theorem Directory.editRefusal_ne_done {r : Result} (h : d.editRefusal l = some r) : r ≠ .done := by
  unfold Directory.editRefusal at h
  split at h
  · cases h
    decide
  · split at h
    · cases h
      decide
    · cases h

theorem Directory.storeRefusal_of_no_bank : d.storeRefusal kind none = some .range := rfl

theorem Directory.storeRefusal_of_busy (h : d.operation ≠ none) : d.storeRefusal kind (some b) = some .busy := by
  simp [Directory.storeRefusal, h]

theorem Directory.storeRefusal_of_not_enabled (h : d.operation = none) (hl : d.latch = false) :
    d.storeRefusal kind (some b) = some .notEnabled := by
  simp [Directory.storeRefusal, h, hl]

theorem Directory.storeRefusal_of_locked (h : d.operation = none) (hl : d.latch = true) (hk : kind ≠ .erase)
    (hb : d.locks.get b = true) : d.storeRefusal kind (some b) = some .locked := by
  simp [Directory.storeRefusal, h, hl, hk, hb]

theorem Directory.storeRefusal_of_enabled (h : d.operation = none) (hl : d.latch = true)
    (hb : kind = .erase ∨ d.locks.get b = false) : d.storeRefusal kind (some b) = none := by
  rcases hb with hb | hb <;> simp [Directory.storeRefusal, h, hl, hb]

end Checks

/-! ### DIR ENABLE, COMMIT, LOCK and ERASE (R57, R58) -/

section Store

variable {s : State} {code o : Octet} {kind : StoreKind} {b : Fin 3}

/-- DIR ENABLE that can be taken (R57). -/
theorem exec_dirEnable_ready (h : s.ready 0x16 []) : exec (.dirEnable []) s = .next
    (if s.dir.operation = none then
      { s.answered ⟨0x16, .done, none, .nothing⟩ with dir := { s.dir with latch := true } }
     else s.answered ⟨0x16, .busy, none, .nothing⟩) := by
  change execDirEnable [] s = _
  rw [execDirEnable, State.running_of _ _ h.1, State.serveOnce_ready h rfl]
  rfl

/-- A store request that can be taken is judged by its kind, which gives its duration, and its bank (R58). -/
theorem exec_store_ready {i : Instr} {ms : Nat}
    (hi : i = .dirCommit [o] ∧ code = 0x17 ∧ kind = .commit ∧ ms = 150 ∨
      i = .dirLock [o] ∧ code = 0x18 ∧ kind = .lock ∧ ms = 150 ∨
      i = .dirErase [o] ∧ code = 0x19 ∧ kind = .erase ∧ ms = 400) (h : s.ready code [o]) :
    exec i s = .next ((s.mapLink Link.serving).requestStore code kind [o]) ∧ kind.duration = ms := by
  rcases hi with ⟨rfl, rfl, rfl, rfl⟩ | ⟨rfl, rfl, rfl, rfl⟩ | ⟨rfl, rfl, rfl, rfl⟩
  · change execDirCommit [o] s = _ ∧ _
    rw [execDirCommit, State.running_of _ _ h.1, State.serveOnce_ready h rfl]
    exact ⟨rfl, rfl⟩
  · change execDirLock [o] s = _ ∧ _
    rw [execDirLock, State.running_of _ _ h.1, State.serveOnce_ready h rfl]
    exact ⟨rfl, rfl⟩
  · change execDirErase [o] s = _ ∧ _
    rw [execDirErase, State.running_of _ _ h.1, State.serveOnce_ready h rfl]
    exact ⟨rfl, rfl⟩

/-- A store request refused changes nothing else (R58). -/
theorem State.requestStore_refused {r : Result} (h : s.dir.storeRefusal kind (indexOf 3 o) = some r) :
    s.requestStore code kind [o] = s.answer code r := by
  simp [State.requestStore, h]

/-- A store request accepted puts its operation in flight with its whole duration (R58). -/
theorem State.requestStore_accepted (hb : indexOf 3 o = some b) (h : s.dir.storeRefusal kind (some b) = none) :
    s.requestStore code kind [o] =
      { s with dir := { s.dir with operation := some ⟨b, kind, kind.duration⟩ } }.answer code .accepted := by
  simp [State.requestStore, hb, h]

/-- The octet of a bank number names that bank (R191). -/
theorem indexOf_ofNat_bank (b : Fin 3) : indexOf 3 (BitVec.ofNat 8 b.val) = some b := by
  refine indexOf_eq_some.mpr ?_
  have := b.isLt
  simp only [BitVec.toNat_ofNat]
  omega

theorem indexOf_eq_none {n : Nat} (h : n ≤ o.toNat) : indexOf n o = none := by
  simp [indexOf, Nat.not_lt.mpr h]

end Store

/-- Settles O57: each request is judged by `Directory.storeRefusal`, whose checks come in the order of R58. -/
theorem storeRequestsStartOperations : Obligations.StoreRequestsStartOperations := by
  refine ⟨fun s h => ?_, fun s o code i kind ms hi h => ?_⟩
  · rw [exec_dirEnable_ready h]
    exact ⟨fun ho => by rw [if_pos ho], fun ho => by rw [if_neg ho]⟩
  · obtain ⟨hexec, hms⟩ := exec_store_ready hi h
    have hrefused {r : Result} (hr : s.dir.storeRefusal kind (indexOf 3 o) = some r) :
        exec i s = .next (s.answered ⟨code, r, none, .nothing⟩) := by
      rw [hexec, State.requestStore_refused (s := s.mapLink Link.serving) hr]
      rfl
    refine ⟨fun ho => hrefused (by rw [indexOf_eq_none ho, Directory.storeRefusal_of_no_bank]), fun b hb => ?_⟩
    have hbank : indexOf 3 o = some b := hb ▸ indexOf_ofNat_bank b
    rw [hbank] at hrefused
    refine ⟨fun ho => hrefused (Directory.storeRefusal_of_busy ho),
      fun ho hl => hrefused (Directory.storeRefusal_of_not_enabled ho hl),
      fun ho hl hk hlock => hrefused (Directory.storeRefusal_of_locked ho hl hk hlock), fun ho hl hlock => ?_⟩
    rw [hexec, State.requestStore_accepted (s := s.mapLink Link.serving) hbank
      (Directory.storeRefusal_of_enabled ho hl hlock), hms]
    rfl

/-! ### CAL SET (R54, R56) -/

section CalSet

variable {s : State} {l : LineNo} {line ch g1 g0 o1 o0 : Octet} {cal : Calibration} {ground : Bool}

theorem groundChannelOf_eq_some : groundChannelOf ch = some ground ↔ ch = if ground then 1 else 0 := by
  have h0 : ch = 0 ↔ ch.toNat = 0 := by bv_omega
  have h1 : ch = 1 ↔ ch.toNat = 1 := by bv_omega
  unfold groundChannelOf
  cases ground <;> split <;> simp_all

theorem groundChannelOf_eq_none (h : 2 ≤ ch.toNat) : groundChannelOf ch = none := by
  refine Option.eq_none_iff_forall_ne_some.mpr fun ground hg => ?_
  rw [groundChannelOf_eq_some] at hg
  subst hg
  cases ground <;> simp at h

/-- A CAL SET that can be taken makes its first run. -/
theorem exec_calSet_ready (h : s.ready 0x13 [line, ch, g1, g0, o1, o0]) :
    exec (.calSet [line, ch, g1, g0, o1, o0]) s = .next
      ((s.taken 0x13 [line, ch, g1, g0, o1, o0]).runCalSet [line, ch, g1, g0, o1, o0]) := by
  change execCalSet _ s = _
  rw [execCalSet, State.running_of _ _ h.1, State.serveRuns_ready (len := 6) h rfl]

/-- A run of CAL SET out of range (R53, R56). -/
theorem State.runCalSet_range (h : lineOf line = none ∨ groundChannelOf ch = none ∨ calibrationOf g1 g0 o1 o0 = none) :
    s.runCalSet [line, ch, g1, g0, o1, o0] = s.answerRun 0x13 line .range := by
  unfold State.runCalSet
  dsimp only
  split
  next hl hg hc => simp [hl, hg, hc] at h
  · rfl

/-- A run of CAL SET in range that the bank refuses (R54). -/
theorem State.runCalSet_refused {r : Result} (hg : groundChannelOf ch = some ground)
    (hc : calibrationOf g1 g0 o1 o0 = some cal) (hr : s.dir.editRefusal l = some r) :
    s.runCalSet [lineOctet l, ch, g1, g0, o1, o0] = s.answerRun 0x13 (lineOctet l) r := by
  simp only [State.runCalSet, lineOf_lineOctet, hg, hc, hr]

/-- A run of CAL SET carried out (R56). -/
theorem State.runCalSet_done (hg : groundChannelOf ch = some ground)
    (hc : calibrationOf g1 g0 o1 o0 = some cal) (hr : s.dir.editRefusal l = none) :
    s.runCalSet [lineOctet l, ch, g1, g0, o1, o0] =
      (s.answerRun 0x13 (lineOctet l) .done).setEntry l ((s.dir.working.get l).withCal ground cal) := by
  simp only [State.runCalSet, lineOf_lineOctet, hg, hc, hr]

/-- CAL SET that the bank refuses (R54). -/
theorem exec_calSet_refused {r : Result} (h : s.ready 0x13 [lineOctet l, ch, g1, g0, o1, o0])
    (hg : groundChannelOf ch = some ground) (hc : cal.coded g1 g0 o1 o0) (hr : s.dir.editRefusal l = some r) :
    exec (.calSet [lineOctet l, ch, g1, g0, o1, o0]) s = .next
      (s.firstRun 0x13 (lineOctet l) [lineOctet l, ch, g1, g0, o1, o0] r .nothing) := by
  rw [exec_calSet_ready h, State.runCalSet_refused (s := s.taken _ _) hg (calibrationOf_eq_some.mpr hc) hr,
    State.answerRun_taken _ _ (Directory.editRefusal_ne_done hr)]

/-- CAL SET carried out (R56). -/
theorem exec_calSet_done (h : s.ready 0x13 [lineOctet l, ch, g1, g0, o1, o0]) (hg : groundChannelOf ch = some ground)
    (hc : cal.coded g1 g0 o1 o0) (hr : s.dir.editRefusal l = none) :
    exec (.calSet [lineOctet l, ch, g1, g0, o1, o0]) s = .next
      ((s.firstRun 0x13 (lineOctet l) [lineOctet l, ch, g1, g0, o1, o0] (s.firstResult l) .nothing).setEntry l
        ((s.dir.working.get l).withCal ground cal)) := by
  rw [exec_calSet_ready h, State.runCalSet_done (s := s.taken _ _) hg (calibrationOf_eq_some.mpr hc) hr,
    State.answerRun_taken_done (l := l) _ _ (by simp)]
  rfl

/-- CAL SET out of range, whatever the bank (R53, R54, R56). -/
theorem exec_calSet_range (h : s.ready 0x13 [line, ch, g1, g0, o1, o0])
    (hv : lineOf line = none ∨ groundChannelOf ch = none ∨ calibrationOf g1 g0 o1 o0 = none) :
    exec (.calSet [line, ch, g1, g0, o1, o0]) s = .next
      (s.firstRun 0x13 line [line, ch, g1, g0, o1, o0] .range .nothing) := by
  rw [exec_calSet_ready h, State.runCalSet_range hv, State.answerRun_taken _ _ (by decide)]

end CalSet

/-! ### DIR WRITE (R53 to R55) -/

section DirWrite

variable {s : State} {l : LineNo} {line : Octet} {image : List Octet} {e : Entry}

/-- A DIR WRITE of an image of 27 octets whose values are not in range (R53). -/
theorem exec_dirWrite_range (hl : image.length = 27) (h : s.ready 0x15 (line :: image))
    (hv : lineOf line = none ∨ ∀ e : Entry, ¬ e.coded image) :
    exec (.dirWrite (line :: image)) s = .next (s.answered ⟨0x15, .range, none, .nothing⟩) := by
  change execDirWrite _ s = _
  rw [execDirWrite, State.running_of _ _ h.1, State.serveOnce_ready h (by simp [hl])]
  dsimp only
  split
  · rfl
  next hline =>
    split
    · rfl
    next e he =>
      rcases hv with hv | hv
      · simp [hv] at hline
      · exact absurd ((entryOf_eq_some hl).mp he).1 (hv e)

/-- A DIR WRITE in range that the bank refuses (R54). -/
theorem exec_dirWrite_refused {r : Result} (hl : image.length = 27) (h : s.ready 0x15 (lineOctet l :: image))
    (he : e.coded image) (hr : s.dir.editRefusal l = some r) :
    exec (.dirWrite (lineOctet l :: image)) s = .next (s.answered ⟨0x15, r, none, .nothing⟩) := by
  have hentry : entryOf (s.dir.working.get l).service image =
      some { e with service := (s.dir.working.get l).service } := (entryOf_eq_some hl).mpr ⟨he, rfl⟩
  change execDirWrite _ s = _
  rw [execDirWrite, State.running_of _ _ h.1, State.serveOnce_ready h (by simp [hl])]
  simp only [lineOf_lineOctet, State.mapLink_dir, hentry, hr]
  rfl

/-- A DIR WRITE carried out (R55). -/
theorem exec_dirWrite_done (hl : image.length = 27) (h : s.ready 0x15 (lineOctet l :: image)) (he : e.coded image)
    (hs : e.service = (s.dir.working.get l).service) (hr : s.dir.editRefusal l = none) :
    exec (.dirWrite (lineOctet l :: image)) s = .next ((s.answered ⟨0x15, .done, none, .nothing⟩).setEntry l e) := by
  have hentry : entryOf (s.dir.working.get l).service image = some e := (entryOf_eq_some hl).mpr ⟨he, hs⟩
  change execDirWrite _ s = _
  rw [execDirWrite, State.running_of _ _ h.1, State.serveOnce_ready h (by simp [hl])]
  simp only [lineOf_lineOctet, State.mapLink_dir, hentry, hr]
  rfl

end DirWrite

/-- Settles O56: both requests read their octets as R53 and R56 have them, and then ask the bank. -/
theorem editsChangeTheWorkingEntry : Obligations.EditsChangeTheWorkingEntry := by
  refine ⟨fun s l ch g1 g0 o1 o0 cal hch hc h => ?_, fun s line ch g1 g0 o1 o0 h => ⟨fun hl => ?_, fun l hl hv => ?_⟩,
    fun s l image e hl h he hs => ?_, fun s line image hl h hv => ?_⟩
  · obtain ⟨ground, hg⟩ : ∃ ground, groundChannelOf ch = some ground := by
      rcases hch with rfl | rfl
      · exact ⟨false, rfl⟩
      · exact ⟨true, rfl⟩
    refine ⟨fun hlock ho => ?_,
      fun hlock => exec_calSet_refused h hg hc (Directory.editRefusal_of_locked hlock),
      fun op hlock ho hb => exec_calSet_refused h hg hc (Directory.editRefusal_of_busy hlock ho hb)⟩
    rw [exec_calSet_done h hg hc (Directory.editRefusal_of_free hlock ho)]
    rcases hch with rfl | rfl <;> cases hg <;> rfl
  · have hline := lineOf_eq_none hl
    rw [exec_calSet_range h (.inl hline), State.firstRun_of_no_line _ (by simpa using hline)]
  · refine exec_calSet_range h (.inr (hv.imp groundChannelOf_eq_none fun hc => ?_))
    exact Option.eq_none_iff_forall_ne_some.mpr fun cal hcal => hc cal (calibrationOf_eq_some.mp hcal)
  · exact ⟨fun hlock ho => exec_dirWrite_done hl h he hs (Directory.editRefusal_of_free hlock ho),
      fun hlock => exec_dirWrite_refused hl h he (Directory.editRefusal_of_locked hlock),
      fun op hlock ho hb => exec_dirWrite_refused hl h he (Directory.editRefusal_of_busy hlock ho hb)⟩
  · exact exec_dirWrite_range hl h (hv.imp_left lineOf_eq_none)

end Sys2Proof.Machine
end

section
/-! The Post Directory's loads, completions and snapshots (chapter 3), and the entry image read back (R53). -/

namespace Sys2Proof.Machine

open Sys2Proof

/-! ### Store completions (R59 to R63) -/

section Completions

variable {s : State} {op : StoreOp} (d : Directory) (b : Fin 3) (l : LineNo)

/-- The working table after DONE: erased by a DIR ERASE, within its bank (R61). -/
theorem Directory.completeDone_working : (d.completeDone op).working.get l =
    if op.kind = .erase ∧ bankOf l = op.bank then Entry.erased (d.working.get l).service else d.working.get l := by
  unfold Directory.completeDone
  by_cases hk : op.kind = .erase <;> simp [hk, Directory.eraseBank]

/-- The area of the bank after DONE holds the bank's working entries, checked, and locked by a DIR LOCK (R59 to R61). -/
theorem Directory.completeDone_area : (d.completeDone op).areas.get op.bank =
    ⟨(d.completeDone op).bankEntries op.bank, decide (op.kind = .lock), true⟩ := by
  unfold Directory.completeDone
  by_cases hk : op.kind = .erase <;> simp [hk, Directory.bankEntries]

theorem Directory.bankEntries_get (i : Fin 16) : (d.bankEntries b).get i = d.working.get (lineAt b i) :=
  Table.get_ofFn _ i

/-- DONE clears the STORE FAULT flag of the bank (R62). -/
theorem Directory.completeDone_fault : (d.completeDone op).faults.get op.bank = false := Table.get_set_self _ _ _

theorem Directory.completeDone_lock : (d.completeDone op).locks.get op.bank = decide (op.kind = .lock) :=
  Table.get_set_self _ _ _

/-- DONE leaves the other banks as they were. -/
theorem Directory.completeDone_other {b : Fin 3} (h : b ≠ op.bank) :
    (d.completeDone op).areas.get b = d.areas.get b ∧ (d.completeDone op).locks.get b = d.locks.get b ∧
      (d.completeDone op).faults.get b = d.faults.get b := by
  unfold Directory.completeDone
  by_cases hk : op.kind = .erase <;> simp [hk, h.symm]

/-- After FAULT the area of the bank fails its check (R63). -/
theorem Directory.completeFault_checks : ((d.completeFault op).areas.get op.bank).checks = false := by
  simp [Directory.completeFault]

theorem Directory.completeFault_fault : (d.completeFault op).faults.get op.bank = true := Table.get_set_self _ _ _

theorem Directory.completeFault_lock : (d.completeFault op).locks.get op.bank = false := Table.get_set_self _ _ _

/-- FAULT leaves the other banks as they were. -/
theorem Directory.completeFault_other {b : Fin 3} (h : b ≠ op.bank) :
    (d.completeFault op).areas.get b = d.areas.get b ∧ (d.completeFault op).locks.get b = d.locks.get b ∧
      (d.completeFault op).faults.get b = d.faults.get b := by
  simp [Directory.completeFault, h.symm]

/-- The load of a line: its entry in an area that passes its check, an erased one otherwise (R65). -/
theorem Directory.load_working : d.load.working.get l =
    if (d.areas.get (bankOf l)).checks then (d.areas.get (bankOf l)).entries.get (slotOf l)
    else Entry.erased .unequipped :=
  Table.get_ofFn _ l

/-- A store operation whose time has run out completes with DONE (R62). -/
theorem exec_storeCompletionDone (hh : s.held = false) (ho : s.dir.operation = some op) (hr : op.remaining = 0) :
    exec .storeCompletionDone s = .next
      (({ s with dir := s.dir.completeDone op }.report (.storeDone op.bank op.kind true)).record
        (.store op.bank op.kind true)) := by
  change execStoreCompletionDone s = _
  simp only [execStoreCompletionDone, State.running_of _ _ hh, ho, hr, if_true]

/-- A store operation whose time has run out completes with FAULT (R63). -/
theorem exec_storeCompletionFault (hh : s.held = false) (ho : s.dir.operation = some op) (hr : op.remaining = 0) :
    exec .storeCompletionFault s = .next
      (({ s with dir := s.dir.completeFault op }.report (.storeDone op.bank op.kind false)).record
        (.store op.bank op.kind false)) := by
  change execStoreCompletionFault s = _
  simp only [execStoreCompletionFault, State.running_of _ _ hh, ho, hr, if_true]

end Completions

/-- Settles O42: what `completeDone` and `completeFault` leave of the directory, with the report before the record. -/
theorem storeCompletionsTakeEffect : Obligations.StoreCompletionsTakeEffect := by
  refine ⟨fun s op hh ho hr => ⟨_, exec_storeCompletionDone hh ho hr, ?_⟩,
    fun s op hh ho hr => ⟨_, exec_storeCompletionFault hh ho hr, ?_⟩⟩
  · simp only [State.record_dir, State.report_dir, State.record_lines, State.report_lines, State.record_cc,
      State.report_cc, State.record_ti, State.report_ti]
    refine ⟨rfl, rfl, s.dir.completeDone_fault, s.dir.completeDone_lock, ?_, ?_, fun i => ?_,
      s.dir.completeDone_working, fun b hb => s.dir.completeDone_other hb, trivial, trivial, trivial,
      fun hroom => State.mem_report_record (s := { s with dir := s.dir.completeDone op })
        (Nat.lt_of_add_right_lt hroom),
      fun hj => State.report_record_records (s := { s with dir := s.dir.completeDone op }) hj⟩
    · rw [Directory.completeDone_area]
    · rw [Directory.completeDone_area]
    · rw [Directory.completeDone_area]
      exact Directory.bankEntries_get _ _ i
  · simp only [State.record_dir, State.report_dir, State.record_lines, State.report_lines, State.record_cc,
      State.report_cc, State.record_ti, State.report_ti]
    refine ⟨rfl, rfl, rfl, s.dir.completeFault_fault, s.dir.completeFault_lock, s.dir.completeFault_checks,
      fun b hb => s.dir.completeFault_other hb, fun l hl => ?_, trivial, trivial, trivial,
      fun hroom => State.mem_report_record (s := { s with dir := s.dir.completeFault op })
        (Nat.lt_of_add_right_lt hroom),
      fun hj => State.report_record_records (s := { s with dir := s.dir.completeFault op }) hj⟩
    rw [Directory.load_working, hl, Directory.completeFault_checks]
    rfl

/-! ### The release of a power-on reset (R46, R65, R176, R189) -/

/-- The release of a power-on reset, on any store: the load, the lines placed by it, the POWER-ON record and READY. -/
theorem State.powerOn_released (s : State) : s.powerOn.released =
    { s.powerOn with
      held := false
      dir := s.powerOn.dir.load
      lines := s.powerOn.dir.load.working.map placedLine
      journal := ⟨[⟨1, ⟨0, 0, .unset⟩, .reset .powerOn⟩], 2, 192⟩
      link := { Link.initial with
        service := .waiting
        output := [.report (.ready .powerOn (s.powerOn.dir.load.faults.map not) s.powerOn.dir.load.locks 1)] } } :=
  rfl

/-- Settles O15: the directory as `Directory.load` has it, the lines as `placedLine` has them. -/
theorem powerOnReleaseLoadsAndReportsReady : Obligations.PowerOnReleaseLoadsAndReportsReady := by
  intro s
  refine ⟨s.powerOn.released, rfl, ?_⟩
  rw [s.powerOn_released]
  refine ⟨rfl, fun l => Directory.load_working _ l, fun b => ⟨Table.get_map _ _ b, Table.get_map _ _ b⟩, rfl, rfl, rfl,
    fun l => ?_, rfl, rfl, ?_, rfl⟩
  · have hline : (s.powerOn.dir.load.working.map placedLine).get l = placedLine (s.powerOn.dir.load.working.get l) :=
      Table.get_map _ _ l
    refine ⟨?_, ?_, ?_, Table.get_fill _ l⟩ <;> rw [hline] <;> rfl
  · dsimp only
    rw [Directory.load_faults]

/-! ### The identity snapshot (R66 to R69) -/

/-- The base class of a call that is not MAINTENANCE goes by its post's zone (R69). -/
theorem baseClassOf_of_ne_maintenance {kind : CallKind} (h : kind ≠ .maintenance) (named : Option NamedFields) :
    baseClassOf kind (named.map NamedFields.naming) =
      match named with
      | none => 0
      | some f =>
        match f.naming.zone with
        | .tunnel => 0
        | .structure_ => 1
        | .open_ => 2
        | .depot => 2 := by
  unfold baseClassOf
  rw [if_neg h]
  cases named <;> rfl

/-- The code of four digits against a NAMED entry (R68, checks 4 to 6). -/
theorem verify_digits {e : Entry} {f : NamedFields} {n : Fin 10000} (he : e.named = some f) :
    verify e (.digits n) false =
      if 9000 ≤ n.val then (.maintenance, none)
      else if f.expected = none then (.notChecked, none)
      else if f.expected = some n.val then (.matched, none) else (.mismatch, some .codeMismatch) := by
  unfold verify
  simp only [he, Bool.false_eq_true, if_false]
  split
  · rfl
  · split
    next hx => simp [hx]
    next x hx => simp [hx, eq_comm]

/-- Settles O25: the composition and the verification, check by check in the order of R68. -/
theorem snapshotFollowsEntryAndCode : Obligations.SnapshotFollowsEntryAndCode := by
  refine ⟨?_, fun e code callback he => by simp [verify, he], fun e f n he => ?_⟩
  · rintro e l code callback i rfl
    refine ⟨rfl, rfl, rfl, rfl, rfl, ?_, fun hk => ?_, fun hk => baseClassOf_of_ne_maintenance hk e.named, rfl⟩
    · cases callback <;> cases code <;> rfl
    · exact if_pos hk
  · have hd := verify_digits (n := n) he
    refine ⟨fun code => by simp [verify, he], by simp [verify, he], fun hx => by simp [verify, he, hx],
      fun hx => by simp [verify, he, hx], fun hn => by rw [hd, if_pos hn], fun hn hx => ?_, fun hn hx => ?_,
      fun x hn hx hne => ?_⟩
    all_goals rw [hd, if_neg (Nat.not_le.mpr hn)]
    · rw [if_pos hx]
    · simp [hx]
    · simp [hx, hne]

end Sys2Proof.Machine
end

section
/-! The entry image that DIR READ sends is the image that DIR WRITE reads back (R48, R53, R191). -/

namespace Sys2Proof.Machine

open Sys2Proof

/-! ### Numbers in octets (R191) -/

theorem be16_octets {n : Nat} (h : n < 65536) :
    be16 (BitVec.ofNat 8 (n / 256 ^ 1)) (BitVec.ofNat 8 (n / 256 ^ 0)) = n := by
  simp only [be16, BitVec.toNat_ofNat]
  omega

theorem be24_octets {n : Nat} (h : n < 16777216) :
    be24 (BitVec.ofNat 8 (n / 256 ^ 2)) (BitVec.ofNat 8 (n / 256 ^ 1)) (BitVec.ofNat 8 (n / 256 ^ 0)) = n := by
  simp only [be24, be16, BitVec.toNat_ofNat]
  omega

/-- The four octets of a calibration in range send it (R53, R56). -/
theorem Calibration.coded_octets {c : Calibration} (h : c.inRange) : c.coded
    (BitVec.ofNat 8 (c.gain / 256 ^ 1)) (BitVec.ofNat 8 (c.gain / 256 ^ 0))
    (BitVec.ofNat 8 ((c.offset % 65536).toNat / 256 ^ 1)) (BitVec.ofNat 8 ((c.offset % 65536).toNat / 256 ^ 0)) := by
  have hrange := h
  obtain ⟨-, hgain, -, -⟩ := h
  refine ⟨hrange, be16_octets (by omega), ?_⟩
  rw [be16_octets (by omega)]
  omega

/-- An expected code sent: 0xFFFF for ABSENT (R53). -/
theorem be16_expected {x : Option Nat} (h : ∀ n, x = some n → n ≤ 8999) :
    ∃ hi lo, octetsOrOnes 2 x = [hi, lo] ∧ be16 hi lo = x.getD 65535 := by
  cases x with
  | none => exact ⟨_, _, rfl, rfl⟩
  | some n =>
    have := h n rfl
    exact ⟨_, _, rfl, be16_octets (by omega)⟩

/-! ### The post number (R53, R191) -/

/-- The field of a post number: its characters, padded with 0x00 to eight octets. -/
theorem postOctets_eq {text : List Octet} (h : text.length ≤ 8) :
    postOctets text = text ++ List.replicate (8 - text.length) 0 := by
  rw [postOctets, List.take_append, List.take_of_length_le h, List.take_replicate, Nat.min_eq_left (Nat.sub_le _ _)]

theorem length_postOctets (text : List Octet) : (postOctets text).length = 8 := by simp [postOctets]

/-- A list of eight is its eight items. -/
theorem eq_eight_of_length {α : Type} {xs : List α} (h : xs.length = 8) :
    ∃ a b c d e f g i, xs = [a, b, c, d, e, f, g, i] := by
  match xs, h with
  | [a, b, c, d, e, f, g, i], _ => exact ⟨a, b, c, d, e, f, g, i, rfl⟩

/-! ### The image -/

theorem Carriageway.coded_number (c : Carriageway) :
    ((small (some c.number)).toNat, c) ∈ [(0, Carriageway.a), (1, .b), (2, .link)] := by cases c <;> decide

theorem Zone.coded_number (z : Zone) :
    ((small (some z.number)).toNat, z) ∈ [(0, Zone.tunnel), (1, .structure_), (2, .open_), (3, .depot)] := by
  cases z <;> decide

theorem SetChoice.coded_number (c : SetChoice) :
    ((BitVec.ofNat 8 c.number).toNat, c) ∈ [(0, SetChoice.a), (1, .b)] := by cases c <;> decide

/-- The octet of a bore in range: 1–4 in the TUNNEL zone, 0 elsewhere (R53). -/
theorem NamedFields.toNat_bore (f : NamedFields) (h : f.inRange) :
    (BitVec.ofNat 8 (f.naming.bore.getD 0)).toNat = f.naming.bore.getD 0 := by
  obtain ⟨-, -, -, -, -, htunnel, helsewhere⟩ := h
  by_cases hz : f.naming.zone = .tunnel
  · obtain ⟨b, hb, -, hle⟩ := htunnel hz
    simp only [hb, Option.getD_some, BitVec.toNat_ofNat]
    omega
  · rw [helsewhere hz]
    rfl

/-- The image of an entry in range has 27 octets and sends the entry; in an EMPTY image the naming fields are not looked
at (R53). -/
theorem Entry.coded_octets {e : Entry} (h : e.inRange) : e.octets.length = 27 ∧ e.coded e.octets := by
  obtain ⟨named, wc, ts, lc, gc, sv⟩ := e
  obtain ⟨hnamed, hlc, hgc⟩ := h
  have hwc : (BitVec.ofNat 8 wc.val).toNat = wc.val := by
    have := wc.isLt
    simp only [BitVec.toNat_ofNat]
    omega
  obtain ⟨p0, p1, p2, p3, p4, p5, p6, p7, hpost⟩ :=
    eq_eight_of_length (length_postOctets (((named.map NamedFields.naming).map Naming.post).getD []))
  cases named with
  | none =>
    simp only [Entry.octets, postField, hpost]
    exact ⟨rfl, rfl, hwc, ts.coded_number, Calibration.coded_octets hlc, Calibration.coded_octets hgc⟩
  | some f =>
    have hf : f.inRange := hnamed f rfl
    obtain ⟨-, hlen, -, hexpected, hchainage, -, -⟩ := id hf
    obtain ⟨x1, x0, hx, hbe⟩ := be16_expected hexpected
    rw [Option.map_some, Option.map_some, Option.getD_some, postOctets_eq hlen] at hpost
    simp only [Entry.octets, postField, Option.map_some, Option.getD_some, postOctets_eq hlen, hpost,
      Option.bind_some, hx]
    exact ⟨rfl, ⟨rfl, hf, hpost.symm, hbe, f.naming.carriageway.coded_number, be24_octets (by omega),
      f.naming.zone.coded_number, f.toNat_bore hf⟩, hwc, ts.coded_number, Calibration.coded_octets hlc,
      Calibration.coded_octets hgc⟩

/-- Settles O13: the image sends the entry, and what sends an entry in range is read as it. -/
theorem entryImageReadsBack : Obligations.EntryImageReadsBack := by
  intro e h
  obtain ⟨hl, hc⟩ := Entry.coded_octets h
  exact (entryOf_eq_some hl).mpr ⟨hc, rfl⟩

end Sys2Proof.Machine
end

section
/-! What the calls, the waiting queue, the trunks and the player channels look like from outside: who stands where. Most of
the commands leave all of that as it is, and so do reports, records, desk messages and judgements. -/

namespace Sys2Proof.Machine

open Sys2Proof

/-! ### Stations -/

/-- What says where a call stands, and where in the queue (R71, R72, R79). -/
def Call.station (c : Call) : CallRef × LineNo × CallState × Word32 × Option CallIdentity × Option TrunkNo :=
  (c.ref, c.line, c.state, c.sequence, c.identity, c.trunk)

/-- What says which calls a trunk has, and whether its state goes with its service, its link and its timers (R96, R97). -/
def Trunk.berth (x : Trunk) :
    TrunkService × LinkStatus × TrunkState × Option CallRef × List CallRef × Bool × Bool × Bool × Bool :=
  (x.service, x.link, x.state, x.current, x.stack, x.offerTimer.isSome, x.guardTimer.isSome, x.idleSince.isSome,
    x.draining)

/-- The chain of an ACTIVE channel (R153). -/
def Player.chain : Player → Option (Fin 16)
  | .inactive => none
  | .active ch _ => some ch

theorem Player.chain_eq_none {x : Player} : x.chain = none ↔ x = .inactive := by
  cases x with
  | inactive => exact ⟨fun _ => rfl, fun _ => rfl⟩
  | active ch at_ => exact ⟨nofun, nofun⟩

theorem Player.chain_eq_some {x : Player} {ch : Fin 16} : x.chain = some ch ↔ ∃ at_, x = .active ch at_ := by
  cases x with
  | inactive => exact ⟨nofun, nofun⟩
  | active c at_ => exact ⟨fun h => ⟨at_, by cases h; rfl⟩, fun ⟨_, h⟩ => by cases h; rfl⟩

/-- Calls, trunks and channels stand in `t` as in `s`. -/
structure State.sameStations (s t : State) : Prop where
  calls : ∀ p, (t.cc.calls.get p).map Call.station = (s.cc.calls.get p).map Call.station
  queue : t.cc.queue = s.cc.queue
  nextRef : t.cc.nextRef = s.cc.nextRef
  trunks : ∀ u, (t.trunk u).berth = (s.trunk u).berth
  chains : ∀ p, (t.ap.players.get p).chain = (s.ap.players.get p).chain

/-- What the CC, the trunk records and the player channels hold: more than the stations. -/
def State.callSide (s : State) : CallControl × Table 8 Trunk × Table 48 Player := (s.cc, s.ti.trunks, s.ap.players)

namespace State.sameStations

variable {s t u : State}

theorem refl (s : State) : s.sameStations s := ⟨fun _ => rfl, rfl, rfl, fun _ => rfl, fun _ => rfl⟩

theorem trans (h : s.sameStations t) (g : t.sameStations u) : s.sameStations u where
  calls p := (g.calls p).trans (h.calls p)
  queue := g.queue.trans h.queue
  nextRef := g.nextRef.trans h.nextRef
  trunks w := (g.trunks w).trans (h.trunks w)
  chains p := (g.chains p).trans (h.chains p)

theorem of_cc_ti_ap (hcc : t.cc = s.cc) (hti : t.ti.trunks = s.ti.trunks) (hap : t.ap.players = s.ap.players) :
    s.sameStations t where
  calls p := by rw [hcc]
  queue := by rw [hcc]
  nextRef := by rw [hcc]
  trunks w := by rw [State.trunk, hti]; rfl
  chains p := by rw [hap]

theorem of_callSide (h : t.callSide = s.callSide) : s.sameStations t := by
  simp only [State.callSide, Prod.mk.injEq] at h
  obtain ⟨hcc, hti, hap⟩ := h
  exact of_cc_ti_ap hcc hti hap

/-- What leaves the CC, the trunk records and the channels alone leaves the stations as they were. -/
theorem side (h : s.sameStations t) (hu : u.callSide = t.callSide) : s.sameStations u := h.trans (of_callSide hu)

/-- One trunk record written with the same berth, the calls and the channels left alone. -/
theorem of_berth {w : TrunkNo} {x : Trunk} (hcc : t.cc = s.cc) (hap : t.ap.players = s.ap.players)
    (ht : t.ti.trunks = s.ti.trunks.set w x) (hx : x.berth = (s.trunk w).berth) : s.sameStations t where
  calls _ := by rw [hcc]
  queue := by rw [hcc]
  nextRef := by rw [hcc]
  trunks v := by
    rw [State.trunk, ht, Table.get_set]
    split
    next hv => rw [hx, hv]
    next => rfl
  chains _ := by rw [hap]

theorem setTrunk {w : TrunkNo} {x : Trunk} (h : s.sameStations t) (hx : x.berth = (t.trunk w).berth) :
    s.sameStations (t.setTrunk w x) := h.trans (of_berth rfl rfl rfl hx)

theorem setCall {p : LineNo} {a b : Call} (h : s.sameStations t) (ha : t.cc.calls.get p = some a)
    (hb : b.station = a.station) : s.sameStations (t.setCall p (some b)) :=
  h.trans
    { calls := fun q => by
        rw [State.setCall_cc, Table.get_set]
        split
        next hq => rw [← hq, ha, Option.map_some, Option.map_some, hb]
        next => rfl
      queue := rfl
      nextRef := rfl
      trunks := fun _ => rfl
      chains := fun _ => rfl }

end State.sameStations

/-! ### Operations that leave the calls, the trunks and the channels alone -/

section Sides

variable (s : State)

@[simp] theorem State.report_callSide (r : Report) : (s.report r).callSide = s.callSide := by simp [State.callSide]

@[simp] theorem State.reply_callSide (r : Reply) : (s.reply r).callSide = s.callSide := rfl

@[simp] theorem State.record_callSide (k : RecordKind) : (s.record k).callSide = s.callSide := by simp [State.callSide]

@[simp] theorem State.judgeNoTrunk_callSide : s.judgeNoTrunk.callSide = s.callSide := by
  unfold State.judgeNoTrunk
  dsimp only
  split
  · exact State.report_callSide _ _
  · split
    · exact State.report_callSide _ _
    · rfl

@[simp] theorem State.setTime_callSide (b : TimeBase) : (s.setTime b).callSide = s.callSide := by
  unfold State.setTime
  dsimp only
  split
  · rfl
  · exact State.report_callSide _ _

@[simp] theorem State.takeResult_callSide (l : LineNo) (r : EvalResult) : (s.takeResult l r).callSide = s.callSide := by
  change (s.takeResult l r).besideLsc.callSide = s.besideLsc.callSide
  rw [State.takeResult_besideLsc]

@[simp] theorem State.evaluateWhere_callSide (e : LineSample) (due : LineRecord → EvalResult → Bool) :
    (s.evaluateWhere e due).callSide = s.callSide := by
  obtain h | ⟨m, r, -, -, h⟩ := s.evaluateWhere_cases e due
  · rw [h]
  · rw [h, State.takeResult_callSide]
    rfl

@[simp] theorem State.takeCallEnded_callSide (l : LineNo) : (s.takeCallEnded l).callSide = s.callSide := by
  unfold State.takeCallEnded
  dsimp only
  split
  · split <;> rfl
  · split <;> rfl
  · split <;> rfl
  · rfl

@[simp] theorem State.requestStore_callSide (code : Octet) (kind : StoreKind) (body : List Octet) :
    (s.requestStore code kind body).callSide = s.callSide := by
  unfold State.requestStore
  dsimp only
  split <;> rfl

@[simp] theorem State.recordAndReady_callSide (k : ResetKind) : (s.recordAndReady k).callSide = s.callSide := by
  simp [State.recordAndReady, State.callSide]

@[simp] theorem State.released_callSide : s.released.callSide = s.callSide := State.recordAndReady_callSide _ _

@[simp] theorem State.applyLineSet_callSide (l : LineNo) (v : LineService) :
    (s.applyLineSet l v).callSide = s.callSide := by
  unfold State.applyLineSet
  dsimp only
  split <;> rfl

@[simp] theorem State.runLineQuery_callSide (body : List Octet) : (s.runLineQuery body).callSide = s.callSide := by
  unfold State.runLineQuery
  split
  · split
    · rfl
    · dsimp only
      split <;> rfl
  · rfl

@[simp] theorem State.runLineSet_callSide (body : List Octet) : (s.runLineSet body).callSide = s.callSide := by
  unfold State.runLineSet
  split
  · split
    · split
      · rfl
      · exact State.applyLineSet_callSide _ _ _
    · rfl
  · rfl

@[simp] theorem State.runLineTest_callSide (body : List Octet) : (s.runLineTest body).callSide = s.callSide := by
  unfold State.runLineTest
  split
  · split <;> rfl
  · rfl

@[simp] theorem State.runCalSet_callSide (body : List Octet) : (s.runCalSet body).callSide = s.callSide := by
  unfold State.runCalSet
  split
  · split
    · split <;> rfl
    · rfl
  · rfl

@[simp] theorem State.runDirRead_callSide (body : List Octet) : (s.runDirRead body).callSide = s.callSide := by
  unfold State.runDirRead
  split
  · split <;> rfl
  · rfl

@[simp] theorem State.runAgain_callSide (code : Octet) (body : List Octet) :
    (s.runAgain code body).callSide = s.callSide := by
  unfold State.runAgain
  split <;> simp

@[simp] theorem State.afterReply_callSide (r : Reply) : (s.afterReply r).callSide = s.callSide := by
  unfold State.afterReply
  split
  · rfl
  · split
    · rfl
    · split
      · exact State.runAgain_callSide _ _ _
      · rfl

end Sides

end Sys2Proof.Machine
end

section
/-! The commands that leave every call, every trunk and every channel where it stands, and the millisecond. -/

namespace Sys2Proof.Machine

open Sys2Proof

/-- The commands that can give a call, a trunk or a channel another station. -/
def movesCalls : Instr → Bool
  | .powerOnReset | .seizure _ | .codeResult _ _ | .offHookAtStart _ | .lockoutExpiry _ | .hangUp _ | .lineLost _
  | .lineFault _ _ | .answered _ | .aging _ | .trunkFrameReceived _ _ | .accept _ _ | .decline _ _ | .release _ _
  | .hold _ _ | .retrieve _ | .callback _ _ | .offerTimerExpiry _ | .guardTimerExpiry _ | .minimumHoldServed _
  | .preemptionTimerExpiry _ | .ringingTimeout _ | .paramSetAgingPeriod _ | .paramSetEscalationThreshold _
  | .paramSetMinimumHold _ | .clearCall _ | .trunkSet _ | .reset _ | .trunkResetAfterDrain _ => true
  | _ => false

/-- A message for a desk joins a transmit list, and no more (R106). -/
theorem State.sendDesk_sameStations (s : State) (u : TrunkNo) (m : DeskMessage) : s.sameStations (s.sendDesk u m) := by
  obtain ⟨x, hx, hframe, -⟩ := State.sendDesk_eq_setTrunk s u m
  rw [hx]
  refine .of_berth rfl rfl rfl (x := x) ?_
  rw [hframe]
  rfl

theorem State.sendIdent_sameStations (s : State) (u : TrunkNo) (p : LineNo) : s.sameStations (s.sendIdent u p) := by
  unfold State.sendIdent
  split
  · exact State.sendDesk_sameStations s u _
  · exact .refl s

/-- A channel that sounds a block keeps its chain (R153). -/
theorem AudioPlayer.advanced_chain (a : AudioPlayer) (x : Player) : (a.advanced x).chain = x.chain := by
  cases x with
  | inactive => rfl
  | active ch at_ => cases at_ <;> rfl

namespace State.sameStations

variable {s t : State}

theorem sendDesk (h : s.sameStations t) (u : TrunkNo) (m : DeskMessage) : s.sameStations (t.sendDesk u m) :=
  h.trans (State.sendDesk_sameStations t u m)

theorem running {f : State → State} (hx : s.running f = .next t) (hf : ∀ v, s.sameStations v → s.sameStations (f v)) :
    s.sameStations t := State.running_keeps hf (refl s) hx

theorem serveOnce {code : Octet} {allowed : Nat → Bool} {body : List Octet} {g : State → State}
    (h : s.sameStations t) (hg : ∀ v, s.sameStations v → s.sameStations (g v)) :
    s.sameStations (t.serveOnce code allowed body g) :=
  State.serveOnce_keeps (fun _ _ hv => hv.side rfl) hg h

theorem serveRuns {code : Octet} {len : Nat} {body : List Octet} {run : List Octet → State → State}
    (h : s.sameStations t) (hr : ∀ v, (run body v).callSide = v.callSide) :
    s.sameStations (t.serveRuns code len body run) :=
  State.serveRuns_keeps (fun _ _ hv => hv.side rfl) (fun v hv => hv.side (hr v)) h

theorem setParam {α : Type} {id : Octet} {value : List Octet} {check : List Octet → Option α}
    {apply : α → State → State} (h : s.sameStations t) (ha : ∀ a v, (apply a v).callSide = v.callSide) :
    s.sameStations (t.setParam id value check apply) :=
  State.setParam_keeps (fun _ _ hv => hv.side rfl) (fun a v hv => hv.side (ha a v)) h

theorem takeDesk {w : TrunkNo} {q : DeskRequest} {f : State → State} (h : s.sameStations t)
    (hf : ∀ v, s.sameStations v → s.sameStations (f v)) : s.sameStations (t.takeDesk w q f) :=
  State.takeDesk_keeps (fun _ _ hv => hv.setTrunk rfl) hf h

end State.sameStations

/-- A command that moves no call leaves every station as it was. -/
theorem exec_sameStations {s t : State} (c : Instr) (hm : movesCalls c = false) (hx : exec c s = .next t) :
    s.sameStations t := by
  unfold exec at hx
  cases c with
  | powerOnReset | seizure | codeResult | offHookAtStart | lockoutExpiry | hangUp | lineLost | lineFault | answered
  | aging | trunkFrameReceived | accept | decline | release | hold | retrieve | callback | offerTimerExpiry
  | guardTimerExpiry | minimumHoldServed | preemptionTimerExpiry | ringingTimeout | paramSetAgingPeriod
  | paramSetEscalationThreshold | paramSetMinimumHold | clearCall | trunkSet | reset | trunkResetAfterDrain =>
    exact absurd hm (by nofun)
  | powerOnResetRelease =>
    cases hx
    split
    · exact .of_callSide s.released_callSide
    · exact .refl s
  | samplePair l x y =>
    refine .running hx fun u hu => hu.side ?_
    split
    · rfl
    · split
      · rfl
      · exact State.takeResult_callSide _ _ _
  | codeTimerExpiry e => exact .running hx fun u hu => hu.side (u.evaluateWhere_callSide _ _)
  | lockoutCountExpiry e => exact .running hx fun u hu => hu.side (u.evaluateWhere_callSide _ _)
  | ringPhaseChange e => exact .running hx fun u hu => hu.side (u.evaluateWhere_callSide _ _)
  | callEnded l => exact .running hx fun u hu => hu.side (State.takeCallEnded_callSide _ l)
  | trunkFrameSent w => exact .running hx fun u hu => hu.trans (.of_berth rfl rfl rfl rfl)
  | identRequest w r =>
    refine .running hx fun u hu => hu.takeDesk fun v hv => ?_
    dsimp only
    split
    · split
      · exact hv.trans (State.sendIdent_sameStations _ _ _)
      · exact hv.sendDesk _ _
    · exact hv.sendDesk _ _
  | holdReminder r =>
    refine .running hx fun u hu => ?_
    split
    · split
      next c hc =>
        split
        · split
          · refine .sendDesk (.setCall hu hc ?_) _ _
            rfl
          · exact hu
        · exact hu
      · exact hu
    · exact hu
  | audioBlockTick bs =>
    refine .running hx fun u hu => hu.trans ⟨fun _ => rfl, rfl, rfl, fun _ => rfl, fun p => ?_⟩
    exact (congrArg Player.chain (Table.get_map _ _ p)).trans (u.ap.advanced_chain _)
  | secondPulse => exact .running hx fun u hu => hu.side (u.setTime_callSide _)
  | pulseWatchdogExpiry =>
    refine .running hx fun u hu => hu.side ?_
    split
    · split
      · exact State.setTime_callSide _ _
      · rfl
    · rfl
  | storeCompletionDone =>
    refine .running hx fun u hu => hu.side ?_
    split
    · split
      · rw [State.record_callSide, State.report_callSide]
        rfl
      · rfl
    · rfl
  | storeCompletionFault =>
    refine .running hx fun u hu => hu.side ?_
    split
    · split
      · rw [State.record_callSide, State.report_callSide]
        rfl
      · rfl
    · rfl
  | frameReceived os => exact .running hx fun u hu => hu.side rfl
  | interOctetTimeout => exact .running hx fun u hu => hu.side rfl
  | replySent =>
    refine .running hx fun u hu => hu.side ?_
    split
    · exact State.afterReply_callSide _ _
    · rfl
  | unknownRequest code body =>
    refine .running hx fun u hu => ?_
    split
    · exact State.serve_keeps (fun _ _ hv => hv.side rfl) (fun _ hv => hv.side rfl) hu
    · exact hu
  | status body => exact .running hx fun u hu => hu.serveOnce fun v hv => hv.side rfl
  | paramSetThresholdSet setB value => exact .running hx fun u hu => hu.setParam fun a v => rfl
  | paramSetOfferTime value => exact .running hx fun u hu => hu.setParam fun n v => rfl
  | paramSetGuardTime value => exact .running hx fun u hu => hu.setParam fun n v => rfl
  | paramSetHoldChain value => exact .running hx fun u hu => hu.setParam fun a v => rfl
  | paramSetWarningChain value => exact .running hx fun u hu => hu.setParam fun a v => rfl
  | paramSetJournalThreshold value => exact .running hx fun u hu => hu.setParam fun a v => rfl
  | paramQuery body => exact .running hx fun u hu => hu.serveOnce fun v hv => hv.side rfl
  | lineQuery body => exact .running hx fun u hu => hu.serveRuns fun v => v.runLineQuery_callSide body
  | lineSet body => exact .running hx fun u hu => hu.serveRuns fun v => v.runLineSet_callSide body
  | lineTest body => exact .running hx fun u hu => hu.serveRuns fun v => v.runLineTest_callSide body
  | calSet body => exact .running hx fun u hu => hu.serveRuns fun v => v.runCalSet_callSide body
  | dirRead body => exact .running hx fun u hu => hu.serveRuns fun v => v.runDirRead_callSide body
  | dirWrite body =>
    refine .running hx fun u hu => hu.serveOnce fun v hv => hv.side ?_
    split
    · split
      · rfl
      · split
        · rfl
        · split <;> rfl
    · rfl
  | dirEnable body =>
    refine .running hx fun u hu => hu.serveOnce fun v hv => hv.side ?_
    split <;> rfl
  | dirCommit body => exact .running hx fun u hu => hu.serveOnce fun v hv => hv.side (v.requestStore_callSide _ _ _)
  | dirLock body => exact .running hx fun u hu => hu.serveOnce fun v hv => hv.side (v.requestStore_callSide _ _ _)
  | dirErase body => exact .running hx fun u hu => hu.serveOnce fun v hv => hv.side (v.requestStore_callSide _ _ _)
  | callList body =>
    refine .running hx fun u hu => hu.serveOnce fun v hv => hv.side ?_
    split
    · split <;> rfl
    · rfl
  | callQuery body =>
    refine .running hx fun u hu => hu.serveOnce fun v hv => hv.side ?_
    split
    · split
      · rfl
      · split <;> rfl
    · rfl
  | clearArm body =>
    refine .running hx fun u hu => hu.serveOnce fun v hv => hv.side ?_
    split
    · split
      · rfl
      · split <;> rfl
    · rfl
  | trunkQuery body =>
    refine .running hx fun u hu => hu.serveOnce fun v hv => ?_
    split
    · split
      · exact hv.trans (.of_berth rfl rfl rfl rfl)
      · exact hv.side rfl
    · exact hv.side rfl
  | promptWrite body =>
    refine .running hx fun u hu => hu.serveOnce fun v hv => hv.side ?_
    split
    · split <;> rfl
    · rfl
  | clipSet body =>
    refine .running hx fun u hu => hu.serveOnce fun v hv => hv.side ?_
    split
    · split
      · split <;> rfl
      · rfl
    · rfl
  | chainSet body =>
    refine .running hx fun u hu => hu.serveOnce fun v hv => hv.side ?_
    split
    · split
      · split <;> rfl
      · rfl
    · rfl
  | journalRead body =>
    refine .running hx fun u hu => hu.serveOnce fun v hv => hv.side ?_
    split
    · split <;> rfl
    · rfl
  | timeSet body =>
    refine .running hx fun u hu => hu.serveOnce fun v hv => hv.side ?_
    split
    · exact State.setTime_callSide _ _
    · rfl
  | timeQuery body => exact .running hx fun u hu => hu.serveOnce fun v hv => hv.side rfl
  | repeatPrefix body =>
    refine .running hx fun u hu => hu.serveOnce fun v hv => hv.side ?_
    split
    · split <;> rfl
    · rfl
  | reportSent =>
    refine .running hx fun u hu => hu.side ?_
    split <;> rfl
  | startOctetReceived => exact .running hx fun u hu => hu.side rfl
  | internalSecondBoundary =>
    refine .running hx fun u hu => hu.side ?_
    split <;> rfl

/-- A timer at a lower count runs on. -/
theorem Trunk.tick_berth (x : Trunk) : x.tick.berth = x.berth := by
  simp [Trunk.berth, Trunk.tick]

/-- A millisecond leaves every station as it was. -/
theorem State.idle_sameStations (s : State) : s.sameStations s.idle := by
  unfold State.idle
  split
  · exact .refl s
  · refine ⟨fun p => ?_, rfl, rfl, fun u => ?_, fun _ => rfl⟩
    · change ((s.cc.calls.map (Option.map Call.tick)).get p).map _ = _
      rw [Table.get_map, Option.map_map]
      rfl
    · change ((s.ti.trunks.map Trunk.tick).get u).berth = _
      rw [Table.get_map, Trunk.tick_berth]
      rfl

end Sys2Proof.Machine
end

section
/-! References are never 0 and are distinct, and no line has two live calls (R72, R73): the operations that end or change
calls keep that, and a new call takes a reference that no live call holds. -/

namespace Sys2Proof.Machine

open Sys2Proof

/-! ### The reference that the next call may take -/

section NextRef

variable (s : State)

@[simp] theorem State.judgeNoTrunk_nextRef : s.judgeNoTrunk.cc.nextRef = s.cc.nextRef := by simp

theorem State.passedTo.nextRef {t : State} (h : s.passedTo t) : t.cc.nextRef = s.cc.nextRef :=
  show t.besidePass.cc.nextRef = s.besidePass.cc.nextRef by rw [h.beside]

@[simp] theorem State.examine_nextRef : s.examine.cc.nextRef = s.cc.nextRef := s.examine_passedTo.nextRef

@[simp] theorem State.pass_nextRef : s.pass.cc.nextRef = s.cc.nextRef := s.pass_passedTo.nextRef

@[simp] theorem State.changed_nextRef : s.changed.cc.nextRef = s.cc.nextRef := s.changed_passedTo.nextRef

@[simp] theorem State.enqueue_nextRef (p : LineNo) : (s.enqueue p).cc.nextRef = s.cc.nextRef := by
  unfold State.enqueue
  split <;> rfl

@[simp] theorem State.enterWaiting_nextRef (p : LineNo) : (s.enterWaiting p).cc.nextRef = s.cc.nextRef := by
  unfold State.enterWaiting
  split
  · rfl
  · dsimp only
    split
    · simp
    · split <;> simp

@[simp] theorem State.identify_nextRef (p : LineNo) (code : ReceivedCode) (b : Bool) :
    (s.identify p code b).cc.nextRef = s.cc.nextRef := by
  unfold State.identify
  split <;> simp

@[simp] theorem State.connect_nextRef (p : LineNo) (u : TrunkNo) : (s.connect p u).cc.nextRef = s.cc.nextRef := rfl

@[simp] theorem State.removeCall_nextRef (c : Call) : (s.removeCall c).cc.nextRef = s.cc.nextRef := by
  unfold State.removeCall
  split <;> rfl

@[simp] theorem State.endCall_nextRef (p : LineNo) (k : Cause) : (s.endCall p k).cc.nextRef = s.cc.nextRef := by
  unfold State.endCall
  split
  · rfl
  · dsimp only
    split <;> split <;> simp

@[simp] theorem State.handBack_nextRef (r : CallRef) (b : Bool) : (s.handBack r b).cc.nextRef = s.cc.nextRef := by
  unfold State.handBack
  split <;> simp

@[simp] theorem State.endOffer_nextRef (u : TrunkNo) (r : CallRef) (k : Cause) :
    (s.endOffer u r k).cc.nextRef = s.cc.nextRef := by simp [State.endOffer]

@[simp] theorem State.rescue_nextRef (r : CallRef) : (s.rescue r).cc.nextRef = s.cc.nextRef := by
  unfold State.rescue
  split
  · rfl
  · split <;> simp

@[simp] theorem State.linkLoss_nextRef (u : TrunkNo) : (s.linkLoss u).cc.nextRef = s.cc.nextRef := by
  unfold State.linkLoss
  dsimp only
  split
  · simp
  · rw [State.changed_nextRef, foldl_same (fun t : State => t.cc.nextRef) State.rescue State.rescue_nextRef]
    simp

@[simp] theorem State.linkUp_nextRef (u : TrunkNo) : (s.linkUp u).cc.nextRef = s.cc.nextRef := by
  unfold State.linkUp
  dsimp only
  split <;> simp

@[simp] theorem State.badFrame_nextRef (u : TrunkNo) : (s.badFrame u).cc.nextRef = s.cc.nextRef := by
  unfold State.badFrame
  dsimp only
  split <;> simp

@[simp] theorem State.goodFrame_nextRef (u : TrunkNo) (f : TrunkFrame) :
    (s.goodFrame u f).cc.nextRef = s.cc.nextRef := by
  unfold State.goodFrame
  dsimp only
  split
  · simp
  · split <;> simp

@[simp] theorem State.ageCall_nextRef (p : LineNo) : (s.ageCall p).cc.nextRef = s.cc.nextRef := by
  unfold State.ageCall
  split
  · rfl
  · dsimp only
    split <;> simp

@[simp] theorem State.foldl_ageIfDue_nextRef (ps : List LineNo) (a : State × Bool) :
    (ps.foldl State.ageIfDue a).1.cc.nextRef = a.1.cc.nextRef := by
  induction ps generalizing a with
  | nil => rfl
  | cons p ps ih =>
    rw [List.foldl_cons, ih]
    unfold State.ageIfDue
    split
    · split
      · exact State.ageCall_nextRef _ p
      · rfl
    · rfl

@[simp] theorem State.retrieveTop_nextRef (u : TrunkNo) (r : CallRef) :
    (s.retrieveTop u r).cc.nextRef = s.cc.nextRef := by
  unfold State.retrieveTop
  split <;> simp

@[simp] theorem State.takeCall_nextRef (u : TrunkNo) (p : LineNo) (r : CallRef) :
    (s.takeCall u p r).cc.nextRef = s.cc.nextRef := by simp [State.takeCall]

@[simp] theorem State.clearCall_nextRef (armed : Option CallRef) (r : CallRef) :
    (s.clearCall armed r).cc.nextRef = s.cc.nextRef := by
  unfold State.clearCall
  split
  · split <;> simp
  · simp

@[simp] theorem State.applyService_nextRef (u : TrunkNo) (v : TrunkService) :
    (s.applyService u v).cc.nextRef = s.cc.nextRef := by
  unfold State.applyService
  dsimp only
  split
  · split <;> simp
  · rfl
  · rfl
  · split <;> simp
  · simp

@[simp] theorem State.applyTrunkSet_nextRef (u : TrunkNo) (v : TrunkService) (g : TrunkGroup) :
    (s.applyTrunkSet u v g).cc.nextRef = s.cc.nextRef := by
  unfold State.applyTrunkSet
  dsimp only
  split <;> simp

@[simp] theorem State.endAll_nextRef (n : Nat) : (s.endAll n).cc.nextRef = s.cc.nextRef := by
  induction n generalizing s with
  | zero => rfl
  | succ n ih =>
    unfold State.endAll
    split
    · rw [ih, State.endCall_nextRef]
    · rfl

@[simp] theorem State.softReset_nextRef : s.softReset.cc.nextRef = s.cc.nextRef := by
  obtain ⟨trunks, receive, send, slips, h⟩ := s.beforeReady_eq
  have hsoft : s.softReset = s.beforeReady.recordAndReady .soft := rfl
  rw [hsoft, State.recordAndReady_cc]
  have hnext := congrArg (fun t : State => t.cc.nextRef) h
  exact hnext

end NextRef

/-! ### References and lines kept distinct -/

section Sound

variable {s t : State} {p : LineNo}

/-- What ends calls or changes them in their places keeps references and lines distinct (R72, R73). -/
theorem State.callsSound.of_keeps (h : s.callsSound) (hk : s.keeps t) (hn : t.cc.nextRef = s.cc.nextRef) :
    t.callsSound := by
  obtain ⟨hnext, hzero, huniq⟩ := h
  refine ⟨hn ▸ hnext, fun p b hb => ?_, fun p q b d hb hd hbd => ?_⟩
  · obtain ⟨a, ha, ⟨href, -⟩, -⟩ := hk p b hb
    rw [href]
    exact hzero p a ha
  · obtain ⟨a, ha, ⟨haref, haline, -⟩, -⟩ := hk p b hb
    obtain ⟨e, he, ⟨heref, heline, -⟩, -⟩ := hk q d hd
    rw [haref, haline, heref, heline] at hbd
    exact huniq p q a e ha he hbd

/-- References and lines are part of a call's station. -/
theorem State.callsSound.of_sameStations (h : s.callsSound) (hst : s.sameStations t) : t.callsSound := by
  have hback {p : LineNo} {b : Call} (hb : t.cc.calls.get p = some b) :
      ∃ a, s.cc.calls.get p = some a ∧ b.station = a.station := by
    have := hst.calls p
    rw [hb, Option.map_some, eq_comm, Option.map_eq_some_iff] at this
    obtain ⟨a, ha, hab⟩ := this
    exact ⟨a, ha, hab.symm⟩
  obtain ⟨hnext, hzero, huniq⟩ := h
  refine ⟨hst.nextRef ▸ hnext, fun p b hb => ?_, fun p q b d hb hd hbd => ?_⟩
  · obtain ⟨a, ha, hab⟩ := hback hb
    simp only [Call.station, Prod.mk.injEq] at hab
    rw [hab.1]
    exact hzero p a ha
  · obtain ⟨a, ha, hab⟩ := hback hb
    obtain ⟨e, he, hde⟩ := hback hd
    simp only [Call.station, Prod.mk.injEq] at hab hde
    rw [hab.1, hab.2.1, hde.1, hde.2.1] at hbd
    exact huniq p q a e ha he hbd

theorem State.callsSound.of_cc (h : s.callsSound) (hcc : t.cc = s.cc) : t.callsSound := by
  unfold State.callsSound
  rwa [hcc]

end Sound

/-! ### A new call's reference (R73) -/

theorem refAfter_ne_zero {r : CallRef} (h : r ≠ 0) : refAfter r ≠ 0 := by
  unfold refAfter
  split <;> bv_omega

/-- The references met in a search of `n` steps from `r` on (R73). -/
def refsFrom : Nat → CallRef → List CallRef
  | 0, _ => []
  | n + 1, r => r :: refsFrom n (refAfter r)

theorem refsFrom_length (n : Nat) (r : CallRef) : (refsFrom n r).length = n := by
  induction n generalizing r with
  | zero => rfl
  | succ n ih => simp [refsFrom, ih]

/-- The place of a reference in the order that starts at 1 and goes round after 65535 (R73). -/
def refIndex (r : CallRef) : Nat := r.toNat - 1

theorem refIndex_refAfter {r : CallRef} (h : r ≠ 0) : refIndex (refAfter r) = (refIndex r + 1) % 65535 := by
  unfold refAfter refIndex
  split
  · next hr => rw [hr]; rfl
  · next hr =>
    have h0 : r.toNat ≠ 0 := fun e => h (by bv_omega)
    have : (r + 1).toNat = r.toNat + 1 := by bv_omega
    have := r.isLt
    omega

theorem refIndex_lt {r : CallRef} (h : r ≠ 0) : refIndex r < 65535 := by
  have h0 : r.toNat ≠ 0 := fun e => h (by bv_omega)
  have := r.isLt
  unfold refIndex
  omega

/-- A search meets the references in turn (R73). -/
theorem mem_refsFrom {n : Nat} {r a : CallRef} (h : r ≠ 0) (ha : a ∈ refsFrom n r) :
    ∃ i < n, refIndex a = (refIndex r + i) % 65535 := by
  induction n generalizing r with
  | zero => cases ha
  | succ n ih =>
    rcases List.mem_cons.mp ha with rfl | ha
    · exact ⟨0, by omega, (Nat.mod_eq_of_lt (refIndex_lt h)).symm⟩
    · obtain ⟨i, hi, hidx⟩ := ih (refAfter_ne_zero h) ha
      refine ⟨i + 1, by omega, ?_⟩
      rw [hidx, refIndex_refAfter h]
      omega

theorem refsFrom_ne_zero {n : Nat} {r a : CallRef} (h : r ≠ 0) (ha : a ∈ refsFrom n r) : a ≠ 0 := by
  induction n generalizing r with
  | zero => cases ha
  | succ n ih =>
    rcases List.mem_cons.mp ha with rfl | ha
    · exact h
    · exact ih (refAfter_ne_zero h) ha

/-- The search never comes back to where it began (R73). -/
theorem not_mem_refsFrom_refAfter {n : Nat} {r : CallRef} (hn : n < 65535) : r ∉ refsFrom n (refAfter r) := by
  intro hin
  by_cases h : r = 0
  · subst h
    exact refsFrom_ne_zero (by decide) hin rfl
  · obtain ⟨i, hi, hidx⟩ := mem_refsFrom (refAfter_ne_zero h) hin
    have := refIndex_lt h
    rw [refIndex_refAfter h] at hidx
    omega

/-- The first 48 references met are different ones (R73). -/
theorem refsFrom_nodup {n : Nat} (r : CallRef) (hn : n ≤ 65535) : (refsFrom n r).Nodup := by
  induction n generalizing r with
  | zero => exact List.nodup_nil
  | succ n ih => exact List.nodup_cons.mpr ⟨not_mem_refsFrom_refAfter hn, ih _ (by omega)⟩

theorem freshRef_ne_zero (live : CallRef → Bool) (n : Nat) {r : CallRef} (h : r ≠ 0) : freshRef live n r ≠ 0 := by
  induction n generalizing r with
  | zero => exact h
  | succ n ih =>
    unfold freshRef
    split
    · exact ih (refAfter_ne_zero h)
    · exact h

/-- A search that finds no free reference has met held ones only (R73). -/
theorem live_of_live_freshRef {live : CallRef → Bool} {n : Nat} {r : CallRef} (h : live (freshRef live n r) = true) :
    ∀ a ∈ refsFrom n r, live a = true := by
  induction n generalizing r with
  | zero => nofun
  | succ n ih =>
    unfold freshRef at h
    split at h
    next hl => exact fun a ha => (List.mem_cons.mp ha).elim (fun e => e ▸ hl) (ih h a)
    next hl => exact absurd h hl

section NewCall

variable {s : State} {p : LineNo}

/-- With a place free, at most 47 calls are live (R72). -/
theorem State.liveCalls_lt_of_free (h : s.cc.calls.get p = none) : s.liveCalls.length < 48 := by
  rw [State.liveCalls]
  refine lt_of_lt_of_eq (List.length_filterMap_lt_length_iff_exists.mpr ⟨none, ?_, rfl⟩) s.cc.calls.full
  exact h ▸ Table.get_mem _ p

/-- A new call takes a reference that no live call holds (R73). -/
theorem State.newCall_ref_unheld (hp : s.cc.calls.get p = none) (l : LineNo) (st : CallState) {q : LineNo} {d : Call}
    (hd : s.cc.calls.get q = some d) : d.ref ≠ (s.newCall l st).ref := fun href => by
  set live : CallRef → Bool := fun r => s.liveCalls.any fun c => c.ref == r with hlive
  have hheld : live (freshRef live 48 s.cc.nextRef) = true := by
    rw [hlive, List.any_eq_true]
    exact ⟨d, State.mem_liveCalls.mpr ⟨q, hd⟩, beq_iff_eq.mpr href⟩
  have hsub : refsFrom 48 s.cc.nextRef ⊆ s.liveCalls.map Call.ref := fun a ha => by
    have := live_of_live_freshRef hheld a ha
    rw [hlive, List.any_eq_true] at this
    obtain ⟨c, hc, hca⟩ := this
    exact List.mem_map.mpr ⟨c, hc, beq_iff_eq.mp hca⟩
  have hle := ((refsFrom_nodup _ (by omega)).subperm hsub).length_le
  rw [refsFrom_length, List.length_map] at hle
  exact absurd (State.liveCalls_lt_of_free hp) (by omega)

/-- A new call takes a reference that no live call holds, and it is not 0 (R73). -/
theorem State.newCall_ref_fresh (hn : s.cc.nextRef ≠ 0) (hp : s.cc.calls.get p = none) (l : LineNo) (st : CallState) :
    (s.newCall l st).ref ≠ 0 ∧ ∀ q d, s.cc.calls.get q = some d → d.ref ≠ (s.newCall l st).ref :=
  ⟨freshRef_ne_zero (fun r => s.liveCalls.any fun c => c.ref == r) 48 hn, fun _ _ => State.newCall_ref_unheld hp l st⟩

/-- No live call names a line for which no place is found (R72). -/
theorem State.line_ne_of_placeOfLine {l : LineNo} (h : s.placeOfLine l = none) {q : LineNo} {d : Call}
    (hd : s.cc.calls.get q = some d) : d.line ≠ l := fun hl => by
  have := List.find?_eq_none.mp h q (List.mem_finRange q)
  simp [hd, hl] at this

/-- A call created on a line without one, in a place that was free (R72, R73). -/
theorem State.callsSound.addCall (h : s.callsSound) (hp : s.cc.calls.get p = none) {l : LineNo} {c : Call}
    (hl : s.placeOfLine l = none) (hc : ∃ st, c.ref = (s.newCall l st).ref) (hcl : c.line = l) :
    (s.addCall p c).callsSound := by
  obtain ⟨st, hc⟩ := hc
  obtain ⟨hnext, hzero, huniq⟩ := h
  obtain ⟨hcz, hfresh⟩ := State.newCall_ref_fresh hnext hp l st
  rw [← hc] at hcz hfresh
  have hget {q : LineNo} {d : Call} (hd : (s.addCall p c).cc.calls.get q = some d) :
      (q = p ∧ d = c) ∨ (q ≠ p ∧ s.cc.calls.get q = some d) := by
    change (s.cc.calls.set p (some c)).get q = some d at hd
    rw [Table.get_set] at hd
    split at hd
    next e => exact .inl ⟨e.symm, (Option.some.inj hd).symm⟩
    next e => exact .inr ⟨Ne.symm e, hd⟩
  refine ⟨refAfter_ne_zero hcz, fun q d hd => ?_, fun q q' d d' hd hd' hdd => ?_⟩
  · rcases hget hd with ⟨-, rfl⟩ | ⟨-, hd⟩
    · exact hcz
    · exact hzero q d hd
  · rcases hget hd with ⟨rfl, rfl⟩ | ⟨-, g⟩ <;> rcases hget hd' with ⟨rfl, rfl⟩ | ⟨-, g'⟩
    · rfl
    · refine absurd hdd (not_or.mpr ⟨fun e => hfresh q' d' g' e.symm, fun e => ?_⟩)
      exact State.line_ne_of_placeOfLine hl g' (e.symm.trans hcl)
    · refine absurd hdd (not_or.mpr ⟨hfresh q d g, fun e => ?_⟩)
      exact State.line_ne_of_placeOfLine hl g (e.trans hcl)
    · exact huniq q q' d d' g g' hdd

/-- The composition of a snapshot keeps reference and line (R76). -/
theorem State.callsSound.identify (h : s.callsSound) (p : LineNo) (code : ReceivedCode) (b : Bool) :
    (s.identify p code b).callsSound := by
  unfold State.identify
  split
  next c hc =>
    have hcc := State.flagCode_cc s c.line code b
    obtain ⟨hnext, hzero, huniq⟩ := h
    have hget {q : LineNo} {d : Call} (hd : (s.cc.calls.set p (some { c with
        identity := some (composeIdentity (s.dir.working.get c.line) c.line code b) })).get q = some d) :
        ∃ a, s.cc.calls.get q = some a ∧ d.ref = a.ref ∧ d.line = a.line := by
      rw [Table.get_set] at hd
      split at hd
      next e =>
        cases hd
        exact ⟨c, e ▸ hc, rfl, rfl⟩
      next e => exact ⟨d, hd, rfl, rfl⟩
    unfold State.callsSound
    rw [State.setCall_cc, hcc]
    refine ⟨hnext, fun q d hd => ?_, fun q q' d d' hd hd' hdd => ?_⟩
    · obtain ⟨a, ha, hr, -⟩ := hget hd
      rw [hr]
      exact hzero q a ha
    · obtain ⟨a, ha, hr, hl⟩ := hget hd
      obtain ⟨a', ha', hr', hl'⟩ := hget hd'
      rw [hr, hr', hl, hl'] at hdd
      exact huniq q q' a a' ha ha' hdd
  · exact h

end NewCall

end Sys2Proof.Machine
end

section
/-! Every step keeps references and lines distinct (R72, R73). -/

namespace Sys2Proof.Machine

open Sys2Proof

/-- The place found by a line holds a call that names it. -/
theorem State.placeOfLine_spec {s : State} {l p : LineNo} (h : s.placeOfLine l = some p) :
    ∃ c, s.cc.calls.get p = some c ∧ c.line = l := by
  have hm := List.find?_some h
  cases hc : s.cc.calls.get p with
  | none => simp [hc] at hm
  | some c => exact ⟨c, rfl, by simpa [hc] using hm⟩

/-- An OFFERED call that no trunk has is taken from none (log entry 27). -/
theorem State.callBack_offered_nowhere {s : State} {u : TrunkNo} {l p : LineNo} {q : DeskRequest} {c : Call}
    (h : (s.lines.get l).state ∉ [LineState.unequipped, .outOfService, .settling, .fault])
    (hp : s.placeOfLine l = some p) (hc : s.cc.calls.get p = some c) (hs : c.state = .offered) (ho : c.trunk = none) :
    s.callBack u l q = s.refuse u q .lineBusy := by
  simp only [List.mem_cons, List.not_mem_nil, or_false, not_or] at h
  obtain ⟨h1, h2, h3, h4⟩ := h
  unfold State.callBack
  rw [hp]
  dsimp only
  rw [hc]
  split
  next h => exact absurd h h1
  next h => exact absurd h h2
  next h => exact absurd h h3
  next h => exact absurd h h4
  · dsimp only
    rw [hs, ho]

/-- A CALLBACK is refused, rings the post of a line without a live call, or takes the WAITING or OFFERED call of the line
(R133). -/
theorem State.callBack_cases (s : State) (u : TrunkNo) (l : LineNo) (q : DeskRequest) :
    (∃ r, s.callBack u l q = s.refuse u q r) ∨
    (s.placeOfLine l = none ∧ s.callBack u l q = s.ringPost u l) ∨
    (∃ p c, s.placeOfLine l = some p ∧ s.cc.calls.get p = some c ∧ c.state = .waiting ∧
      s.callBack u l q = ((s.setQueue (s.cc.queue.erase c.ref)).takeCall u p c.ref).changed) ∨
    ∃ p c o, s.placeOfLine l = some p ∧ s.cc.calls.get p = some c ∧ c.state = .offered ∧ c.trunk = some o ∧
      s.callBack u l q = ((s.sendDesk o (.withdraw c.ref .taken)).enterGuard o).takeCall u p c.ref := by
  by_cases hs : (s.lines.get l).state ∈ [LineState.unequipped, .outOfService, .settling, .fault]
  · exact .inl ⟨_, State.callBack_unavailable hs⟩
  cases hp : s.placeOfLine l with
  | none =>
    have hfree := State.callBack_free (u := u) (q := q) hs hp
    split at hfree
    · exact .inr (.inl ⟨rfl, hfree⟩)
    · exact .inl ⟨_, hfree⟩
  | some p =>
    obtain ⟨c, hc, -⟩ := State.placeOfLine_spec hp
    obtain ⟨hwaiting, hoffered, horiginating, hother⟩ := State.callBack_named (u := u) (q := q) hs hp hc
    cases hst : c.state with
    | waiting => exact .inr (.inr (.inl ⟨p, c, rfl, hc, hst, hwaiting hst⟩))
    | offered =>
      cases ho : c.trunk with
      | some o => exact .inr (.inr (.inr ⟨p, c, o, rfl, hc, hst, ho, hoffered o hst ho⟩))
      | none => exact .inl ⟨.lineBusy, State.callBack_offered_nowhere hs hp hc hst ho⟩
    | originating => exact .inl ⟨_, horiginating hst⟩
    | connected => exact .inl ⟨_, hother (.inl hst)⟩
    | held => exact .inl ⟨_, hother (.inr (.inl hst))⟩
    | preempting => exact .inl ⟨_, hother (.inr (.inr (.inl hst)))⟩
    | ringing => exact .inl ⟨_, hother (.inr (.inr (.inr hst)))⟩

namespace State.callsSound

variable {s t : State}

theorem running {f : State → State} (h : s.callsSound) (hx : s.running f = .next t)
    (hf : ∀ v : State, v.callsSound → (f v).callsSound) : t.callsSound := State.running_keeps hf h hx

theorem takeEvent {e : LineEvent} {f : State → State} (h : s.callsSound)
    (hf : ∀ v : State, v.callsSound → (f v).callsSound) : (s.takeEvent e f).callsSound :=
  State.takeEvent_keeps (fun _ _ hv => hv.of_cc rfl) hf h

theorem takeDesk {w : TrunkNo} {q : DeskRequest} {f : State → State} (h : s.callsSound)
    (hf : ∀ v : State, v.callsSound → (f v).callsSound) : (s.takeDesk w q f).callsSound :=
  State.takeDesk_keeps (fun _ _ hv => hv.of_cc rfl) hf h

theorem serveOnce {code : Octet} {allowed : Nat → Bool} {body : List Octet} {g : State → State} (h : s.callsSound)
    (hg : ∀ v : State, v.callsSound → (g v).callsSound) : (s.serveOnce code allowed body g).callsSound :=
  State.serveOnce_keeps (fun _ _ hv => hv.of_cc rfl) hg h

theorem setParam {α : Type} {id : Octet} {value : List Octet} {check : List Octet → Option α}
    {apply : α → State → State} (h : s.callsSound) (ha : ∀ a (v : State), v.callsSound → (apply a v).callsSound) :
    (s.setParam id value check apply).callsSound :=
  State.setParam_keeps (fun _ _ hv => hv.of_cc rfl) ha h

theorem changed (h : s.callsSound) : s.changed.callsSound := h.of_keeps s.keeps_refl.changed (by simp)

theorem pass (h : s.callsSound) : s.pass.callsSound := h.of_keeps s.keeps_refl.pass (by simp)

theorem examine (h : s.callsSound) : s.examine.callsSound := h.of_keeps s.keeps_refl.examine (by simp)

theorem enterWaiting (h : s.callsSound) (p : LineNo) : (s.enterWaiting p).callsSound :=
  h.of_keeps (s.keeps_refl.enterWaiting p) (by simp)

theorem endCall (h : s.callsSound) (p : LineNo) (k : Cause) : (s.endCall p k).callsSound :=
  h.of_keeps (s.keeps_refl.endCall p k) (by simp)

theorem connect (h : s.callsSound) (p : LineNo) (u : TrunkNo) : (s.connect p u).callsSound :=
  h.of_keeps (s.keeps_refl.connect p u) (by simp)

theorem ageCall (h : s.callsSound) (p : LineNo) : (s.ageCall p).callsSound :=
  h.of_keeps (s.keeps_refl.ageCall p) (by simp)

theorem endOffer (h : s.callsSound) (u : TrunkNo) (r : CallRef) (k : Cause) : (s.endOffer u r k).callsSound :=
  h.of_keeps (s.keeps_refl.endOffer u r k) (by simp)

theorem handBack (h : s.callsSound) (r : CallRef) (b : Bool) : (s.handBack r b).callsSound :=
  h.of_keeps (s.keeps_refl.handBack r b) (by simp)

theorem retrieveTop (h : s.callsSound) (u : TrunkNo) (r : CallRef) : (s.retrieveTop u r).callsSound :=
  h.of_keeps (s.keeps_refl.retrieveTop u r) (by simp)

theorem takeCall (h : s.callsSound) (u : TrunkNo) (p : LineNo) (r : CallRef) : (s.takeCall u p r).callsSound :=
  h.of_keeps (s.keeps_refl.takeCall u p r) (by simp)

theorem setQueue (h : s.callsSound) (q : List CallRef) : (s.setQueue q).callsSound :=
  h.of_keeps (State.keeps_of_calls (t := s.setQueue q) rfl) rfl

theorem openWaiting (h : s.callsSound) (l : LineNo) : (s.openWaiting l).callsSound := by
  unfold State.openWaiting
  split
  next p hl hp =>
    exact ((((h.addCall (State.freePlace_free hp) hl ⟨_, rfl⟩ rfl).identify p .absent false).enterWaiting p).changed)
  · exact h

/-- A post rung takes a new call on a line without one (R136). -/
theorem ringPost (h : s.callsSound) (u : TrunkNo) {l : LineNo} (hl : s.placeOfLine l = none) :
    (s.ringPost u l).callsSound := by
  cases hp : s.freePlace with
  | none =>
    unfold State.ringPost
    rwa [hp]
  | some p =>
    obtain ⟨x, hx, -⟩ := State.ringPost_eq (u := u) (l := l) hp
    rw [hx]
    have hadd : ((s.startRinging l).addCall p (s.callbackCall u l)).callsSound :=
      (h.of_cc (t := s.startRinging l) rfl).addCall (State.freePlace_free hp) hl ⟨.ringing, rfl⟩ rfl
    exact hadd.of_cc rfl

theorem callBack (h : s.callsSound) (u : TrunkNo) (l : LineNo) (q : DeskRequest) : (s.callBack u l q).callsSound := by
  rcases s.callBack_cases u l q with ⟨r, hb⟩ | ⟨hl, hb⟩ | ⟨p, c, -, -, -, hb⟩ | ⟨p, c, o, -, -, -, -, hb⟩ <;> rw [hb]
  · exact h.of_cc (State.refuse_cc _ _ _ _)
  · exact h.ringPost u hl
  · exact ((h.setQueue _).takeCall u p c.ref).changed
  · have hfree : ((s.sendDesk o (.withdraw c.ref .taken)).enterGuard o).callsSound := h.of_cc (by simp)
    exact hfree.takeCall u p c.ref

end State.callsSound

/-- Every command keeps references and lines distinct (R72, R73). -/
theorem exec_callsSound {s t : State} (c : Instr) (h : s.callsSound) (hx : exec c s = .next t) : t.callsSound := by
  cases hm : movesCalls c with
  | false => exact h.of_sameStations (exec_sameStations c hm hx)
  | true =>
  unfold exec at hx
  cases c with
  | powerOnReset =>
    cases hx
    refine ⟨by simp [State.powerOn, State.heldInReset, CallControl.initial], fun p c hc => ?_, fun p q c d hc => ?_⟩
    · simp [State.powerOn, State.heldInReset, CallControl.initial] at hc
    · simp [State.powerOn, State.heldInReset, CallControl.initial] at hc
  | seizure l =>
    refine h.running hx fun u hu => hu.takeEvent fun v hv => ?_
    split
    next p hl hp => exact hv.addCall (State.freePlace_free hp) hl ⟨_, rfl⟩ rfl
    · exact hv
  | codeResult l code =>
    refine h.running hx fun u hu => hu.takeEvent fun v hv => ?_
    split
    · split
      · exact ((hv.identify _ _ _).enterWaiting _).changed
      · exact hv
    · exact hv
  | offHookAtStart l => exact h.running hx fun u hu => hu.takeEvent fun v hv => hv.openWaiting l
  | lockoutExpiry l => exact h.running hx fun u hu => hu.takeEvent fun v hv => hv.openWaiting l
  | hangUp l =>
    refine h.running hx fun u hu => hu.takeEvent fun v hv => ?_
    split
    · split
      · exact hv.endCall _ _
      · exact hv
    · exact hv
  | lineLost l =>
    refine h.running hx fun u hu => hu.takeEvent fun v hv => ?_
    split
    · exact hv.endCall _ _
    · exact hv
  | lineFault l kind =>
    refine h.running hx fun u hu => hu.takeEvent fun v hv => ?_
    split
    · exact hv.endCall _ _
    · exact hv
  | answered l =>
    refine h.running hx fun u hu => hu.takeEvent fun v hv => ?_
    split
    · split
      · split
        · exact hv.connect _ _
        · exact hv
      · exact hv
    · exact hv
  | aging r =>
    refine h.running hx fun u hu => ?_
    split
    · split
      · split
        · split
          · exact hu.ageCall _
          · exact (hu.ageCall _).changed
        · exact hu
      · exact hu
    · exact hu
  | trunkFrameReceived w f =>
    refine h.running hx fun u hu => ?_
    split
    · split
      · exact hu.of_keeps (u.keeps_refl.goodFrame w _) (by simp)
      · exact hu.of_keeps (u.keeps_refl.badFrame w) (by simp)
    · exact hu.of_keeps (u.keeps_refl.badFrame w) (by simp)
  | accept w r =>
    refine h.running hx fun u hu => hu.takeDesk fun v hv => ?_
    dsimp only
    split
    · split
      · exact .of_cc (.connect (hv.of_cc rfl) _ w) (State.confirm_cc _ _ _)
      · exact hv.of_cc (by simp)
    · exact hv.of_cc (by simp)
  | decline w r =>
    refine h.running hx fun u hu => hu.takeDesk fun v hv => ?_
    dsimp only
    split
    · exact hv.endOffer w r _
    · exact hv.of_cc (by simp)
  | release w r =>
    refine h.running hx fun u hu => hu.takeDesk fun v hv => ?_
    dsimp only
    split
    · split
      · exact .endCall (hv.of_cc (by simp)) _ _
      · exact hv.of_cc (by simp)
    · exact hv.of_cc (by simp)
  | hold w r =>
    refine h.running hx fun u hu => hu.takeDesk fun v hv => ?_
    split
    · exact hv.of_cc (by simp)
    · exact hv.of_cc (by simp)
    next p _ _ =>
      have hheld : v.keeps (v.mapCall p fun c => c.onHold v.cc.now) := v.keeps_refl.mapCall fun c => c.stays_onHold _
      exact hv.of_keeps (.changed (hheld.cc (by simp))) (by simp)
  | retrieve w =>
    refine h.running hx fun u hu => hu.takeDesk fun v hv => ?_
    dsimp only
    split
    · exact hv.of_cc (by simp)
    · exact hv.retrieveTop w _
    · exact hv.retrieveTop w _
    · split
      · exact .changed (.retrieveTop (.handBack (hv.of_cc (by simp)) _ false) w _)
      · exact hv.retrieveTop w _
    · exact hv.of_cc (by simp)
  | callback w line =>
    refine h.running hx fun u hu => hu.takeDesk fun v hv => ?_
    split
    · exact hv.of_cc (by simp)
    · split
      · exact hv.callBack w _ _
      · exact hv.of_cc (by simp)
  | offerTimerExpiry w =>
    refine h.running hx fun u hu => ?_
    dsimp only
    split
    · split
      · exact hu.endOffer w _ _
      · exact hu
    · exact hu
  | guardTimerExpiry w =>
    refine h.running hx fun u hu => ?_
    dsimp only
    split
    · exact .changed (hu.of_cc rfl)
    · exact hu
  | minimumHoldServed r =>
    refine h.running hx fun u hu => ?_
    split
    · split
      · split
        · exact hu.examine
        · exact hu
      · exact hu
    · exact hu
  | preemptionTimerExpiry r =>
    refine h.running hx fun u hu => ?_
    split
    · split
      · exact hu.endCall _ _
      · exact hu
    · exact hu
  | ringingTimeout r =>
    refine h.running hx fun u hu => ?_
    split
    · split
      · exact hu.endCall _ _
      · exact hu
    · exact hu
  | paramSetAgingPeriod value =>
    refine h.running hx fun u hu => hu.setParam fun n v hv => ?_
    have haged := (State.keeps_of_calls (s := v) (t := { v with cc := { v.cc with agingPeriod := n } }) rfl).foldl_ageIfDue
      false (List.finRange 48)
    dsimp only
    split
    · exact hv.of_keeps haged.changed (by simp)
    · exact hv.of_keeps haged (by simp)
  | paramSetEscalationThreshold value => exact h.running hx fun u hu => hu.setParam fun n v hv => .pass hv
  | paramSetMinimumHold value => exact h.running hx fun u hu => hu.setParam fun n v hv => .examine hv
  | clearCall body =>
    refine h.running hx fun u hu => hu.serveOnce fun v hv => ?_
    split
    · exact hv.of_keeps (v.keeps_refl.clearCall _ _) (by simp)
    · exact hv.of_cc rfl
  | trunkSet body =>
    refine h.running hx fun u hu => hu.serveOnce fun v hv => ?_
    split
    · split
      · split
        · exact hv.of_cc rfl
        · exact hv.of_keeps (v.keeps_refl.applyTrunkSet _ _ _) (by simp)
      · exact hv.of_cc rfl
    · exact hv.of_cc rfl
  | reset body =>
    refine h.running hx fun u hu => hu.serveOnce fun v hv => ?_
    split
    · exact hv.of_keeps v.keeps_refl.softReset (by simp)
    · exact hv.of_cc rfl
  | trunkResetAfterDrain w =>
    refine h.running hx fun u hu => ?_
    split
    · exact .changed (hu.of_cc (by simp))
    · exact hu
  | _ => exact absurd hm (by nofun)

/-- Settles O9: every command keeps references and lines distinct, and so does the millisecond. -/
theorem stepKeepsCallsDistinct : Obligations.StepKeepsCallsDistinct := fun _ _ h ht =>
  step_keeps (P := State.callsSound) (fun _ _ hu => hu.of_cc rfl) (fun u hu => hu.of_sameStations u.idle_sameStations)
    (fun c _ _ hu hx => exec_callsSound c hu hx) h ht

end Sys2Proof.Machine
end

section
/-! Where calls stand (R72, R79, R97, R124, R153, R154), said seat by seat, so that a call that is on its way from one seat to
another can be left out: the waiting queue, the current call of a trunk, its hold stack. -/

namespace Sys2Proof.Machine

open Sys2Proof

/-! ### Seats -/

/-- Where a call can stand (R79, R96, R124). -/
inductive Seat where
  | queue
  | current (u : TrunkNo)
  | stack (u : TrunkNo)

/-- The seat that a call's record names (R71). -/
def Call.seat (c : Call) : Option Seat :=
  match c.state, c.trunk with
  | .waiting, none => some .queue
  | .offered, some u => some (.current u)
  | .connected, some u => some (.current u)
  | .preempting, some u => some (.current u)
  | .ringing, some u => some (.current u)
  | .held, some u => some (.stack u)
  | _, _ => none

/-- A call has a seat, or is ORIGINATING and needs none (R71). -/
def Call.settled (c : Call) : Prop := c.seat ≠ none ∨ c.state = .originating ∧ c.trunk = none

/-- The state of the trunk that has a call as its current one (R97). -/
def Call.trunkState (c : Call) : TrunkState := if c.state = .offered then .offering else .connected

/-- The channel `y` is the one that a call should have: ACTIVE in four states, in two of them on the chain of the
snapshot (R153, R154). -/
def Call.hears (c : Call) (y : Player) : Prop :=
  (y ≠ .inactive ↔ c.state = .waiting ∨ c.state = .offered ∨ c.state = .held ∨ c.state = .preempting) ∧
    ∀ i, c.state = .waiting ∨ c.state = .offered → c.identity = some i →
      ∃ at_, y = .active i.snapshot.waitingChain at_

/-- Reference `r` is found in seat `k`. -/
def State.seats (s : State) : Seat → CallRef → Prop
  | .queue, r => r ∈ s.cc.queue
  | .current u, r => (s.trunk u).current = some r
  | .stack u, r => r ∈ (s.trunk u).stack

/-- Calls with these references stand in key order (R79). -/
def State.inKeyOrder (s : State) (a b : CallRef) : Prop :=
  ∀ p q c d, s.cc.calls.get p = some c → s.cc.calls.get q = some d → c.ref = a → d.ref = b → d.before c = false

/-- A trunk's state goes with its service, link, current call and timers, and its stack with the link and the service (R96,
R97, R100, R103, R124). -/
def Trunk.shaped (x : Trunk) : Prop :=
  (x.service = .outOfService ↔ x.state = .outOfService) ∧
    (x.service = .inService ∧ x.link = .down ↔ x.state = .linkDown) ∧
    (x.state = .offering ∨ x.state = .connected ↔ x.current ≠ none) ∧
    (x.state = .offering ↔ x.offerTimer ≠ none) ∧ (x.state = .guard_ ↔ x.guardTimer ≠ none) ∧
    (x.state = .idle ↔ x.idleSince ≠ none) ∧ x.stack.Nodup ∧
    (x.link = .down ∨ x.state = .outOfService → x.stack = [])

/-- What is looked at beside the calls, the queue and the trunk records: the player channels, and that a trunk being
reset has no call (R123, R153). -/
structure Scope where
  channels : Prop
  drains : Prop

/-- Every call stands where its record says, except those of `away`, which stand nowhere. -/
structure State.inPlace (s : State) (sc : Scope) (away : List CallRef) : Prop where
  sound : s.callsSound
  nodup : s.cc.queue.Nodup
  ordered : s.cc.queue.Pairwise s.inKeyOrder
  seats : ∀ k r, s.seats k r ↔ r ∉ away ∧ ∃ p c, s.cc.calls.get p = some c ∧ c.ref = r ∧ c.seat = some k
  settled : ∀ p c, s.cc.calls.get p = some c → c.ref ∉ away → c.settled
  states : ∀ p c u, s.cc.calls.get p = some c → c.ref ∉ away → c.seat = some (.current u) →
    (s.trunk u).state = c.trunkState
  shaped : ∀ u, (s.trunk u).shaped
  drained : sc.drains → ∀ u, (s.trunk u).draining = true → (s.trunk u).current = none ∧ (s.trunk u).stack = []
  silent : sc.channels → ∀ p, s.cc.calls.get p = none → s.ap.players.get p = .inactive
  composed : sc.channels → ∀ p c, s.cc.calls.get p = some c → c.state ≠ .originating → c.identity ≠ none
  hears : sc.channels → ∀ p c, s.cc.calls.get p = some c → c.ref ∉ away → c.hears (s.ap.players.get p)

/-! ### The seat of a call by its state -/

section SeatOf

variable {c d : Call} {u : TrunkNo}

theorem Call.seat_eq_queue : c.seat = some .queue ↔ c.state = .waiting ∧ c.trunk = none := by
  unfold Call.seat
  cases c.state <;> cases c.trunk <;> simp

theorem Call.seat_eq_current : c.seat = some (.current u) ↔
    (c.state = .offered ∨ c.state = .connected ∨ c.state = .preempting ∨ c.state = .ringing) ∧ c.trunk = some u := by
  unfold Call.seat
  cases c.state <;> cases c.trunk <;> simp

theorem Call.seat_eq_stack : c.seat = some (.stack u) ↔ c.state = .held ∧ c.trunk = some u := by
  unfold Call.seat
  cases c.state <;> cases c.trunk <;> simp

/-- State and trunk of a call say its seat. -/
theorem Call.seat_congr (hs : d.state = c.state) (ht : d.trunk = c.trunk) : d.seat = c.seat := by
  unfold Call.seat
  rw [hs, ht]

theorem Call.trunkState_congr (hs : d.state = c.state) : d.trunkState = c.trunkState := by
  unfold Call.trunkState
  rw [hs]

/-- A call with a seat is not ORIGINATING. -/
theorem Call.seat_ne_none_state (h : c.seat ≠ none) : c.state ≠ .originating := fun hs => by
  unfold Call.seat at h
  rw [hs] at h
  exact h rfl

theorem Call.settled_of_seat {k : Seat} (h : c.seat = some k) : c.settled := .inl (by rw [h]; nofun)

/-- A settled call, by its state (R71). -/
theorem Call.settled_iff : c.settled ↔
    match c.state with
    | .originating => c.trunk = none
    | .waiting => c.trunk = none
    | _ => c.trunk ≠ none := by
  unfold Call.settled Call.seat
  cases c.state <;> cases c.trunk <;> simp

end SeatOf

/-! ### Every call in its place -/

section Placed

variable {s t : State} {sc : Scope} {away : List CallRef} {p : LineNo} {c : Call} {r : CallRef} {u : TrunkNo}

/-- A call found in a seat: live, in place, and that is its seat. -/
theorem State.inPlace.of_seat (h : s.inPlace sc away) {k : Seat} (hk : s.seats k r) :
    ∃ p c, s.cc.calls.get p = some c ∧ c.ref = r ∧ c.seat = some k ∧ s.placeOfRef r = some p ∧ r ∉ away := by
  obtain ⟨hin, p, c, hc, hr, hs⟩ := (h.seats k r).mp hk
  exact ⟨p, c, hc, hr, hs, hr ▸ State.placeOfRef_of_sound h.sound hc, hin⟩

/-- A call in place is found in its seat. -/
theorem State.inPlace.seat (h : s.inPlace sc away) (hc : s.cc.calls.get p = some c) (hin : c.ref ∉ away) {k : Seat}
    (hk : c.seat = some k) : s.seats k c.ref := (h.seats k c.ref).mpr ⟨hin, p, c, hc, rfl, hk⟩

/-- A call found in a seat that is a given live call. -/
theorem State.inPlace.seat_of (h : s.inPlace sc away) (hc : s.cc.calls.get p = some c) {k : Seat}
    (hk : s.seats k c.ref) : c.seat = some k ∧ c.ref ∉ away := by
  obtain ⟨hin, q, d, hd, hr, hs⟩ := (h.seats k c.ref).mp hk
  obtain ⟨rfl, -⟩ := h.sound.eq hd hc hr
  exact ⟨hs, hin⟩

/-- The key order of the queue, as the statements have it. -/
theorem State.inKeyOrder_iff (h : s.callsSound) {a b : CallRef} : s.inKeyOrder a b ↔
    ∀ c d, s.callOfRef a = some c → s.callOfRef b = some d → d.before c = false := by
  constructor
  · intro ho c d hc hd
    obtain ⟨p, hp, hpc⟩ := Option.bind_eq_some_iff.mp hc
    obtain ⟨q, hq, hqd⟩ := Option.bind_eq_some_iff.mp hd
    obtain ⟨c', hc', hca⟩ := State.placeOfRef_spec hp
    obtain ⟨d', hd', hdb⟩ := State.placeOfRef_spec hq
    obtain rfl := Option.some.inj (hpc.symm.trans hc')
    obtain rfl := Option.some.inj (hqd.symm.trans hd')
    exact ho p q c d hpc hqd hca hdb
  · rintro ho p q c d hc hd rfl rfl
    exact ho c d (State.callOfRef_of_sound h hc) (State.callOfRef_of_sound h hd)

theorem State.queue_ordered_iff (h : s.callsSound) {q : List CallRef} : q.Pairwise s.inKeyOrder ↔
    q.Pairwise fun r r' => ∀ c d, s.callOfRef r = some c → s.callOfRef r' = some d → d.before c = false :=
  ⟨fun hq => hq.imp fun hab => (State.inKeyOrder_iff h).mp hab, fun hq => hq.imp fun hab => (State.inKeyOrder_iff h).mpr hab⟩

/-- With every call in place, what `callsPlaced` asks of a call (R97, R124). -/
theorem State.inPlace.callPlaced (h : s.inPlace sc []) (hc : s.cc.calls.get p = some c) : s.callPlaced c := by
  have hset := Call.settled_iff.mp (h.settled p c hc List.not_mem_nil)
  have hon {u : TrunkNo} (hu : c.seat = some (.current u)) :
      (s.trunk u).state = c.trunkState ∧ (s.trunk u).current = some c.ref :=
    ⟨h.states p c u hc List.not_mem_nil hu, h.seat hc List.not_mem_nil hu⟩
  unfold State.callPlaced
  cases hs : c.state <;> rw [hs] at hset <;> dsimp only at hset ⊢
  case originating | waiting => exact hset
  case held =>
    obtain ⟨u, hu⟩ := Option.ne_none_iff_exists'.mp hset
    exact ⟨u, hu, h.seat (k := .stack u) hc List.not_mem_nil (Call.seat_eq_stack.mpr ⟨hs, hu⟩)⟩
  all_goals
    obtain ⟨u, hu⟩ := Option.ne_none_iff_exists'.mp hset
    obtain ⟨hst, hcur⟩ := hon (Call.seat_eq_current.mpr ⟨by simp [hs], hu⟩)
    exact ⟨u, hu, by rw [hst, Call.trunkState, hs]; rfl, hcur⟩

/-- What `callsPlaced` asks of a trunk (R97, R124). -/
theorem State.inPlace.trunkPlaced (h : s.inPlace sc []) (hd : sc.drains) (u : TrunkNo) : s.trunkPlaced u := by
  obtain ⟨h1, h2, h3, h4, h5, h6, h7, h8⟩ := h.shaped u
  refine ⟨h1, h2, h3, h4, h5, h6, fun r hr => ?_, fun r hr => ?_, h7, h8, h.drained hd u⟩
  · obtain ⟨p, c, hc, href, hs, -⟩ := h.of_seat (k := .current u) hr
    obtain ⟨hst, hu⟩ := Call.seat_eq_current.mp hs
    refine ⟨p, c, hc, href, hu, fun hh => ?_⟩
    rw [hh] at hst
    simp at hst
  · obtain ⟨p, c, hc, href, hs, -⟩ := h.of_seat (k := .stack u) hr
    obtain ⟨hst, hu⟩ := Call.seat_eq_stack.mp hs
    exact ⟨p, c, hc, href, hu, hst⟩

theorem State.inPlace.queueExact (h : s.inPlace sc []) : s.queueExact := by
  refine ⟨h.nodup, fun r => (h.seats .queue r).trans ?_, (State.queue_ordered_iff h.sound).mp h.ordered⟩
  constructor
  · rintro ⟨-, p, c, hc, hr, hs⟩
    exact ⟨p, c, hc, hr, (Call.seat_eq_queue.mp hs).1⟩
  · rintro ⟨p, c, hc, hr, hs⟩
    have hset := Call.settled_iff.mp (h.settled p c hc List.not_mem_nil)
    rw [hs] at hset
    exact ⟨List.not_mem_nil, p, c, hc, hr, Call.seat_eq_queue.mpr ⟨hs, hset⟩⟩

theorem State.inPlace.callsPlaced (h : s.inPlace sc []) (hd : sc.drains) : s.callsPlaced :=
  ⟨h.sound, h.queueExact, fun _ _ hc => h.callPlaced hc, h.trunkPlaced hd⟩

theorem State.inPlace.channelsPlaced (h : s.inPlace sc []) (hc : sc.channels) : s.channelsPlaced :=
  ⟨h.silent hc, fun p c hp => ⟨h.composed hc p c hp, h.hears hc p c hp List.not_mem_nil⟩⟩

/-- A call in its place has a seat, or needs none. -/
theorem State.callPlaced.settled (h : s.callPlaced c) : c.settled := by
  rw [Call.settled_iff]
  unfold State.callPlaced at h
  cases hs : c.state <;> rw [hs] at h <;> dsimp only at h ⊢
  case originating | waiting => exact h
  all_goals
    obtain ⟨u, hu, -⟩ := h
    rw [hu]
    nofun

/-- The seats of a state with every call in its place. -/
theorem State.callsPlaced.seats_iff (h : s.callsPlaced) (k : Seat) (r : CallRef) :
    s.seats k r ↔ ∃ p c, s.cc.calls.get p = some c ∧ c.ref = r ∧ c.seat = some k := by
  have h' := h
  obtain ⟨-, ⟨-, hqueue, -⟩, hplaced, htrunks⟩ := h
  cases k with
  | queue =>
    refine (hqueue r).trans ⟨?_, ?_⟩
    · rintro ⟨p, c, hc, hr, hs⟩
      have hset := Call.settled_iff.mp (hplaced p c hc).settled
      rw [hs] at hset
      exact ⟨p, c, hc, hr, Call.seat_eq_queue.mpr ⟨hs, hset⟩⟩
    · rintro ⟨p, c, hc, hr, hs⟩
      exact ⟨p, c, hc, hr, (Call.seat_eq_queue.mp hs).1⟩
  | current u =>
    constructor
    · intro hr
      obtain ⟨-, -, -, -, -, -, hcur, -⟩ := htrunks u
      obtain ⟨p, c, hc, href, hu, hnh⟩ := hcur r hr
      refine ⟨p, c, hc, href, Call.seat_eq_current.mpr ⟨?_, hu⟩⟩
      have hset := Call.settled_iff.mp (hplaced p c hc).settled
      cases hs : c.state <;> rw [hs] at hset hnh <;> simp_all
    · rintro ⟨p, c, hc, rfl, hs⟩
      obtain ⟨hst, hu⟩ := Call.seat_eq_current.mp hs
      rcases h'.held_or_current hc hu with ⟨hh, -⟩ | ⟨-, hcur⟩
      · rw [hh] at hst
        simp at hst
      · exact hcur
  | stack u =>
    constructor
    · intro hr
      obtain ⟨-, -, -, -, -, -, -, hstack, -⟩ := htrunks u
      obtain ⟨p, c, hc, href, hu, hh⟩ := hstack r hr
      exact ⟨p, c, hc, href, Call.seat_eq_stack.mpr ⟨hh, hu⟩⟩
    · rintro ⟨p, c, hc, rfl, hs⟩
      obtain ⟨hh, hu⟩ := Call.seat_eq_stack.mp hs
      rcases h'.held_or_current hc hu with ⟨-, hin⟩ | ⟨hn, -⟩
      · exact hin
      · exact absurd hh hn

/-- `callsPlaced`, seat by seat; with the channels, where they are looked at. -/
theorem State.inPlace_of_callsPlaced (h : s.callsPlaced) (hch : sc.channels → s.channelsPlaced) : s.inPlace sc [] where
  sound := h.1
  nodup := h.2.1.1
  ordered := (State.queue_ordered_iff h.1).mpr h.2.1.2.2
  seats k r := (h.seats_iff k r).trans ⟨fun hk => ⟨List.not_mem_nil, hk⟩, fun hk => hk.2⟩
  settled p c hc _ := by
    obtain ⟨-, -, hplaced, -⟩ := h
    exact (hplaced p c hc).settled
  states p c u hc _ hs := by
    obtain ⟨-, -, hplaced, -⟩ := h
    obtain ⟨hst, hu⟩ := Call.seat_eq_current.mp hs
    have hp := hplaced p c hc
    unfold State.callPlaced at hp
    unfold Call.trunkState
    rcases hst with hst | hst | hst | hst <;> rw [hst] at hp ⊢ <;>
      obtain ⟨w, hw, hws, -⟩ := hp <;> obtain rfl := Option.some.inj (hu.symm.trans hw) <;> exact hws
  shaped u := by
    obtain ⟨-, -, -, htrunks⟩ := h
    obtain ⟨h1, h2, h3, h4, h5, h6, -, -, h7, h8, -⟩ := htrunks u
    exact ⟨h1, h2, h3, h4, h5, h6, h7, h8⟩
  drained _ u := by
    obtain ⟨-, -, -, htrunks⟩ := h
    obtain ⟨-, -, -, -, -, -, -, -, -, -, h9⟩ := htrunks u
    exact h9
  silent hc := (hch hc).1
  composed hc p c hp := ((hch hc).2 p c hp).1
  hears hc p c hp _ := ((hch hc).2 p c hp).2

/-- Nothing but the stations matters to where calls stand. -/
theorem State.inPlace.of_sameStations (h : s.inPlace sc away) (hst : s.sameStations t) : t.inPlace sc away := by
  have hback {p : LineNo} {b : Call} (hb : t.cc.calls.get p = some b) :
      ∃ a, s.cc.calls.get p = some a ∧ b.station = a.station := by
    have := hst.calls p
    rw [hb, Option.map_some, eq_comm, Option.map_eq_some_iff] at this
    obtain ⟨a, ha, hab⟩ := this
    exact ⟨a, ha, hab.symm⟩
  have hforth {p : LineNo} {a : Call} (ha : s.cc.calls.get p = some a) :
      ∃ b, t.cc.calls.get p = some b ∧ b.station = a.station := by
    have := hst.calls p
    rw [ha, Option.map_some, Option.map_eq_some_iff] at this
    exact this
  simp only [Call.station, Prod.mk.injEq] at hback hforth
  have hberth (u : TrunkNo) := hst.trunks u
  simp only [Trunk.berth, Prod.mk.injEq] at hberth
  have hseats (k : Seat) (r : CallRef) : t.seats k r ↔ s.seats k r := by
    cases k with
    | queue => simp only [State.seats, hst.queue]
    | current u =>
      obtain ⟨-, -, -, hcur, -⟩ := hberth u
      simp only [State.seats, hcur]
    | stack u =>
      obtain ⟨-, -, -, -, hstack, -⟩ := hberth u
      simp only [State.seats, hstack]
  refine
    { sound := h.sound.of_sameStations hst
      nodup := hst.queue ▸ h.nodup
      ordered := ?ordered
      seats := fun k r => (hseats k r).trans ((h.seats k r).trans ?seats)
      settled := ?settled
      states := ?states
      shaped := ?shaped
      drained := ?drained
      silent := ?silent
      composed := ?composed
      hears := ?hears }
  case ordered =>
    rw [hst.queue]
    refine h.ordered.imp fun hab p q c d hc hd hca hdb => ?_
    obtain ⟨c', hc', hr, -, -, hseq, hid, -⟩ := hback hc
    obtain ⟨d', hd', hr', -, -, hseq', hid', -⟩ := hback hd
    have := hab p q c' d' hc' hd' (hr ▸ hca) (hr' ▸ hdb)
    rwa [Call.before, Call.effective, Call.effective, hseq, hseq', hid, hid']
  case seats =>
    refine and_congr_right fun _ => ⟨?_, ?_⟩
    · rintro ⟨p, c, hc, rfl, hs⟩
      obtain ⟨d, hd, hr, -, hst, -, -, ht⟩ := hforth hc
      exact ⟨p, d, hd, hr, (Call.seat_congr hst ht).trans hs⟩
    · rintro ⟨p, c, hc, rfl, hs⟩
      obtain ⟨d, hd, hr, -, hst, -, -, ht⟩ := hback hc
      exact ⟨p, d, hd, hr.symm, (Call.seat_congr hst ht).symm.trans hs⟩
  case settled =>
    intro p c hc hin
    obtain ⟨d, hd, hr, -, hst, -, -, ht⟩ := hback hc
    have := h.settled p d hd (hr ▸ hin)
    rwa [Call.settled, Call.seat_congr hst ht, hst, ht]
  case states =>
    intro p c u hc hin hs
    obtain ⟨d, hd, hr, -, hst, -, -, ht⟩ := hback hc
    obtain ⟨-, -, hstate, -⟩ := hberth u
    rw [hstate, h.states p d u hd (hr ▸ hin) ((Call.seat_congr hst ht).symm.trans hs), Call.trunkState_congr hst]
  case shaped =>
    intro u
    obtain ⟨h1, h2, h3, h4, h5, h6, h7, h8, -⟩ := hberth u
    have hnone {α : Type} (x y : Option α) (hxy : x.isSome = y.isSome) : x ≠ none ↔ y ≠ none := by
      cases x <;> cases y <;> simp_all
    have := h.shaped u
    unfold Trunk.shaped at this ⊢
    rwa [h1, h2, h3, h4, h5, hnone _ _ h6, hnone _ _ h7, hnone _ _ h8]
  case drained =>
    intro hd u
    obtain ⟨-, -, -, h4, h5, -, -, -, h9⟩ := hberth u
    rw [h4, h5, h9]
    exact h.drained hd u
  case silent =>
    intro hc p hp
    rw [← Player.chain_eq_none, hst.chains p, Player.chain_eq_none]
    refine h.silent hc p ?_
    cases ha : s.cc.calls.get p with
    | none => rfl
    | some a =>
      obtain ⟨b, hb, -⟩ := hforth ha
      rw [hp] at hb
      cases hb
  case composed =>
    intro hc p c hp hs
    obtain ⟨d, hd, -, -, hst, -, hid, -⟩ := hback hp
    rw [hid]
    exact h.composed hc p d hd (hst ▸ hs)
  case hears =>
    intro hc p c hp hin
    obtain ⟨d, hd, hr, -, hst', -, hid, -⟩ := hback hp
    obtain ⟨hactive, hchain⟩ := h.hears hc p d hd (hr ▸ hin)
    have hch := hst.chains p
    refine ⟨?_, fun i hs hi => ?_⟩
    · rw [hst', ← hactive, ne_eq, ne_eq, ← Player.chain_eq_none, ← Player.chain_eq_none, hch]
    · rw [← Player.chain_eq_some, hch, Player.chain_eq_some]
      exact hchain i (hst' ▸ hs) (hid ▸ hi)

end Placed

end Sys2Proof.Machine
end

section
/-! How a call changes its seat: it leaves the one it has, its record is written, and it arrives at another, or is gone. -/

namespace Sys2Proof.Machine

open Sys2Proof

section Moves

variable {s t : State} {sc : Scope} {away : List CallRef} {p : LineNo} {c d : Call} {r : CallRef} {u : TrunkNo}
  {y : Trunk}

/-! ### Leaving a seat -/

/-- A call leaves the queue. -/
theorem State.inPlace.leaveQueue (h : s.inPlace sc away) (hr : r ∈ s.cc.queue) :
    (s.setQueue (s.cc.queue.erase r)).inPlace sc (r :: away) := by
  have hq : s.seats .queue r := hr
  obtain ⟨p, c, hc, rfl, hs, -, -⟩ := h.of_seat hq
  exact
    { h with
      sound := h.sound.setQueue _
      nodup := h.nodup.erase _
      ordered := h.ordered.sublist List.erase_sublist
      seats := fun k a => by
        have hk : (s.setQueue (s.cc.queue.erase c.ref)).seats k a ↔ a ≠ c.ref ∧ s.seats k a := by
          cases k with
          | queue => exact h.nodup.mem_erase_iff
          | current u =>
            refine ⟨fun ha => ⟨fun e => ?_, ha⟩, fun ha => ha.2⟩
            have := (h.seat_of (k := .current u) hc (e ▸ ha)).1
            rw [hs] at this
            cases this
          | stack u =>
            refine ⟨fun ha => ⟨fun e => ?_, ha⟩, fun ha => ha.2⟩
            have := (h.seat_of (k := .stack u) hc (e ▸ ha)).1
            rw [hs] at this
            cases this
        rw [hk, h.seats, List.mem_cons, not_or, and_assoc]
        rfl
      settled := fun q a ha hin => h.settled q a ha fun hm => hin (List.mem_cons_of_mem _ hm)
      states := fun q a u ha hin => h.states q a u ha fun hm => hin (List.mem_cons_of_mem _ hm)
      hears := fun hc' q a ha hin => h.hears hc' q a ha fun hm => hin (List.mem_cons_of_mem _ hm) }

/-- A trunk record is written that lets go of some of the trunk's calls, or of none: those are away then. -/
theorem State.inPlace.release {gone : List CallRef} (h : s.inPlace sc away) (hy : y.shaped)
    (hc : y.current = none ∨ y.current = (s.trunk u).current ∧ ((s.trunk u).current = none ∨ y.state = (s.trunk u).state))
    (hs : y.stack.Sublist (s.trunk u).stack) (hd : y.draining = (s.trunk u).draining ∨ y.draining = false)
    (hg : ∀ a, a ∈ gone ↔ a ∈ away ∨ ((s.trunk u).current = some a ∧ y.current = none) ∨
      (a ∈ (s.trunk u).stack ∧ a ∉ y.stack)) : (s.setTrunk u y).inPlace sc gone := by
  have hsub {a : CallRef} (ha : a ∉ gone) : a ∉ away := fun hm => ha ((hg a).mpr (.inl hm))
  have htrunk (w : TrunkNo) : (s.setTrunk u y).trunk w = if u = w then y else s.trunk w := by
    split
    next e => rw [← e, State.trunk_setTrunk_self]
    next e => exact State.trunk_setTrunk_ne _ _ e
  have hseat {k k' : Seat} {a : CallRef} (ha : s.seats k a) (ha' : s.seats k' a) : k = k' := by
    obtain ⟨q, b, hb, rfl, hbk, -⟩ := h.of_seat ha
    exact Option.some.inj (hbk.symm.trans (h.seat_of hb ha').1)
  refine
    { h with
      sound := h.sound.of_cc rfl
      seats := fun k a => ?seats
      settled := fun q a ha hin => h.settled q a ha (hsub hin)
      states := fun q a w ha hin hsq => ?states
      shaped := fun w => ?shaped
      drained := fun hdr w hw => ?drained
      hears := fun hc' q a ha hin => h.hears hc' q a ha (hsub hin) }
  case seats =>
    have hk : (s.setTrunk u y).seats k a ↔ a ∉ gone ∧ s.seats k a := by
      rw [hg]
      cases k with
      | queue =>
        refine ⟨fun ha => ⟨?_, ha⟩, fun ha => ha.2⟩
        have hq : s.seats .queue a := ha
        rintro (hm | ⟨hcur, -⟩ | ⟨hst, -⟩)
        · exact ((h.seats .queue a).mp hq).1 hm
        · exact Seat.noConfusion (hseat (k := .current u) hcur hq)
        · exact Seat.noConfusion (hseat (k := .stack u) hst hq)
      | current w =>
        simp only [State.seats, htrunk]
        by_cases hw : u = w
        · subst hw
          rw [if_pos rfl]
          constructor
          · intro hya
            have hxa : (s.trunk u).current = some a := by
              rcases hc with hn | ⟨he, -⟩
              · rw [hya] at hn
                cases hn
              · exact he ▸ hya
            refine ⟨?_, hxa⟩
            rintro (hm | ⟨-, hn⟩ | ⟨hst, -⟩)
            · exact ((h.seats (.current u) a).mp hxa).1 hm
            · rw [hya] at hn
              cases hn
            · exact Seat.noConfusion (hseat (k := .stack u) (k' := .current u) hst hxa)
          · rintro ⟨hno, hxa⟩
            rcases hc with hn | ⟨he, -⟩
            · exact absurd (.inr (.inl ⟨hxa, hn⟩)) hno
            · exact he ▸ hxa
        · rw [if_neg hw]
          refine ⟨fun ha => ⟨?_, ha⟩, fun ha => ha.2⟩
          rintro (hm | ⟨hcur, -⟩ | ⟨hst, -⟩)
          · exact ((h.seats (.current w) a).mp ha).1 hm
          · have := hseat (k := .current u) (k' := .current w) hcur ha
            exact hw (Seat.current.inj this)
          · exact Seat.noConfusion (hseat (k := .stack u) (k' := .current w) hst ha)
      | stack w =>
        simp only [State.seats, htrunk]
        by_cases hw : u = w
        · subst hw
          rw [if_pos rfl]
          constructor
          · intro hya
            have hxa := hs.subset hya
            refine ⟨?_, hxa⟩
            rintro (hm | ⟨hcur, -⟩ | ⟨-, hn⟩)
            · exact ((h.seats (.stack u) a).mp hxa).1 hm
            · exact Seat.noConfusion (hseat (k := .current u) (k' := .stack u) hcur hxa)
            · exact hn hya
          · rintro ⟨hno, hxa⟩
            by_contra hn
            exact hno (.inr (.inr ⟨hxa, hn⟩))
        · rw [if_neg hw]
          refine ⟨fun ha => ⟨?_, ha⟩, fun ha => ha.2⟩
          rintro (hm | ⟨hcur, -⟩ | ⟨hst, -⟩)
          · exact ((h.seats (.stack w) a).mp ha).1 hm
          · exact Seat.noConfusion (hseat (k := .current u) (k' := .stack w) hcur ha)
          · have := hseat (k := .stack u) (k' := .stack w) hst ha
            exact hw (Seat.stack.inj this)
    rw [hk, h.seats, ← and_assoc, and_iff_left_of_imp hsub]
    rfl
  case states =>
    have hx := h.states q a w ha (hsub hin) hsq
    rw [htrunk]
    split
    next e =>
      subst e
      have hcur : (s.trunk u).current = some a.ref := h.seat ha (hsub hin) hsq
      rcases hc with hn | ⟨-, hn | he⟩
      · exact absurd ((hg a.ref).mpr (.inr (.inl ⟨hcur, hn⟩))) hin
      · rw [hcur] at hn
        cases hn
      · rw [he, hx]
    next => exact hx
  case shaped =>
    rw [htrunk]
    split
    · exact hy
    · exact h.shaped w
  case drained =>
    rw [htrunk] at hw ⊢
    split
    next e =>
      rw [if_pos e] at hw
      have hxd : (s.trunk u).draining = true := by
        rcases hd with hd | hd
        · rw [← hd, hw]
        · rw [hd] at hw
          cases hw
      obtain ⟨hcur, hst⟩ := h.drained hdr u hxd
      refine ⟨?_, List.sublist_nil.mp (hst ▸ hs)⟩
      rcases hc with hn | ⟨he, -⟩
      · exact hn
      · rw [he, hcur]
    next e =>
      rw [if_neg e] at hw
      exact h.drained hdr w hw

/-! ### The record of a call that is away -/

theorem State.inPlace.away_seat (h : s.inPlace sc away) (hr : r ∈ away) (k : Seat) : ¬ s.seats k r :=
  fun hk => ((h.seats k r).mp hk).1 hr

/-- The record of a call that is away is written; it is still the same call. -/
theorem State.inPlace.write (h : s.inPlace sc away) (hc : s.cc.calls.get p = some c) (hin : c.ref ∈ away)
    (hr : d.ref = c.ref) (hl : d.line = c.line)
    (hid : sc.channels → d.state ≠ .originating → d.identity ≠ none) : (s.setCall p (some d)).inPlace sc away := by
  have hget {q : LineNo} {a : Call} (ha : (s.setCall p (some d)).cc.calls.get q = some a) :
      (q = p ∧ a = d) ∨ (q ≠ p ∧ s.cc.calls.get q = some a) := by
    rw [State.setCall_cc, Table.get_set] at ha
    split at ha
    next e => exact .inl ⟨e.symm, (Option.some.inj ha).symm⟩
    next e => exact .inr ⟨Ne.symm e, ha⟩
  have hback {q : LineNo} {a : Call} (ha : (s.setCall p (some d)).cc.calls.get q = some a) (hout : a.ref ∉ away) :
      s.cc.calls.get q = some a := by
    rcases hget ha with ⟨-, rfl⟩ | ⟨-, ha⟩
    · exact absurd (hr ▸ hin) hout
    · exact ha
  have hforth {q : LineNo} {a : Call} (ha : s.cc.calls.get q = some a) (hout : a.ref ∉ away) :
      (s.setCall p (some d)).cc.calls.get q = some a := by
    have hne : p ≠ q := fun e => by
      subst e
      obtain rfl := Option.some.inj (hc.symm.trans ha)
      exact hout hin
    rwa [State.setCall_cc, Table.get_set_ne _ _ hne]
  refine
    { sound := ?sound
      nodup := h.nodup
      ordered := ?ordered
      seats := fun k a => (h.seats k a).trans ?seats
      settled := fun q a ha hout => h.settled q a (hback ha hout) hout
      states := fun q a u ha hout => h.states q a u (hback ha hout) hout
      shaped := h.shaped
      drained := h.drained
      silent := fun hch q hq => h.silent hch q ?silent
      composed := fun hch q a ha => ?composed
      hears := fun hch q a ha hout => h.hears hch q a (hback ha hout) hout }
  case sound =>
    obtain ⟨hnext, hzero, huniq⟩ := h.sound
    refine ⟨hnext, fun q a ha => ?_, fun q q' a a' ha ha' haa => ?_⟩
    · rcases hget ha with ⟨-, rfl⟩ | ⟨-, ha⟩
      · exact hr ▸ hzero p c hc
      · exact hzero q a ha
    · rcases hget ha with ⟨rfl, rfl⟩ | ⟨-, g⟩ <;> rcases hget ha' with ⟨rfl, rfl⟩ | ⟨-, g'⟩
      · rfl
      · exact huniq _ _ c a' hc g' (by rwa [← hr, ← hl])
      · exact huniq _ _ a c g hc (by rwa [← hr, ← hl])
      · exact huniq _ _ a a' g g' haa
  case ordered =>
    refine h.ordered.imp_of_mem fun {a b} ha hb hab q q' e e' he he' hea heb => ?_
    have hout {x : CallRef} (hx : x ∈ s.cc.queue) : x ∉ away := ((h.seats .queue x).mp hx).1
    exact hab q q' e e' (hback he (hea ▸ hout ha)) (hback he' (heb ▸ hout hb)) hea heb
  case seats =>
    refine and_congr_right fun hout => ⟨?_, ?_⟩
    · rintro ⟨q, a, ha, rfl, hs⟩
      exact ⟨q, a, hforth ha hout, rfl, hs⟩
    · rintro ⟨q, a, ha, rfl, hs⟩
      exact ⟨q, a, hback ha hout, rfl, hs⟩
  case silent =>
    rw [State.setCall_cc, Table.get_set] at hq
    split at hq
    · cases hq
    · exact hq
  case composed =>
    rcases hget ha with ⟨-, rfl⟩ | ⟨-, ha⟩
    · exact hid hch
    · exact h.composed hch q a ha

/-- The channel of a call that is away is set. -/
theorem State.inPlace.setPlayer (h : s.inPlace sc away) (hc : s.cc.calls.get p = some c) (hin : c.ref ∈ away)
    (x : Player) : (s.setPlayer p x).inPlace sc away := by
  have hother {q : LineNo} (hq : ∀ a, s.cc.calls.get q = some a → a.ref ∉ away) :
      (s.setPlayer p x).ap.players.get q = s.ap.players.get q :=
    Table.get_set_ne _ _ fun e => hq c (e ▸ hc) hin
  exact
    { h with
      sound := h.sound.of_cc rfl
      silent := fun hch q hq => by
        rw [hother fun a ha => by rw [show s.cc.calls.get q = none from hq] at ha; cases ha]
        exact h.silent hch q hq
      hears := fun hch q a ha hout => by
        rw [hother fun b hb => by
          obtain rfl := Option.some.inj (hb.symm.trans (show s.cc.calls.get q = some a from ha))
          exact hout]
        exact h.hears hch q a ha hout }

/-- A call that is away is gone: its place is free, its channel INACTIVE. -/
theorem State.inPlace.remove (h : s.inPlace sc (r :: away)) (hc : s.cc.calls.get p = some c) (hr : c.ref = r)
    (hx : sc.channels → s.ap.players.get p = .inactive) : (s.setCall p none).inPlace sc away := by
  have hback {q : LineNo} {a : Call} (ha : (s.setCall p none).cc.calls.get q = some a) :
      s.cc.calls.get q = some a ∧ a.ref ≠ r := by
    rw [State.setCall_cc, Table.get_set] at ha
    split at ha
    · cases ha
    next e => exact ⟨ha, fun har => e (h.sound.eq hc ha (hr.trans har.symm)).2⟩
  have hforth {q : LineNo} {a : Call} (ha : s.cc.calls.get q = some a) (hne : a.ref ≠ r) :
      (s.setCall p none).cc.calls.get q = some a := by
    have hpq : p ≠ q := fun e => by
      subst e
      obtain rfl := Option.some.inj (hc.symm.trans ha)
      exact hne hr
    rwa [State.setCall_cc, Table.get_set_ne _ _ hpq]
  have hcons {a : CallRef} (hne : a ≠ r) (hout : a ∉ away) : a ∉ r :: away :=
    fun hm => (List.mem_cons.mp hm).elim hne hout
  refine
    { sound := h.sound.of_keeps (s.keeps_refl.freed p) rfl
      nodup := h.nodup
      ordered := h.ordered.imp fun hab q q' e e' he he' => hab q q' e e' (hback he).1 (hback he').1
      seats := fun k a => (h.seats k a).trans ?seats
      settled := fun q a ha hout => h.settled q a (hback ha).1 (hcons (hback ha).2 hout)
      states := fun q a u ha hout => h.states q a u (hback ha).1 (hcons (hback ha).2 hout)
      shaped := h.shaped
      drained := h.drained
      silent := fun hch q hq => ?silent
      composed := fun hch q a ha => h.composed hch q a (hback ha).1
      hears := fun hch q a ha hout => h.hears hch q a (hback ha).1 (hcons (hback ha).2 hout) }
  case seats =>
    constructor
    · rintro ⟨hout, q, a, ha, rfl, hs⟩
      rw [List.mem_cons, not_or] at hout
      exact ⟨hout.2, q, a, hforth ha hout.1, rfl, hs⟩
    · rintro ⟨hout, q, a, ha, rfl, hs⟩
      exact ⟨hcons (hback ha).2 hout, q, a, (hback ha).1, rfl, hs⟩
  case silent =>
    rw [State.setCall_cc, Table.get_set] at hq
    split at hq
    next e => exact e ▸ hx hch
    next => exact h.silent hch q hq

/-- A new call is away at first. -/
theorem State.inPlace.addCall (h : s.inPlace sc away) (hp : s.cc.calls.get p = none)
    (hsound : (s.addCall p c).callsSound)
    (hid : sc.channels → c.state ≠ .originating → c.identity ≠ none) : (s.addCall p c).inPlace sc (c.ref :: away) := by
  have hset : (s.addCall p c).cc.calls.get p = some c := Table.get_set_self _ _ _
  have hforth {q : LineNo} {a : Call} (ha : s.cc.calls.get q = some a) : (s.addCall p c).cc.calls.get q = some a := by
    have hne : p ≠ q := fun e => by simp [← e, hp] at ha
    exact (State.addCall_get_ne c hne).trans ha
  have hback {q : LineNo} {a : Call} (ha : (s.addCall p c).cc.calls.get q = some a) (hne : a.ref ≠ c.ref) :
      s.cc.calls.get q = some a := by
    have hpq : p ≠ q := fun e => by
      subst e
      exact hne (by rw [Option.some.inj (hset.symm.trans ha)])
    exact (State.addCall_get_ne c hpq).symm.trans ha
  have hfresh {q : LineNo} {a : Call} (ha : s.cc.calls.get q = some a) : a.ref ≠ c.ref := fun e => by
    have := (hsound.eq (hforth ha) hset e).2
    rw [this, hp] at ha
    cases ha
  have hout {a : CallRef} (ha : a ∉ c.ref :: away) : a ≠ c.ref ∧ a ∉ away := by
    rwa [List.mem_cons, not_or] at ha
  refine
    { sound := hsound
      nodup := h.nodup
      ordered := ?ordered
      seats := fun k a => (h.seats k a).trans ?seats
      settled := fun q a ha hin => h.settled q a (hback ha (hout hin).1) (hout hin).2
      states := fun q a u ha hin => h.states q a u (hback ha (hout hin).1) (hout hin).2
      shaped := h.shaped
      drained := h.drained
      silent := fun hch q hq => ?silent
      composed := fun hch q a ha => ?composed
      hears := fun hch q a ha hin => h.hears hch q a (hback ha (hout hin).1) (hout hin).2 }
  case ordered =>
    refine h.ordered.imp_of_mem fun {a b} ha hb hab q q' e e' he he' hea heb => ?_
    have hlive {x : CallRef} (hx : x ∈ s.cc.queue) : x ≠ c.ref := by
      obtain ⟨-, q, d, hd, rfl, -⟩ := (h.seats .queue x).mp hx
      exact hfresh hd
    exact hab q q' e e' (hback he (hea ▸ hlive ha)) (hback he' (heb ▸ hlive hb)) hea heb
  case seats =>
    constructor
    · rintro ⟨hin, q, a, ha, rfl, hs⟩
      exact ⟨fun hm => (List.mem_cons.mp hm).elim (hfresh ha) hin, q, a, hforth ha, rfl, hs⟩
    · rintro ⟨hin, q, a, ha, rfl, hs⟩
      exact ⟨(hout hin).2, q, a, hback ha (hout hin).1, rfl, hs⟩
  case silent =>
    refine h.silent hch q ?_
    cases ha : s.cc.calls.get q with
    | none => rfl
    | some a =>
      rw [hforth ha] at hq
      cases hq
  case composed =>
    by_cases hne : a.ref = c.ref
    · obtain ⟨rfl, -⟩ := hsound.eq ha hset hne
      exact hid hch
    · exact h.composed hch q a (hback ha hne)

/-! ### Arriving at a seat -/

/-- What a state has to show for a call that arrives: it, and it alone, is found in one more seat. -/
structure State.arrival (s t : State) (sc : Scope) (c : Call) : Prop where
  calls : t.cc.calls = s.cc.calls
  nextRef : t.cc.nextRef = s.cc.nextRef
  players : t.ap.players = s.ap.players
  nodup : t.cc.queue.Nodup
  ordered : t.cc.queue.Pairwise t.inKeyOrder
  seats : ∀ k a, t.seats k a ↔ s.seats k a ∨ a = c.ref ∧ c.seat = some k
  own : ∀ u, c.seat = some (.current u) → (t.trunk u).state = c.trunkState
  others : ∀ u a, (s.trunk u).current = some a → (t.trunk u).state = (s.trunk u).state
  shaped : ∀ u, (t.trunk u).shaped
  drained : sc.drains → ∀ u, (t.trunk u).draining = true → (t.trunk u).current = none ∧ (t.trunk u).stack = []

/-- A call that was away stands in its place. -/
theorem State.inPlace.arrive (h : s.inPlace sc (r :: away)) (hr : r ∉ away) (hc : s.cc.calls.get p = some c)
    (href : c.ref = r) (ha : s.arrival t sc c) (hset : c.settled)
    (hch : sc.channels → c.hears (s.ap.players.get p)) : t.inPlace sc away := by
  subst href
  have hcase {q : LineNo} {a : Call} (hq : s.cc.calls.get q = some a) : (q = p ∧ a = c) ∨ a.ref ≠ c.ref := by
    by_cases hne : a.ref = c.ref
    · obtain ⟨rfl, rfl⟩ := h.sound.eq hq hc hne
      exact .inl ⟨rfl, rfl⟩
    · exact .inr hne
  have hcons {a : CallRef} (hne : a ≠ c.ref) (hout : a ∉ away) : a ∉ c.ref :: away :=
    fun hm => (List.mem_cons.mp hm).elim hne hout
  refine
    { sound := h.sound.of_keeps (State.keeps_of_calls ha.calls) ha.nextRef
      nodup := ha.nodup
      ordered := ha.ordered
      seats := fun k a => (ha.seats k a).trans ?seats
      settled := fun q a hq hout => ?settled
      states := fun q a u hq hout hs => ?states
      shaped := ha.shaped
      drained := ha.drained
      silent := fun hx q hq => ha.players ▸ h.silent hx q (ha.calls ▸ hq)
      composed := fun hx q a hq => h.composed hx q a (ha.calls ▸ hq)
      hears := fun hx q a hq hout => ?hears }
  case seats =>
    rw [h.seats, ha.calls]
    constructor
    · rintro (⟨hout, q, a, hq, rfl, hs⟩ | ⟨rfl, hs⟩)
      · exact ⟨fun hm => hout (List.mem_cons_of_mem _ hm), q, a, hq, rfl, hs⟩
      · exact ⟨hr, p, c, hc, rfl, hs⟩
    · rintro ⟨hout, q, a, hq, rfl, hs⟩
      rcases hcase hq with ⟨-, rfl⟩ | hne
      · exact .inr ⟨rfl, hs⟩
      · exact .inl ⟨hcons hne hout, q, a, hq, rfl, hs⟩
  case settled =>
    rw [ha.calls] at hq
    rcases hcase hq with ⟨-, rfl⟩ | hne
    · exact hset
    · exact h.settled q a hq (hcons hne hout)
  case states =>
    rw [ha.calls] at hq
    rcases hcase hq with ⟨-, rfl⟩ | hne
    · exact ha.own u hs
    · rw [ha.others u a.ref (h.seat hq (hcons hne hout) hs)]
      exact h.states q a u hq (hcons hne hout) hs
  case hears =>
    rw [ha.calls] at hq
    rw [ha.players]
    rcases hcase hq with ⟨rfl, rfl⟩ | hne
    · exact hch hx
    · exact h.hears hx q a hq (hcons hne hout)

/-- A call that needs no seat is in its place. -/
theorem State.inPlace.arriveNowhere (h : s.inPlace sc (r :: away)) (hr : r ∉ away) (hc : s.cc.calls.get p = some c)
    (href : c.ref = r) (hs : c.state = .originating) (ht : c.trunk = none)
    (hch : sc.channels → c.hears (s.ap.players.get p)) : s.inPlace sc away := by
  have hseat : c.seat = none := by rw [Call.seat, hs]
  exact h.arrive (t := s) hr hc href
    { calls := rfl
      nextRef := rfl
      players := rfl
      nodup := h.nodup
      ordered := h.ordered
      seats := fun k a => by simp [hseat]
      own := fun u hu => by rw [hseat] at hu; cases hu
      others := fun _ _ _ => rfl
      shaped := h.shaped
      drained := h.drained } (.inr ⟨hs, ht⟩) hch

/-- A call arrives at a trunk that has no current call, and is its current call. -/
theorem State.inPlace.arriveCurrent (h : s.inPlace sc (r :: away)) (hr : r ∉ away) (hc : s.cc.calls.get p = some c)
    (href : c.ref = r) (hs : c.seat = some (.current u)) (hx : (s.trunk u).current = none) (hy : y.shaped)
    (hyc : y.current = some r) (hst : y.state = c.trunkState) (hstack : y.stack = (s.trunk u).stack)
    (hd : sc.drains → y.draining = false) (hch : sc.channels → c.hears (s.ap.players.get p)) :
    (s.setTrunk u y).inPlace sc away := by
  have htrunk (w : TrunkNo) : (s.setTrunk u y).trunk w = if u = w then y else s.trunk w := by
    split
    next e => rw [← e, State.trunk_setTrunk_self]
    next e => exact State.trunk_setTrunk_ne _ _ e
  refine h.arrive hr hc href (t := s.setTrunk u y)
    { calls := rfl
      nextRef := rfl
      players := rfl
      nodup := h.nodup
      ordered := h.ordered
      seats := fun k a => ?seats
      own := fun w hw => ?own
      others := fun w a ha => ?others
      shaped := fun w => ?shaped
      drained := fun hdr w hw => ?drained } (Call.settled_of_seat hs) hch
  case seats =>
    rw [hs]
    cases k with
    | queue => exact ⟨.inl, fun ha => ha.elim id fun e => by cases e.2⟩
    | current w =>
      simp only [State.seats, htrunk, Option.some.injEq, Seat.current.injEq]
      by_cases e : u = w
      · subst e
        rw [if_pos rfl, hyc, hx, href]
        exact ⟨fun ha => .inr ⟨(Option.some.inj ha).symm, rfl⟩, fun ha => ha.elim (by nofun) fun ha => by rw [ha.1]⟩
      · rw [if_neg e]
        exact ⟨.inl, fun ha => ha.elim id fun ha => absurd ha.2 e⟩
    | stack w =>
      simp only [State.seats, htrunk]
      refine Iff.trans ?_ (iff_of_eq (or_false _)).symm |>.trans (or_congr_right (by simp))
      by_cases e : u = w
      · subst e
        rw [if_pos rfl, hstack]
      · rw [if_neg e]
  case own =>
    obtain rfl := Seat.current.inj (Option.some.inj (hs.symm.trans hw))
    rw [State.trunk_setTrunk_self, hst]
  case others =>
    rw [htrunk, if_neg fun e => by rw [← e, hx] at ha; cases ha]
  case shaped =>
    rw [htrunk]
    split
    · exact hy
    · exact h.shaped w
  case drained =>
    rw [htrunk] at hw ⊢
    split
    next e =>
      rw [if_pos e, hd hdr] at hw
      cases hw
    next e =>
      rw [if_neg e] at hw
      exact h.drained hdr w hw

/-- A call arrives at the top of a trunk's hold stack. -/
theorem State.inPlace.arriveStack (h : s.inPlace sc (r :: away)) (hr : r ∉ away) (hc : s.cc.calls.get p = some c)
    (href : c.ref = r) (hs : c.seat = some (.stack u)) (hl : (s.trunk u).link = .up)
    (ho : (s.trunk u).state ≠ .outOfService) (hd : sc.drains → (s.trunk u).draining = false)
    (hch : sc.channels → c.hears (s.ap.players.get p)) :
    (s.mapTrunk u fun x => { x with stack := r :: x.stack }).inPlace sc away := by
  have htrunk (w : TrunkNo) : (s.mapTrunk u fun x => { x with stack := r :: x.stack }).trunk w =
      if u = w then { s.trunk u with stack := r :: (s.trunk u).stack } else s.trunk w := by
    split
    next e => rw [← e, State.trunk_mapTrunk_self]
    next e => exact State.trunk_mapTrunk_ne _ _ e
  refine h.arrive hr hc href (t := s.mapTrunk u fun x => { x with stack := r :: x.stack })
    { calls := rfl
      nextRef := rfl
      players := rfl
      nodup := h.nodup
      ordered := h.ordered
      seats := fun k a => ?seats
      own := fun w hw => ?own
      others := fun w a ha => ?others
      shaped := fun w => ?shaped
      drained := fun hdr w hw => ?drained } (Call.settled_of_seat hs) hch
  case seats =>
    rw [hs]
    cases k with
    | queue => exact ⟨.inl, fun ha => ha.elim id fun e => by cases e.2⟩
    | current w =>
      simp only [State.seats, htrunk]
      refine Iff.trans ?_ (iff_of_eq (or_false _)).symm |>.trans (or_congr_right (by simp))
      by_cases e : u = w
      · subst e
        rw [if_pos rfl]
      · rw [if_neg e]
    | stack w =>
      simp only [State.seats, htrunk, Option.some.injEq, Seat.stack.injEq]
      by_cases e : u = w
      · subst e
        rw [if_pos rfl, href]
        simp [or_comm]
      · rw [if_neg e]
        exact ⟨.inl, fun ha => ha.elim id fun ha => absurd ha.2 e⟩
  case own =>
    rw [hs] at hw
    cases hw
  case others =>
    rw [htrunk]
    split
    next e => rw [e]
    next => rfl
  case shaped =>
    rw [htrunk]
    split
    next e =>
      obtain ⟨h1, h2, h3, h4, h5, h6, h7, -⟩ := h.shaped u
      refine ⟨h1, h2, h3, h4, h5, h6, List.nodup_cons.mpr ⟨fun hin => ?_, h7⟩, fun hor => ?_⟩
      · exact h.away_seat List.mem_cons_self (.stack u) hin
      · rcases hor with hor | hor
        · rw [show (s.trunk u).link = .down from hor] at hl
          cases hl
        · exact absurd hor ho
    next => exact h.shaped w
  case drained =>
    rw [htrunk] at hw ⊢
    split
    next e =>
      rw [if_pos e, show ({ s.trunk u with stack := r :: (s.trunk u).stack } : Trunk).draining = false from hd hdr] at hw
      cases hw
    next e =>
      rw [if_neg e] at hw
      exact h.drained hdr w hw

end Moves

end Sys2Proof.Machine
end

section
/-! The waiting queue (R79): a call inserted by its key leaves the queue in key order; and what else a call can do in its
seat. -/

namespace Sys2Proof.Machine

open Sys2Proof

/-! ### Keys (R79) -/

theorem Call.before_iff {c d : Call} : c.before d = true ↔
    c.effective < d.effective ∨ c.effective = d.effective ∧ c.sequence.toNat < d.sequence.toNat := by
  simp [Call.before]

theorem Call.before_asymm {c d : Call} (h : c.before d = true) : d.before c = false := by
  rw [← Bool.not_eq_true]
  rw [Call.before_iff] at h ⊢
  omega

theorem Call.before_trans {c d e : Call} (h : c.before d = true) (g : d.before e = true) : c.before e = true := by
  rw [Call.before_iff] at h g ⊢
  omega

/-- Class and origination sequence are the key (R79). -/
theorem Call.before_congr {c c' d d' : Call} (hc : c'.effective = c.effective) (hc' : c'.sequence = c.sequence)
    (hd : d'.effective = d.effective) (hd' : d'.sequence = d.sequence) : c'.before d' = c.before d := by
  rw [Call.before, Call.before, hc, hc', hd, hd']

/-! ### Insertion (R79) -/

section Insert

variable (look : CallRef → Option Call) (c : Call)

/-- An insertion adds the call and no other. -/
theorem insertByKey_perm (q : List CallRef) : (insertByKey look c q).Perm (c.ref :: q) := by
  induction q with
  | nil => exact List.Perm.refl _
  | cons r rs ih =>
    have hlater : (r :: insertByKey look c rs).Perm (c.ref :: r :: rs) := (ih.cons r).trans (List.Perm.swap _ _ _)
    unfold insertByKey
    split
    · split
      · exact List.Perm.refl _
      · exact hlater
    · exact hlater

variable {look c}

/-- An insertion into a queue in key order leaves it in key order (R79). -/
theorem insertByKey_pairwise (hc : look c.ref = some c) (q : List CallRef) (hlive : ∀ r ∈ q, look r ≠ none)
    (hq : q.Pairwise fun r r' => ∀ d d', look r = some d → look r' = some d' → d'.before d = false) :
    (insertByKey look c q).Pairwise fun r r' => ∀ d d', look r = some d → look r' = some d' → d'.before d = false := by
  induction q with
  | nil => exact List.pairwise_singleton _ _
  | cons r rs ih =>
    obtain ⟨hr, hrs⟩ := List.pairwise_cons.mp hq
    obtain ⟨d, hd⟩ := Option.ne_none_iff_exists'.mp (hlive r List.mem_cons_self)
    unfold insertByKey
    rw [hd]
    dsimp only
    split
    next hb =>
      refine List.pairwise_cons.mpr ⟨fun r' hr' e e' he he' => ?_, hq⟩
      obtain rfl := Option.some.inj (hc.symm.trans he)
      rcases List.mem_cons.mp hr' with rfl | hr'
      · obtain rfl := Option.some.inj (hd.symm.trans he')
        exact Call.before_asymm hb
      · have hle := hr r' hr' d e' hd he'
        by_contra hlt
        rw [Call.before_trans (Bool.eq_true_of_not_eq_false hlt) hb] at hle
        cases hle
    next hb =>
      refine List.pairwise_cons.mpr ⟨fun r' hr' e e' he he' => ?_,
        ih (fun x hx => hlive x (List.mem_cons_of_mem r hx)) hrs⟩
      obtain rfl := Option.some.inj (hd.symm.trans he)
      rcases List.mem_cons.mp ((insertByKey_perm look c rs).mem_iff.mp hr') with rfl | hr'
      · obtain rfl := Option.some.inj (hc.symm.trans he')
        exact Bool.eq_false_of_not_eq_true hb
      · exact hr r' hr' d e' hd he'

end Insert

/-! ### In the seat -/

section InSeat

variable {s t : State} {sc : Scope} {away : List CallRef} {p : LineNo} {c d : Call} {r : CallRef} {u : TrunkNo}

theorem State.enqueue_of_some (hc : s.cc.calls.get p = some c) :
    s.enqueue p = s.setQueue (insertByKey s.callOfRef c s.cc.queue) := by
  unfold State.enqueue
  rw [hc]

/-- A call that is away and has the record of a WAITING one joins the queue at its key position (R79, R80). -/
theorem State.inPlace.arriveQueue (h : s.inPlace sc (r :: away)) (hr : r ∉ away) (hc : s.cc.calls.get p = some c)
    (href : c.ref = r) (hs : c.seat = some .queue) (hch : sc.channels → c.hears (s.ap.players.get p)) :
    (s.enqueue p).inPlace sc away := by
  have hperm := insertByKey_perm s.callOfRef c s.cc.queue
  have hout : c.ref ∉ s.cc.queue := fun hin => h.away_seat (href ▸ List.mem_cons_self) .queue hin
  have hlive : ∀ a ∈ s.cc.queue, s.callOfRef a ≠ none := fun a ha => by
    obtain ⟨q, b, hb, rfl, -⟩ := h.of_seat (k := .queue) ha
    rw [State.callOfRef_of_sound h.sound hb]
    nofun
  rw [State.enqueue_of_some hc]
  refine h.arrive hr hc href (t := s.setQueue (insertByKey s.callOfRef c s.cc.queue))
    { calls := rfl
      nextRef := rfl
      players := rfl
      nodup := hperm.nodup_iff.mpr (List.nodup_cons.mpr ⟨hout, h.nodup⟩)
      ordered := (State.queue_ordered_iff h.sound).mpr (insertByKey_pairwise (State.callOfRef_of_sound h.sound hc) _ hlive
        ((State.queue_ordered_iff h.sound).mp h.ordered))
      seats := fun k a => ?seats
      own := fun w hw => by rw [hs] at hw; cases hw
      others := fun _ _ _ => rfl
      shaped := h.shaped
      drained := h.drained } (Call.settled_of_seat hs) hch
  rw [hs]
  cases k with
  | queue => exact (hperm.mem_iff.trans List.mem_cons).trans (or_comm.trans (or_congr_right (by simp)))
  | current w => exact ⟨.inl, fun ha => ha.elim id fun e => by cases e.2⟩
  | stack w => exact ⟨.inl, fun ha => ha.elim id fun e => by cases e.2⟩

/-- A call's record and channel are written, its seat and its key staying. -/
theorem State.inPlace.rewrite {y : Player} (h : s.inPlace sc away) (hc : s.cc.calls.get p = some c)
    (hr : d.ref = c.ref) (hl : d.line = c.line) (hs : d.seat = c.seat) (hset : c.ref ∉ away → d.settled)
    (hst : d.trunkState = c.trunkState) (hk : c.seat = some .queue → d.effective = c.effective ∧ d.sequence = c.sequence)
    (hid : sc.channels → d.state ≠ .originating → d.identity ≠ none) (hch : sc.channels → c.ref ∉ away → d.hears y) :
    ((s.setCall p (some d)).setPlayer p y).inPlace sc away := by
  have hget {q : LineNo} {a : Call} (ha : ((s.setCall p (some d)).setPlayer p y).cc.calls.get q = some a) :
      (q = p ∧ a = d) ∨ (p ≠ q ∧ s.cc.calls.get q = some a) := by
    rw [State.setPlayer_cc, State.setCall_cc, Table.get_set] at ha
    split at ha
    next e => exact .inl ⟨e.symm, (Option.some.inj ha).symm⟩
    next e => exact .inr ⟨e, ha⟩
  have hset_get : ((s.setCall p (some d)).setPlayer p y).cc.calls.get p = some d := Table.get_set_self _ _ _
  have hne_get {q : LineNo} (hq : p ≠ q) : ((s.setCall p (some d)).setPlayer p y).cc.calls.get q = s.cc.calls.get q :=
    Table.get_set_ne _ _ hq
  have hplayer {q : LineNo} (hq : p ≠ q) : ((s.setCall p (some d)).setPlayer p y).ap.players.get q = s.ap.players.get q :=
    Table.get_set_ne _ _ hq
  refine
    { sound := ?sound
      nodup := h.nodup
      ordered := ?ordered
      seats := fun k a => (h.seats k a).trans ?seats
      settled := fun q a ha hout => ?settled
      states := fun q a w ha hout hw => ?states
      shaped := h.shaped
      drained := h.drained
      silent := fun hx q hq => ?silent
      composed := fun hx q a ha => ?composed
      hears := fun hx q a ha hout => ?hears }
  case sound =>
    obtain ⟨hnext, hzero, huniq⟩ := h.sound
    refine ⟨hnext, fun q a ha => ?_, fun q q' a a' ha ha' haa => ?_⟩
    · rcases hget ha with ⟨-, rfl⟩ | ⟨-, ha⟩
      · exact hr ▸ hzero p c hc
      · exact hzero q a ha
    · rcases hget ha with ⟨rfl, rfl⟩ | ⟨-, g⟩ <;> rcases hget ha' with ⟨rfl, rfl⟩ | ⟨-, g'⟩
      · rfl
      · exact huniq _ _ c a' hc g' (by rwa [← hr, ← hl])
      · exact huniq _ _ a c g hc (by rwa [← hr, ← hl])
      · exact huniq _ _ a a' g g' haa
  case ordered =>
    have hold {x : CallRef} (hx : x ∈ s.cc.queue) {q : LineNo} {a : Call}
        (ha : ((s.setCall p (some d)).setPlayer p y).cc.calls.get q = some a) (hax : a.ref = x) :
        ∃ b, s.cc.calls.get q = some b ∧ b.ref = x ∧ a.effective = b.effective ∧ a.sequence = b.sequence := by
      rcases hget ha with ⟨rfl, rfl⟩ | ⟨-, g⟩
      · have hq : s.seats .queue c.ref := by rw [← hr, hax]; exact hx
        obtain ⟨he, hse⟩ := hk (h.seat_of hc hq).1
        exact ⟨c, hc, hr ▸ hax, he, hse⟩
      · exact ⟨a, g, hax, rfl, rfl⟩
    refine h.ordered.imp_of_mem fun {a b} ha hb hab q q' e e' he he' hea heb => ?_
    obtain ⟨x, hx, hxa, hxe, hxs⟩ := hold ha he hea
    obtain ⟨z, hz, hzb, hze, hzs⟩ := hold hb he' heb
    rw [Call.before_congr hze hzs hxe hxs]
    exact hab q q' x z hx hz hxa hzb
  case seats =>
    refine and_congr_right fun _ => ⟨?_, ?_⟩
    · rintro ⟨q, a, ha, rfl, hk'⟩
      by_cases hq : p = q
      · subst hq
        obtain rfl := Option.some.inj (hc.symm.trans ha)
        exact ⟨p, d, hset_get, hr, hs.trans hk'⟩
      · exact ⟨q, a, (hne_get hq).trans ha, rfl, hk'⟩
    · rintro ⟨q, a, ha, rfl, hk'⟩
      rcases hget ha with ⟨rfl, rfl⟩ | ⟨-, g⟩
      · exact ⟨_, c, hc, hr.symm, hs.symm.trans hk'⟩
      · exact ⟨q, a, g, rfl, hk'⟩
  case settled =>
    rcases hget ha with ⟨rfl, rfl⟩ | ⟨-, g⟩
    · exact hset (hr ▸ hout)
    · exact h.settled q a g hout
  case states =>
    rcases hget ha with ⟨rfl, rfl⟩ | ⟨-, g⟩
    · rw [hst]
      exact h.states _ c w hc (hr ▸ hout) (hs ▸ hw)
    · exact h.states q a w g hout hw
  case silent =>
    by_cases hqp : p = q
    · rw [← hqp, hset_get] at hq
      cases hq
    · rw [hplayer hqp]
      exact h.silent hx q ((hne_get hqp).symm.trans hq)
  case composed =>
    rcases hget ha with ⟨-, rfl⟩ | ⟨-, g⟩
    · exact hid hx
    · exact h.composed hx q a g
  case hears =>
    rcases hget ha with ⟨rfl, rfl⟩ | ⟨hqp, g⟩
    · have hy : ((s.setCall q (some a)).setPlayer q y).ap.players.get q = y := Table.get_set_self _ _ _
      rw [hy]
      exact hch hx (hr ▸ hout)
    · rw [hplayer hqp]
      exact h.hears hx q a g hout

theorem State.setPlayer_same (s : State) (p : LineNo) : s.setPlayer p (s.ap.players.get p) = s := by
  simp [State.setPlayer]

/-- A call's record is written, its seat, its key and its channel staying. -/
theorem State.inPlace.rewriteCall (h : s.inPlace sc away) (hc : s.cc.calls.get p = some c)
    (hr : d.ref = c.ref) (hl : d.line = c.line) (hst : d.state = c.state) (ht : d.trunk = c.trunk)
    (he : c.seat = some .queue → d.effective = c.effective ∧ d.sequence = c.sequence)
    (hid : sc.channels → d.state ≠ .originating → d.identity ≠ none)
    (hch : sc.channels → c.state = .waiting ∨ c.state = .offered → d.identity.map (·.snapshot) = c.identity.map (·.snapshot)) :
    (s.setCall p (some d)).inPlace sc away := by
  have hseat := Call.seat_congr hst ht
  have hw := h.rewrite (d := d) (y := s.ap.players.get p) hc hr hl hseat
    (fun hin => by
      have := h.settled p c hc hin
      rwa [Call.settled, hseat, hst, ht])
    (Call.trunkState_congr hst) he hid
    (fun hx hin => by
      obtain ⟨hactive, hchain⟩ := h.hears hx p c hc hin
      refine ⟨by rw [hst]; exact hactive, fun i hs hi => ?_⟩
      have hsnap := hch hx (hst ▸ hs)
      rw [hi, Option.map_some, eq_comm, Option.map_eq_some_iff] at hsnap
      obtain ⟨j, hj, hji⟩ := hsnap
      rw [← hji]
      exact hchain j (hst ▸ hs) hj)
  have hsame : (s.setCall p (some d)).setPlayer p (s.ap.players.get p) = s.setCall p (some d) :=
    State.setPlayer_same (s.setCall p (some d)) p
  rwa [hsame] at hw

end InSeat

end Sys2Proof.Machine
end

section
/-! An allocation pass (R84 to R87, R140, R141) leaves every call in its place. -/

namespace Sys2Proof.Machine

open Sys2Proof

/-! ### Trunks by their states (R97) -/

section Shapes

variable {x : Trunk}

theorem Trunk.reachable_iff : x.reachable = true ↔ x.service = .inService ∧ x.link = .up := by
  simp [Trunk.reachable]

theorem Trunk.eligible_iff : x.eligible = true ↔
    x.service = .inService ∧ x.link = .up ∧ x.state = .idle ∧ x.draining = false := by
  simp [Trunk.eligible, Trunk.reachable_iff, and_assoc]

/-- A trunk in one of the four states of a trunk in use is IN SERVICE with its link UP (R97). -/
theorem Trunk.shaped.reachable (h : x.shaped) (ho : x.state ≠ .outOfService) (hd : x.state ≠ .linkDown) :
    x.service = .inService ∧ x.link = .up := by
  obtain ⟨hout, hdown, -⟩ := h
  have hs : x.service = .inService := by
    cases hx : x.service with
    | inService => rfl
    | outOfService => exact absurd (hout.mp hx) ho
  refine ⟨hs, ?_⟩
  cases hl : x.link with
  | up => rfl
  | down => exact absurd (hdown.mp ⟨hs, hl⟩) hd

/-- A record IN SERVICE with its link UP has its shape if its current call and its timers go with its state (R97, R124). -/
theorem Trunk.shaped_of_reachable (hs : x.service = .inService) (hl : x.link = .up) (ho : x.state ≠ .outOfService)
    (hd : x.state ≠ .linkDown) (hc : x.state = .offering ∨ x.state = .connected ↔ x.current ≠ none)
    (hf : x.state = .offering ↔ x.offerTimer ≠ none) (hg : x.state = .guard_ ↔ x.guardTimer ≠ none)
    (hi : x.state = .idle ↔ x.idleSince ≠ none) (hn : x.stack.Nodup) : x.shaped :=
  ⟨by simp [hs, ho], by simp [hl, hd], hc, hf, hg, hi, hn, by simp [hl, ho]⟩

theorem Trunk.shaped.stack_nodup (h : x.shaped) : x.stack.Nodup := by
  obtain ⟨-, -, -, -, -, -, hn, -⟩ := h
  exact hn

theorem Trunk.shaped.current (h : x.shaped) : x.state = .offering ∨ x.state = .connected ↔ x.current ≠ none := by
  obtain ⟨-, -, hc, -⟩ := h
  exact hc

/-- Only an OFFERING or CONNECTED trunk has a current call (R97). -/
theorem Trunk.shaped.current_none (h : x.shaped) (hf : x.state ≠ .offering) (hc : x.state ≠ .connected) :
    x.current = none := by
  by_contra hn
  exact (h.current.mpr hn).elim hf hc

/-- A trunk with calls on its stack is IN SERVICE with its link UP (R100, R103). -/
theorem Trunk.shaped.stack_reachable (h : x.shaped) (hn : x.stack ≠ []) : x.service = .inService ∧ x.link = .up := by
  have h' := h
  obtain ⟨-, hdown, -, -, -, -, -, hempty⟩ := h
  exact h'.reachable (fun e => hn (hempty (.inr e))) fun e => hn (hempty (.inl (hdown.mpr e).2))

theorem Trunk.shaped_offering (hs : x.service = .inService) (hl : x.link = .up) (hn : x.stack.Nodup) (r : CallRef)
    (n : Nat) : (x.offering r n).shaped :=
  shaped_of_reachable hs hl (by nofun) (by nofun) (by simp [Trunk.offering]) (by simp [Trunk.offering])
    (by simp [Trunk.offering]) (by simp [Trunk.offering]) hn

end Shapes

section Passes

variable {s t : State} {sc : Scope} {away : List CallRef} {p : LineNo} {c : Call} {r : CallRef} {u : TrunkNo}

namespace State.inPlace

theorem side (h : s.inPlace sc away) (ht : t.callSide = s.callSide) : t.inPlace sc away :=
  h.of_sameStations (.of_callSide ht)

theorem sendDesk (h : s.inPlace sc away) (u : TrunkNo) (m : DeskMessage) : (s.sendDesk u m).inPlace sc away :=
  h.of_sameStations (State.sendDesk_sameStations s u m)

theorem sendIdent (h : s.inPlace sc away) (u : TrunkNo) (p : LineNo) : (s.sendIdent u p).inPlace sc away :=
  h.of_sameStations (State.sendIdent_sameStations s u p)

theorem judgeNoTrunk (h : s.inPlace sc away) : s.judgeNoTrunk.inPlace sc away := h.side (by simp)

/-- The call behind a reference of the queue is WAITING (R79). -/
theorem queued (h : s.inPlace sc away) (hr : r ∈ s.cc.queue) :
    ∃ p c, s.cc.calls.get p = some c ∧ c.ref = r ∧ c.state = .waiting ∧ c.trunk = none ∧ s.placeOfRef r = some p ∧
      r ∉ away := by
  have hq : s.seats .queue r := hr
  obtain ⟨p, c, hc, hcr, hs, hp, hout⟩ := h.of_seat hq
  obtain ⟨hw, ht⟩ := Call.seat_eq_queue.mp hs
  exact ⟨p, c, hc, hcr, hw, ht, hp, hout⟩

/-- A queued call is offered on an eligible-idle trunk (R85 to R87). -/
theorem offer (h : s.inPlace sc away) (hr : r ∈ s.cc.queue) (hp : s.placeOfRef r = some p)
    (he : (s.trunk u).eligible = true) : (s.offer u p).inPlace sc away := by
  obtain ⟨q, c, hc, hcr, hw, ht, hq, hout⟩ := h.queued hr
  obtain rfl := Option.some.inj (hp.symm.trans hq)
  obtain ⟨hs, hl, hi, hd⟩ := Trunk.eligible_iff.mp he
  have hnone : (s.trunk u).current = none := (h.shaped u).current_none (by simp [hi]) (by simp [hi])
  have hoffered : (s.offerCall u p c).inPlace sc away := by
    subst hcr
    have hleft := (h.leaveQueue hr).write (d := c.offeredOn u) hc List.mem_cons_self rfl rfl
      fun hch _ => h.composed hch p c hc (by simp [hw])
    refine hleft.arriveCurrent (c := c.offeredOn u) hout (Table.get_set_self _ _ _) rfl
      (Call.seat_eq_current.mpr ⟨.inl rfl, rfl⟩) hnone
      (Trunk.shaped_offering hs hl (h.shaped u).stack_nodup _ _) rfl rfl rfl (fun _ => hd) fun hch => ?_
    obtain ⟨hactive, hchain⟩ := h.hears hch p c hc hout
    exact ⟨iff_of_true (hactive.mpr (.inl hw)) (.inr (.inl rfl)), fun i _ hid => hchain i (.inl hw) hid⟩
  rcases State.offer_of_waiting (w := u) hc hw with ho | ⟨m, ho⟩ <;> rw [ho]
  · exact hoffered
  · exact hoffered.sendDesk u m

/-- What a step of a pass does on one trunk: nothing, or it offers a queued call. -/
theorem offerHead (h : s.inPlace sc away) (he : (s.trunk u).eligible = true) : (s.offerHead u).inPlace sc away := by
  unfold State.offerHead
  split
  next p hp =>
    obtain ⟨r, hr, hp⟩ := Option.bind_eq_some_iff.mp hp
    exact h.offer (List.mem_of_mem_head? hr) hp he
  next => exact h

theorem offerQualified (h : s.inPlace sc away) (he : (s.trunk u).eligible = true) :
    (s.offerQualified u).inPlace sc away := by
  unfold State.offerQualified
  split
  next p hp =>
    obtain ⟨r, hr, hp⟩ := Option.bind_eq_some_iff.mp hp
    exact h.offer (List.mem_of_find?_eq_some hr) hp he
  next => exact h

end State.inPlace

theorem State.offersOn.trunk_ne {w v : TrunkNo} (h : s.offersOn w t) (hv : w ≠ v) : t.trunk v = s.trunk v := by
  rcases h with rfl | ⟨r, p, -, rfl⟩
  · rfl
  · exact State.offer_trunk_ne p hv

/-- Steps of a pass, each on an eligible-idle trunk of its own (R84). -/
theorem State.inPlace.foldl_offers {f : State → TrunkNo → State} (hon : ∀ (s : State) w, s.offersOn w (f s w))
    (hf : ∀ (s : State) w, s.inPlace sc away → (s.trunk w).eligible = true → (f s w).inPlace sc away)
    (ws : List TrunkNo) (s : State) (h : s.inPlace sc away) (hn : ws.Nodup)
    (he : ∀ w ∈ ws, (s.trunk w).eligible = true) : (ws.foldl f s).inPlace sc away := by
  induction ws generalizing s with
  | nil => exact h
  | cons w ws ih =>
    obtain ⟨hw, hn⟩ := List.nodup_cons.mp hn
    refine ih _ (hf s w h (he w List.mem_cons_self)) hn fun v hv => ?_
    rw [(hon s w).trunk_ne fun e => hw (e ▸ hv)]
    exact he v (List.mem_cons_of_mem w hv)

theorem State.mem_eligibleTrunks {g : TrunkGroup} {w : TrunkNo} :
    w ∈ s.eligibleTrunks g ↔ (s.trunk w).eligible = true ∧ (s.trunk w).group = g := by
  rw [State.eligibleTrunks, List.mem_insertionSort, List.mem_filter]
  simp

namespace State.inPlace

/-- A CONNECTED call becomes PREEMPTING where it stands, on the warning chain (R141, R154). -/
theorem preemptCall (h : s.inPlace sc away) (hc : s.cc.calls.get p = some c) (hs : c.state = .connected) :
    (s.preemptCall p c).inPlace sc away := by
  have hseat : c.preempted.seat = c.seat := by
    cases ht : c.trunk <;> simp [Call.seat, Call.preempted, hs, ht]
  refine h.rewrite (d := c.preempted) hc rfl rfl hseat (fun hout => ?_) ?_ (fun hq => ?_)
    (fun hch _ => h.composed hch p c hc (by simp [hs])) fun _ _ => ?_
  · rcases h.settled p c hc hout with hst | ⟨hst, -⟩
    · exact .inl (hseat ▸ hst)
    · rw [hs] at hst
      cases hst
  · rw [Call.trunkState, Call.trunkState, hs]
    rfl
  · rw [Call.seat_eq_queue, hs] at hq
    cases hq.1
  · exact ⟨iff_of_true (by nofun) (.inr (.inr (.inr rfl))), fun i hst => by simp [Call.preempted] at hst⟩

theorem examine (h : s.inPlace sc away) : s.examine.inPlace sc away := by
  unfold State.examine
  split
  next p hp =>
    obtain ⟨c, hc, hs⟩ := State.preemptionChoice_connected hp
    rw [State.startPreemption_eq hc]
    split
    · exact (h.preemptCall hc hs).sendDesk _ _
    · exact h.preemptCall hc hs
  next => exact h

theorem pass (h : s.inPlace sc away) : s.pass.inPlace sc away := by
  have hp := State.inPlace.foldl_offers State.offerHead_offersOn (fun _ _ => State.inPlace.offerHead)
    (s.eligibleTrunks .primary) s h (s.eligibleTrunks_nodup _) fun w hw => (State.mem_eligibleTrunks.mp hw).1
  have ho (v : State) (hv : v.inPlace sc away) :=
    State.inPlace.foldl_offers State.offerQualified_offersOn (fun _ _ => State.inPlace.offerQualified)
      (v.eligibleTrunks .overflow) v hv (v.eligibleTrunks_nodup _) fun w hw => (State.mem_eligibleTrunks.mp hw).1
  exact (ho _ hp).judgeNoTrunk.examine

theorem changed (h : s.inPlace sc away) : s.changed.inPlace sc away := h.judgeNoTrunk.pass

end State.inPlace

end Passes

end Sys2Proof.Machine
end

section
/-! The end of a call with any cause (R90 to R92), in two parts: the call leaves its seat, and what is left of it goes. -/

namespace Sys2Proof.Machine

open Sys2Proof

section Ends

variable {s t : State} {sc : Scope} {away : List CallRef} {p : LineNo} {c : Call} {r : CallRef} {u : TrunkNo} {k : Cause}

/-! ### The call leaves its seat (R90, R91, R115) -/

/-- The first steps of the end of call `c` with cause `k`: out of the queue or the hold stack, its desk told, its trunk in
GUARD (R90). -/
def State.leave (s : State) (c : Call) (k : Cause) : State := ((s.removeCall c).endMessage c k).freeTrunk c

/-- The desk message of an end, on the record of the call's trunk (R91). -/
theorem State.endMessage_eq_mapTrunk (s : State) (k : Cause) (h : c.trunk = some u) :
    s.endMessage c k = s.mapTrunk u fun x => x.delivered (c.endMessage k).toList := by
  have hnone : s = s.mapTrunk u fun x => x.delivered [] := (s.mapTrunk_same rfl).symm
  unfold State.endMessage Call.endMessage
  rw [h]
  cases c.state <;> dsimp only
  case originating | waiting => exact hnone
  case offered | held => exact State.sendDesk_eq_mapTrunk s u _
  all_goals
    split
    · exact hnone
    · exact State.sendDesk_eq_mapTrunk s u _

/-- An ended call that is on no trunk leaves the queue, if it stands there, and nothing else (R90). -/
theorem State.leave_of_none (s : State) (k : Cause) (h : c.trunk = none) :
    s.leave c k = s.setQueue (if c.state = .waiting then s.cc.queue.erase c.ref else s.cc.queue) := by
  unfold State.leave State.removeCall State.endMessage State.freeTrunk
  rw [h]
  cases c.state <;> rfl

/-- An ended call on a trunk leaves that, with a message for the desk, and the queue if it stands there (R90, R91). -/
theorem State.leave_of_some (s : State) (k : Cause) (h : c.trunk = some u) :
    s.leave c k = (s.setQueue (if c.state = .waiting then s.cc.queue.erase c.ref else s.cc.queue)).mapTrunk u
      fun x => (x.delivered (c.endMessage k).toList).lets c s.ti.guardTime := by
  by_cases hh : c.state = .held
  · have hremove : s.removeCall c = s.mapTrunk u fun x => { x with stack := x.stack.erase c.ref } := by
      rw [State.removeCall, hh, h]
    have hfree (t : State) : t.freeTrunk c = t := by simp [State.freeTrunk, h, hh]
    rw [State.leave, hfree, State.endMessage_eq_mapTrunk _ k h, hremove, State.mapTrunk_mapTrunk, hh]
    refine congrArg (s.mapTrunk u) (funext fun x => ?_)
    rw [Trunk.lets, if_pos hh, Trunk.delivered_eq, Trunk.delivered_eq]
    split <;> rfl
  · have hremove : s.removeCall c =
        s.setQueue (if c.state = .waiting then s.cc.queue.erase c.ref else s.cc.queue) := by
      unfold State.removeCall
      cases hs : c.state <;> simp_all <;> rfl
    have hfree (t : State) : t.freeTrunk c = t.mapTrunk u fun x => x.lets c t.ti.guardTime := by
      unfold State.freeTrunk
      rw [h]
      dsimp only
      split
      next hc => simp [State.enterGuard, State.mapTrunk, Trunk.lets, hh, hc.2, Trunk.guarding]
      next hc =>
        refine (t.mapTrunk_same ?_).symm
        rw [Trunk.lets, if_neg hh, if_neg fun e => hc ⟨hh, e⟩]
    rw [State.leave, hfree, State.endMessage_eq_mapTrunk _ k h, hremove, State.mapTrunk_mapTrunk]
    rfl

@[simp] theorem State.leave_calls (s : State) (c : Call) (k : Cause) : (s.leave c k).cc.calls = s.cc.calls := by
  cases h : c.trunk with
  | none => rw [s.leave_of_none k h]; rfl
  | some u => rw [s.leave_of_some k h]; rfl

@[simp] theorem State.leave_ap (s : State) (c : Call) (k : Cause) : (s.leave c k).ap = s.ap := by
  cases h : c.trunk with
  | none => rw [s.leave_of_none k h]; rfl
  | some u => rw [s.leave_of_some k h]; rfl

/-! ### The end of a call in place -/

theorem Trunk.shaped_guarding {x : Trunk} (hs : x.service = .inService) (hl : x.link = .up) (hn : x.stack.Nodup)
    (n : Nat) : (x.guarding n).shaped :=
  shaped_of_reachable hs hl (by nofun) (by nofun) (by simp [Trunk.guarding]) (by simp [Trunk.guarding])
    (by simp [Trunk.guarding]) (by simp [Trunk.guarding]) hn

/-- A trunk with fewer calls on its stack has its shape (R124). -/
theorem Trunk.shaped.sublist {x y : Trunk} (h : x.shaped) (hs : y.stack.Sublist x.stack)
    (hb : { y with stack := x.stack }.berth = x.berth) : y.shaped := by
  simp only [Trunk.berth, Prod.mk.injEq] at hb
  obtain ⟨b1, b2, b3, b4, -, b6, b7, b8, -⟩ := hb
  obtain ⟨h1, h2, h3, h4, h5, h6, h7, h8⟩ := h
  have hnone {α : Type} (x y : Option α) (hxy : x.isSome = y.isSome) : x ≠ none ↔ y ≠ none := by
    cases x <;> cases y <;> simp_all
  unfold Trunk.shaped
  rw [b1, b2, b3, b4, hnone _ _ b6, hnone _ _ b7, hnone _ _ b8]
  exact ⟨h1, h2, h3, h4, h5, h6, h7.sublist hs, fun e => List.sublist_nil.mp (h8 e ▸ hs)⟩

namespace State.inPlace

/-- A call that needs no seat can be taken for away. -/
theorem leaveNowhere (h : s.inPlace sc away) (hc : s.cc.calls.get p = some c) (hs : c.seat = none) :
    s.inPlace sc (c.ref :: away) :=
  { h with
    seats := fun k a => (h.seats k a).trans (by
      refine ⟨fun ⟨hout, q, d, hd, hr, hk⟩ => ⟨fun hm => ?_, q, d, hd, hr, hk⟩, fun ⟨hout, ha⟩ =>
        ⟨fun hm => hout (List.mem_cons_of_mem _ hm), ha⟩⟩
      rcases List.mem_cons.mp hm with e | hm
      · obtain ⟨hdc, -⟩ := h.sound.eq hd hc (hr.trans e)
        rw [hdc, hs] at hk
        cases hk
      · exact hout hm)
    settled := fun q a ha hin => h.settled q a ha fun hm => hin (List.mem_cons_of_mem _ hm)
    states := fun q a u ha hin => h.states q a u ha fun hm => hin (List.mem_cons_of_mem _ hm)
    hears := fun hc' q a ha hin => h.hears hc' q a ha fun hm => hin (List.mem_cons_of_mem _ hm) }

/-- The current call of a trunk leaves it. -/
theorem vacate {y : Trunk} (h : s.inPlace sc away) (hr : (s.trunk u).current = some r) (hy : y.shaped)
    (hc : y.current = none) (hs : y.stack = (s.trunk u).stack) (hd : y.draining = (s.trunk u).draining) :
    (s.setTrunk u y).inPlace sc (r :: away) := by
  refine h.release hy (.inl hc) (hs ▸ List.Sublist.refl _) (.inl hd) fun a => ?_
  rw [List.mem_cons, hr, hc, hs]
  simp [or_comm, eq_comm]

/-- A trunk with a current call is IN SERVICE with its link UP (R97). -/
theorem reachable_of_current (h : s.inPlace sc away) (hr : (s.trunk u).current = some r) :
    (s.trunk u).service = .inService ∧ (s.trunk u).link = .up := by
  have hx := h.shaped u
  have hst := hx.current.mpr (by rw [hr]; nofun)
  exact hx.reachable (fun e => by rw [e] at hst; simp at hst) fun e => by rw [e] at hst; simp at hst

/-- The current call of a trunk leaves it, and the trunk goes into GUARD (R115). -/
theorem leaveCurrent {y : Trunk} (h : s.inPlace sc away) (hr : (s.trunk u).current = some r)
    (hy : y.berth = (s.trunk u).berth) (n : Nat) : (s.setTrunk u (y.guarding n)).inPlace sc (r :: away) := by
  simp only [Trunk.berth, Prod.mk.injEq] at hy
  obtain ⟨b1, b2, -, -, b5, -, -, -, b9⟩ := hy
  obtain ⟨hs, hl⟩ := h.reachable_of_current hr
  exact h.vacate hr (Trunk.shaped_guarding (b1.trans hs) (b2.trans hl) (b5 ▸ (h.shaped u).stack_nodup) n) rfl b5 b9

/-- A call leaves the hold stack of its trunk (R124). -/
theorem leaveStack {y : Trunk} (h : s.inPlace sc away) (hr : r ∈ (s.trunk u).stack)
    (hy : { y with stack := (s.trunk u).stack }.berth = (s.trunk u).berth) (hs : y.stack = (s.trunk u).stack.erase r) :
    (s.setTrunk u y).inPlace sc (r :: away) := by
  have hsub : y.stack.Sublist (s.trunk u).stack := hs ▸ List.erase_sublist
  have hshaped := (h.shaped u).sublist hsub hy
  simp only [Trunk.berth, Prod.mk.injEq] at hy
  obtain ⟨-, -, b3, b4, -, -, -, -, b9⟩ := hy
  refine h.release hshaped (.inr ⟨b4, .inr b3⟩) hsub (.inl b9) fun a => ?_
  rw [hs, (h.shaped u).stack_nodup.mem_erase_iff, List.mem_cons, b4]
  by_cases e : a = r
  · simp [e, hr]
  · simp only [e, false_or, not_and, ne_eq, not_false_eq_true, forall_const]
    refine ⟨.inl, ?_⟩
    rintro (hm | ⟨hcur, hn⟩ | ⟨hin, hno⟩)
    · exact hm
    · rw [hcur] at hn
      cases hn
    · exact absurd hin hno

/-- An ended call leaves its seat (R90). -/
theorem leave (h : s.inPlace sc away) (hc : s.cc.calls.get p = some c) (hout : c.ref ∉ away) (k : Cause) :
    (s.leave c k).inPlace sc (c.ref :: away) := by
  cases hk : c.seat with
  | none =>
    rcases h.settled p c hc hout with hs | ⟨hs, ht⟩
    · exact absurd hk hs
    · rw [s.leave_of_none k ht, if_neg (by simp [hs])]
      exact h.leaveNowhere hc hk
  | some seat =>
    have hseat := h.seat hc hout hk
    cases seat with
    | queue =>
      obtain ⟨hs, ht⟩ := Call.seat_eq_queue.mp hk
      rw [s.leave_of_none k ht, if_pos hs]
      exact h.leaveQueue hseat
    | current u =>
      obtain ⟨hs, ht⟩ := Call.seat_eq_current.mp hk
      have hnw : c.state ≠ .waiting := fun e => by simp [e] at hs
      have hnh : c.state ≠ .held := fun e => by simp [e] at hs
      have hcur : ((s.trunk u).delivered (c.endMessage k).toList).current = some c.ref := by
        rw [Trunk.delivered_frame]
        exact hseat
      rw [s.leave_of_some k ht, if_neg hnw]
      change (s.setTrunk u (((s.trunk u).delivered (c.endMessage k).toList).lets c s.ti.guardTime)).inPlace sc _
      rw [Trunk.lets, if_neg hnh, if_pos hcur]
      exact h.leaveCurrent hseat (by rw [Trunk.delivered_frame]; rfl) _
    | stack u =>
      obtain ⟨hs, ht⟩ := Call.seat_eq_stack.mp hk
      rw [s.leave_of_some k ht, if_neg (by simp [hs])]
      change (s.setTrunk u (((s.trunk u).delivered (c.endMessage k).toList).lets c s.ti.guardTime)).inPlace sc _
      rw [Trunk.lets, if_pos hs]
      exact h.leaveStack hseat (by rw [Trunk.delivered_frame]; rfl) (by rw [Trunk.delivered_frame])

/-- A RINGING call that has already lost its trunk leaves nothing but a message (R101). -/
theorem leaveLost (h : s.inPlace sc away) (hin : c.ref ∈ away) (hs : c.state = .ringing) (k : Cause) :
    (s.leave c k).inPlace sc away := by
  cases ht : c.trunk with
  | none =>
    rw [s.leave_of_none k ht, if_neg (by simp [hs])]
    exact h
  | some u =>
    have hcur : ((s.trunk u).delivered (c.endMessage k).toList).current ≠ some c.ref := by
      rw [Trunk.delivered_frame]
      exact h.away_seat hin (.current u)
    rw [s.leave_of_some k ht, if_neg (by simp [hs])]
    change (s.setTrunk u (((s.trunk u).delivered (c.endMessage k).toList).lets c s.ti.guardTime)).inPlace sc _
    rw [Trunk.lets, if_neg (by simp [hs]), if_neg hcur]
    exact h.of_sameStations ((State.sameStations.refl s).setTrunk (by rw [Trunk.delivered_frame]; rfl))

end State.inPlace

/-! ### What is left of it goes (R90, R92, R140) -/

/-- The end of call `c` of place `p` with cause `k`, but for what a WAITING call's removal and a preemption's end bring
with them (R90). -/
def State.ended (s : State) (p : LineNo) (c : Call) (k : Cause) : State :=
  let s := (s.leave c k).stopPlayer p
  let s := { s with callEnds := s.callEnds ++ [c.line] }
  ((s.record (.callEnd (s.callEndOf c k))).report
    (.callEvent c.ref c.line (c.identity.map CallIdentity.kind) c.state k s.journal.nextNumber)).setCall p none

/-- After an end: the pass for a WAITING call, the examination for a preempted one (R90, R140). -/
def State.after (s : State) (st : CallState) : State :=
  match st with
  | .waiting => s.changed
  | .preempting => s.examine
  | _ => s

theorem State.endCall_of_some (hc : s.cc.calls.get p = some c) (k : Cause) :
    s.endCall p k = (s.ended p c k).after c.state := by
  unfold State.endCall
  rw [hc]
  cases hs : c.state <;> simp [State.after, State.ended, State.leave, hs]

theorem State.endCall_of_none (hc : s.cc.calls.get p = none) (k : Cause) : s.endCall p k = s := by
  unfold State.endCall
  rw [hc]

namespace State.inPlace

/-- The record of a call that has left its seat goes, and its channel stops (R90, R153). -/
theorem ended (h : (s.leave c k).inPlace sc (c.ref :: away)) (hc : s.cc.calls.get p = some c) :
    (s.ended p c k).inPlace sc away := by
  have hget : (s.leave c k).cc.calls.get p = some c := by simpa using hc
  have hstop := h.setPlayer hget List.mem_cons_self .inactive
  let v := (s.leave c k).stopPlayer p
  have hv : v.inPlace sc (c.ref :: away) := hstop
  let w := ({ v with callEnds := v.callEnds ++ [c.line] } : State)
  have hw : w.inPlace sc (c.ref :: away) := hv.side rfl
  have hrecorded := hw.side (t := (w.record (.callEnd (w.callEndOf c k))).report
    (.callEvent c.ref c.line (c.identity.map CallIdentity.kind) c.state k w.journal.nextNumber)) (by simp)
  refine hrecorded.remove (c := c) (by simpa [w, v, State.stopPlayer] using hc) rfl fun _ => ?_
  simp [State.stopPlayer]

theorem after (h : s.inPlace sc away) (st : CallState) : (s.after st).inPlace sc away := by
  unfold State.after
  split
  · exact h.changed
  · exact h.examine
  · exact h

theorem endCall (h : s.inPlace sc away) (hc : s.cc.calls.get p = some c) (hout : c.ref ∉ away) (k : Cause) :
    (s.endCall p k).inPlace sc away := by
  rw [State.endCall_of_some hc]
  exact ((h.leave hc hout k).ended hc).after _

theorem endLost (h : s.inPlace sc (c.ref :: away)) (hc : s.cc.calls.get p = some c) (hs : c.state = .ringing)
    (k : Cause) : (s.endCall p k).inPlace sc away := by
  rw [State.endCall_of_some hc]
  exact ((h.leaveLost List.mem_cons_self hs k).ended hc).after _

end State.inPlace

end Ends

end Sys2Proof.Machine
end

section
/-! Back to the queue: calls handed back, rescued or ended as an offer ends or a link is lost (R80, R81, R100 to R102, R110,
R111). -/

namespace Sys2Proof.Machine

open Sys2Proof

section Returns

variable {s t : State} {sc : Scope} {away : List CallRef} {p q : LineNo} {c d : Call} {r : CallRef} {u : TrunkNo} {k : Cause}

theorem State.mapCall_of_some (hc : s.cc.calls.get p = some c) (f : Call → Call) :
    s.mapCall p f = s.setCall p (some (f c)) := by
  rw [State.mapCall, hc]
  rfl

/-- The call behind the current reference of a trunk (R97). -/
theorem State.inPlace.current (h : s.inPlace sc away) (hr : (s.trunk u).current = some r) :
    ∃ p c, s.cc.calls.get p = some c ∧ c.ref = r ∧ c.seat = some (.current u) ∧ (s.trunk u).state = c.trunkState ∧
      s.placeOfRef r = some p ∧ r ∉ away := by
  obtain ⟨p, c, hc, rfl, hs, hp, hout⟩ := h.of_seat (k := .current u) hr
  exact ⟨p, c, hc, rfl, hs, h.states p c u hc hout hs, hp, hout⟩

/-- The current call of an OFFERING trunk is OFFERED (R97). -/
theorem Call.offered_of_trunkState (h : c.trunkState = .offering) : c.state = .offered := by
  unfold Call.trunkState at h
  split at h
  next hs => exact hs
  next => cases h

/-! ### Entering WAITING (R80) -/

/-- The chain that a call is given as it enters WAITING does not touch the queue (R80). -/
theorem State.enqueue_selectChain (s : State) (p q : LineNo) (ch : Fin 16) :
    (s.enqueue p).selectChain q ch = (s.selectChain q ch).enqueue p := by
  cases hc : s.cc.calls.get p with
  | none => simp [State.enqueue, State.selectChain, hc]
  | some c =>
    rw [State.enqueue_of_some hc, State.enqueue_of_some (s := s.selectChain q ch) hc]
    rfl

/-- A call enters WAITING: its record, its channel where it does not come from OFFERED, and its place in the queue (R80,
R154). -/
theorem State.enterWaiting_of_some (hc : s.cc.calls.get p = some c) :
    s.enterWaiting p = (s.setCall p (some (c.toWaiting s.cc.now))).enqueue p ∧ (c.state = .offered ∨ c.identity = none) ∨
    ∃ i, c.identity = some i ∧ c.state ≠ .offered ∧ s.enterWaiting p =
      ((s.setCall p (some (c.toWaiting s.cc.now))).selectChain p i.snapshot.waitingChain).enqueue p := by
  unfold State.enterWaiting
  rw [hc]
  dsimp only
  split
  next hs => exact .inl ⟨rfl, .inl hs⟩
  next hs =>
    cases hi : c.identity with
    | none => exact .inl ⟨rfl, .inr rfl⟩
    | some i => exact .inr ⟨i, rfl, hs, State.enqueue_selectChain _ _ _ _⟩

/-- Entering WAITING concerns one place only. -/
theorem State.enterWaiting_ne (s : State) (h : p ≠ q) :
    (s.enterWaiting p).cc.calls.get q = s.cc.calls.get q ∧ (s.enterWaiting p).ap.players.get q = s.ap.players.get q := by
  cases hc : s.cc.calls.get p with
  | none => simp [State.enterWaiting, hc]
  | some c =>
    rcases State.enterWaiting_of_some hc with ⟨he, -⟩ | ⟨i, -, -, he⟩ <;>
      simp [he, State.enqueue_calls, State.enqueue_ap, State.selectChain, h]

namespace State.inPlace

/-- A call that is away enters WAITING (R80). -/
theorem enterWaiting (h : s.inPlace sc (c.ref :: away)) (hr : c.ref ∉ away) (hc : s.cc.calls.get p = some c)
    (hid : sc.channels → c.identity ≠ none) (hch : sc.channels → c.state = .offered → c.hears (s.ap.players.get p)) :
    (s.enterWaiting p).inPlace sc away := by
  have hseat : (c.toWaiting s.cc.now).seat = some .queue := Call.seat_eq_queue.mpr ⟨rfl, rfl⟩
  have hw := h.write (d := c.toWaiting s.cc.now) hc List.mem_cons_self rfl rfl fun hx _ => hid hx
  have hget : (s.setCall p (some (c.toWaiting s.cc.now))).cc.calls.get p = some (c.toWaiting s.cc.now) :=
    Table.get_set_self _ _ _
  rcases State.enterWaiting_of_some hc with ⟨he, hor⟩ | ⟨i, hi, -, he⟩ <;> rw [he]
  · refine hw.arriveQueue hr hget rfl hseat fun hx => ?_
    have hs : c.state = .offered := hor.resolve_right (hid hx)
    obtain ⟨hactive, hchain⟩ := hch hx hs
    exact ⟨iff_of_true (hactive.mpr (.inr (.inl hs))) (.inl rfl), fun i _ hi => hchain i (.inr hs) hi⟩
  · refine (hw.setPlayer hget List.mem_cons_self _).arriveQueue hr hget rfl hseat fun _ => ?_
    have hplayer : ((s.setCall p (some (c.toWaiting s.cc.now))).setPlayer p
        (.active i.snapshot.waitingChain (startStep (s.ap.chains.get i.snapshot.waitingChain) 1))).ap.players.get p =
        .active i.snapshot.waitingChain (startStep (s.ap.chains.get i.snapshot.waitingChain) 1) := Table.get_set_self _ _ _
    refine ⟨iff_of_true ?_ (.inl rfl), fun j _ hj => ?_⟩
    · exact fun e => Player.noConfusion (hplayer.symm.trans e)
    · obtain rfl : i = j := Option.some.inj (hi.symm.trans hj)
      exact ⟨_, hplayer⟩

/-- An OFFERED call that has left its trunk goes back to the queue (R81). -/
theorem handBack (h : s.inPlace sc (c.ref :: away)) (hr : c.ref ∉ away) (hc : s.cc.calls.get p = some c)
    (hs : c.state = .offered) (hch : sc.channels → c.hears (s.ap.players.get p)) (counted : Bool) :
    (s.handBack c.ref counted).inPlace sc away := by
  unfold State.handBack
  rw [State.placeOfRef_of_sound h.sound hc]
  dsimp only
  rw [State.mapCall_of_some hc]
  have hid (hx : sc.channels) : c.identity ≠ none := h.composed hx p c hc (by simp [hs])
  let d : Call := { c with offerCount := if counted then min (c.offerCount + 1) 255 else c.offerCount }
  have hw := h.write (d := d) hc List.mem_cons_self rfl rfl fun hx _ => hid hx
  exact State.inPlace.enterWaiting (c := d) hw hr (Table.get_set_self _ _ _) hid fun hx _ => hch hx

/-- An offer that ends without acceptance (R110, R111). -/
theorem endOffer (h : s.inPlace sc away) (hst : (s.trunk u).state = .offering) (hr : (s.trunk u).current = some r)
    (k : Cause) : (s.endOffer u r k).inPlace sc away := by
  obtain ⟨p, c, hc, rfl, hseat, hts, hp, hout⟩ := h.current hr
  have hs := Call.offered_of_trunkState (hts.symm.trans hst)
  obtain ⟨y, hy, hm⟩ := State.sendDesk_eq_setTrunk s u (.withdraw c.ref k)
  have hg : (s.sendDesk u (.withdraw c.ref k)).enterGuard u = s.setTrunk u (y.guarding s.ti.guardTime) := by
    rw [hy, State.enterGuard, State.mapTrunk, State.trunk_setTrunk_self, State.setTrunk_setTrunk]
    rfl
  have hberth : y.berth = (s.trunk u).berth := by
    have := (State.sendDesk_sameStations s u (.withdraw c.ref k)).trunks u
    rwa [hy, State.trunk_setTrunk_self] at this
  unfold State.endOffer
  rw [hg]
  have hleft := h.leaveCurrent hr hberth s.ti.guardTime
  exact (hleft.handBack hout (show (s.setTrunk u _).cc.calls.get p = some c from hc) hs
    (fun hx => h.hears hx p c hc hout) true).changed

end State.inPlace

/-! ### Rescue (R81, R101) -/

/-- A call that a trunk had, and that is on its way after the trunk's link went DOWN (R101). -/
def State.lost (s : State) (sc : Scope) (r : CallRef) : Prop :=
  ∃ p c, s.cc.calls.get p = some c ∧ c.ref = r ∧ c.state ≠ .originating ∧ c.state ≠ .waiting ∧
    (sc.channels → c.state = .offered → c.hears (s.ap.players.get p))

/-- What a pass leaves of a lost call (R84, R140). -/
theorem State.lost.passed (h : s.lost sc r) (ht : s.passedTo t) : t.lost sc r := by
  obtain ⟨p, c, hc, rfl, ho, hw, hch⟩ := h
  obtain ⟨b, hb, hcb⟩ := ht.calls p c hc
  rcases hcb with rfl | ⟨hw', -⟩ | ⟨-, hb'⟩
  · refine ⟨p, b, hb, rfl, ho, hw, fun hx hs => ?_⟩
    rw [ht.players p fun a ha => by obtain rfl := Option.some.inj (hc.symm.trans ha); simp [hs]]
    exact hch hx hs
  · exact absurd hw' hw
  · refine ⟨p, b, hb, by rw [hb'], by rw [hb']; nofun, by rw [hb']; nofun, fun _ hs => ?_⟩
    rw [hb'] at hs
    cases hs

/-- A lost call is where it was if its place and its channel are. -/
theorem State.lost.of_ne (h : s.lost sc r) (hc : s.cc.calls.get p = some c) (hr : c.ref ≠ r)
    (hcalls : ∀ q, p ≠ q → t.cc.calls.get q = s.cc.calls.get q)
    (hplayers : ∀ q, p ≠ q → t.ap.players.get q = s.ap.players.get q) : t.lost sc r := by
  obtain ⟨q, d, hd, rfl, ho, hw, hch⟩ := h
  have hne : p ≠ q := fun e => by
    subst e
    obtain rfl := Option.some.inj (hc.symm.trans hd)
    exact hr rfl
  refine ⟨q, d, (hcalls q hne).trans hd, rfl, ho, hw, fun hx hs => ?_⟩
  rw [hplayers q hne]
  exact hch hx hs

theorem State.ended_ne (s : State) (c : Call) (k : Cause) (h : p ≠ q) :
    (s.ended p c k).cc.calls.get q = s.cc.calls.get q ∧ (s.ended p c k).ap.players.get q = s.ap.players.get q := by
  simp [State.ended, State.stopPlayer, h]

/-- The record of a call rescued in state `st` (R81, R101). -/
def Call.rescuedAs (c : Call) (st : CallState) : Call :=
  if st = .offered then { c with rescued := true }
  else { c with rescued := true, identity := c.identity.map CallIdentity.rescuedClass }

/-- A lost call is ended if it is RINGING and goes back to the queue if it is not (R101). -/
theorem State.rescue_of_some (hp : s.placeOfRef r = some p) (hc : s.cc.calls.get p = some c)
    (ho : c.state ≠ .originating) (hw : c.state ≠ .waiting) :
    s.rescue r = if c.state = .ringing then s.endCall p .trunkLost
      else ((s.setCall p (some (c.rescuedAs c.state))).enterWaiting p).changed := by
  unfold State.rescue
  rw [hp]
  dsimp only
  rw [State.mapCall_of_some hc, State.mapCall_of_some hc, hc]
  cases hs : c.state <;> simp_all [Call.rescuedAs]

theorem State.inPlace.rescue {rs : List CallRef} (h : s.inPlace sc (r :: rs)) (hr : r ∉ rs) (hl : s.lost sc r) :
    (s.rescue r).inPlace sc rs ∧ ∀ a ∈ rs, s.lost sc a → (s.rescue r).lost sc a := by
  obtain ⟨p, c, hc, rfl, ho, hw, hch⟩ := hl
  have hne {a : CallRef} (ha : a ∈ rs) : c.ref ≠ a := fun e => hr (e ▸ ha)
  rw [State.rescue_of_some (State.placeOfRef_of_sound h.sound hc) hc ho hw]
  split
  next hs =>
    refine ⟨h.endLost hc hs _, fun a ha hla => ?_⟩
    rw [State.endCall_of_some hc, hs]
    exact hla.of_ne hc (hne ha) (fun q hq => (s.ended_ne c _ hq).1) fun q hq => (s.ended_ne c _ hq).2
  next hs =>
    have href : (c.rescuedAs c.state).ref = c.ref ∧ (c.rescuedAs c.state).line = c.line ∧
        (c.rescuedAs c.state).state = c.state ∧ (c.identity ≠ none → (c.rescuedAs c.state).identity ≠ none) ∧
        (c.state = .offered → (c.rescuedAs c.state).identity = c.identity) := by
      unfold Call.rescuedAs
      split
      next e => exact ⟨rfl, rfl, rfl, id, fun _ => rfl⟩
      next e => exact ⟨rfl, rfl, rfl, fun hn => by simpa using hn, fun e' => absurd e' e⟩
    obtain ⟨href, hline, hstate, hident, hsame⟩ := href
    have hid (hx : sc.channels) := hident (h.composed hx p c hc ho)
    have hwr := h.write (d := c.rescuedAs c.state) hc List.mem_cons_self href hline fun hx _ => hid hx
    have hget : (s.setCall p (some (c.rescuedAs c.state))).cc.calls.get p = some (c.rescuedAs c.state) :=
      Table.get_set_self _ _ _
    have hhears (hx : sc.channels) (hso : (c.rescuedAs c.state).state = .offered) :
        (c.rescuedAs c.state).hears (s.ap.players.get p) := by
      rw [hstate] at hso
      obtain ⟨hactive, hchain⟩ := hch hx hso
      exact ⟨by rw [hstate]; exact hactive, fun i _ hi => hchain i (.inr hso) (hsame hso ▸ hi)⟩
    refine ⟨((href ▸ hwr).enterWaiting (href ▸ hr) hget hid hhears).changed, fun a ha hla => ?_⟩
    · refine State.lost.passed ?_ (State.changed_passedTo _)
      refine hla.of_ne hc (hne ha) (fun q hq => ?_) fun q hq => ?_
      · rw [(State.enterWaiting_ne _ hq).1, State.setCall_cc, Table.get_set_ne _ _ hq]
      · rw [(State.enterWaiting_ne _ hq).2]
        rfl

/-- The calls of a lost trunk, one after the other (R101). -/
theorem State.inPlace.foldl_rescue (rs : List CallRef) (s : State) (h : s.inPlace sc rs) (hn : rs.Nodup)
    (hl : ∀ r ∈ rs, s.lost sc r) : (rs.foldl State.rescue s).inPlace sc [] := by
  induction rs generalizing s with
  | nil => exact h
  | cons r rs ih =>
    obtain ⟨hr, hn⟩ := List.nodup_cons.mp hn
    obtain ⟨hnext, hkept⟩ := h.rescue hr (hl r List.mem_cons_self)
    exact ih _ hnext hn fun a ha => hkept a ha (hl a (List.mem_cons_of_mem r ha))

/-! ### Links (R98 to R102) -/

/-- The calls that stand on a trunk (R97, R124). -/
def Trunk.calls (x : Trunk) : List CallRef := x.current.toList ++ x.stack

theorem Trunk.mem_calls {x : Trunk} : r ∈ x.calls ↔ x.current = some r ∨ r ∈ x.stack := by
  simp [Trunk.calls, Option.mem_toList]

/-- The calls of a trunk are live, and none of them ORIGINATING or WAITING. -/
theorem State.inPlace.trunkCalls_lost (h : s.inPlace sc away) (hr : r ∈ (s.trunk u).calls) : s.lost sc r := by
  obtain ⟨k, hk, hkq⟩ : ∃ k, s.seats k r ∧ (k = .current u ∨ k = .stack u) :=
    (Trunk.mem_calls.mp hr).elim (fun e => ⟨.current u, e, .inl rfl⟩) fun e => ⟨.stack u, e, .inr rfl⟩
  obtain ⟨p, c, hc, rfl, hs, -, hout⟩ := h.of_seat hk
  have hstate : c.state ≠ .originating ∧ c.state ≠ .waiting := by
    rcases hkq with rfl | rfl
    · obtain ⟨hst, -⟩ := Call.seat_eq_current.mp hs
      constructor <;> rintro e <;> simp [e] at hst
    · obtain ⟨hst, -⟩ := Call.seat_eq_stack.mp hs
      simp [hst]
  exact ⟨p, c, hc, rfl, hstate.1, hstate.2, fun hx _ => h.hears hx p c hc hout⟩

theorem State.inPlace.trunkCalls_nodup (h : s.inPlace sc away) (u : TrunkNo) : (s.trunk u).calls.Nodup := by
  unfold Trunk.calls
  cases hcur : (s.trunk u).current with
  | none => exact (h.shaped u).stack_nodup
  | some r =>
    refine List.nodup_cons.mpr ⟨fun hr => ?_, (h.shaped u).stack_nodup⟩
    obtain ⟨p, c, hc, hcr, hs, -⟩ := h.of_seat (k := .current u) hcur
    have hk : s.seats (.stack u) c.ref := hcr ▸ hr
    rw [(h.seat_of hc hk).1] at hs
    cases hs

/-- A trunk as it enters IDLE (R97). -/
def Trunk.idling (x : Trunk) (now : Word32) : Trunk :=
  { x with state := .idle, current := none, offerTimer := none, guardTimer := none, idleSince := some now }

theorem Trunk.shaped_idling {x : Trunk} (hs : x.service = .inService) (hl : x.link = .up) (hn : x.stack.Nodup)
    (now : Word32) : (x.idling now).shaped :=
  shaped_of_reachable hs hl (by nofun) (by nofun) (by simp [Trunk.idling]) (by simp [Trunk.idling])
    (by simp [Trunk.idling]) (by simp [Trunk.idling]) hn

theorem State.enterIdle_eq (s : State) (u : TrunkNo) :
    s.enterIdle u = s.setTrunk u ((s.trunk u).idling s.cc.now) := rfl

namespace State.inPlace

theorem linkLoss (h : s.inPlace sc []) (u : TrunkNo) : (s.linkLoss u).inPlace sc [] := by
  unfold State.linkLoss
  dsimp only
  obtain ⟨h1, h2, h3, h4, h5, h6, h7, h8⟩ := h.shaped u
  split
  next ho =>
    refine State.inPlace.changed (h.release ⟨h1, ?_, h3, h4, h5, h6, h7, fun _ => h8 (.inr ho)⟩ (.inr ⟨rfl, .inr rfl⟩)
      (List.Sublist.refl _) (.inl rfl) fun a => ?_)
    · simp [h1.mpr ho, ho]
    · simp +contextual
  next ho =>
    have hservice : (s.trunk u).service = .inService := by
      cases hs : (s.trunk u).service with
      | inService => rfl
      | outOfService => exact absurd (h1.mp hs) ho
    refine (State.inPlace.foldl_rescue (s.trunk u).calls _ (State.inPlace.side (State.inPlace.release (u := u) h
      (y := { s.trunk u with
        link := .down, state := .linkDown, current := none, offerTimer := none, guardTimer := none
        idleSince := none, stack := [], transmit := [], sentOctets := 0, receiver := .between, requests := [] })
      ⟨by simp [hservice], by simp [hservice], by simp, by simp, by simp, by simp, List.nodup_nil, fun _ => rfl⟩
      (.inl rfl) (List.nil_sublist _) (.inl rfl) fun a => ?_) (by simp)) (h.trunkCalls_nodup u) fun a ha => ?_).changed
    · rw [Trunk.mem_calls]
      simp
    · obtain ⟨p, c, hc, hr, hrest⟩ := h.trunkCalls_lost ha
      exact ⟨p, c, by simpa using hc, hr, by simpa using hrest⟩

theorem linkUp (h : s.inPlace sc away) (u : TrunkNo) : (s.linkUp u).inPlace sc away := by
  unfold State.linkUp
  dsimp only
  obtain ⟨h1, h2, h3, h4, h5, h6, h7, h8⟩ := h.shaped u
  rw [State.trunk_mapTrunk_self]
  split
  next hd =>
    replace hd : (s.trunk u).state = .linkDown := hd
    have hnone : (s.trunk u).current = none := (h.shaped u).current_none (by simp [hd]) (by simp [hd])
    let x := { s.trunk u with link := .up, receiver := .between }
    have hidle : (s.mapTrunk u fun x => { x with link := .up, receiver := .between }).enterIdle u =
        s.setTrunk u (x.idling s.cc.now) := by
      rw [State.enterIdle, State.mapTrunk, State.mapTrunk, State.trunk_setTrunk_self, State.setTrunk_setTrunk]
      rfl
    rw [hidle]
    have hshaped := Trunk.shaped_idling (x := x) (h2.mpr hd).1 rfl h7 s.cc.now
    have hreleased := h.release (gone := away) hshaped (.inl rfl) (List.Sublist.refl _) (.inl rfl) fun a => by
      simp +contextual [hnone, x, Trunk.idling]
    exact State.inPlace.changed (hreleased.side (by simp))
  next hd =>
    replace hd : (s.trunk u).state ≠ .linkDown := hd
    refine State.inPlace.changed (h.release (gone := away) ⟨h1, by simp [hd], h3, h4, h5, h6, h7, fun e =>
      h8 (.inr (e.resolve_left (by nofun)))⟩ (.inr ⟨rfl, .inr rfl⟩) (List.Sublist.refl _) (.inl rfl) fun a => ?_)
    simp +contextual

end State.inPlace

/-- The receiver of messages does not touch the calls of its trunk (R105, R193). -/
theorem Trunk.takeOctet_berth (x : Trunk) (o : Octet) : (x.takeOctet o).berth = x.berth := by
  unfold Trunk.takeOctet Trunk.complete Trunk.discard
  dsimp only
  repeat' split
  all_goals rfl

theorem Trunk.foldl_takeOctet_berth (os : List Octet) (x : Trunk) : (os.foldl Trunk.takeOctet x).berth = x.berth := by
  induction os generalizing x with
  | nil => rfl
  | cons o os ih => exact (ih _).trans (x.takeOctet_berth o)

theorem Trunk.cutShort_berth (x : Trunk) : x.cutShort.berth = x.berth := by
  unfold Trunk.cutShort
  split <;> rfl

namespace State.inPlace

/-- A trunk record written with the same berth. -/
theorem rebook {y : Trunk} (h : s.inPlace sc away) (hy : y.berth = (s.trunk u).berth) :
    (s.setTrunk u y).inPlace sc away := h.of_sameStations ((State.sameStations.refl s).setTrunk hy)

theorem badFrame (h : s.inPlace sc []) (u : TrunkNo) : (s.badFrame u).inPlace sc [] := by
  unfold State.badFrame
  dsimp only
  split
  · refine (h.rebook (u := u) ?_).linkLoss u
    exact Trunk.cutShort_berth (s.trunk u)
  · refine h.rebook (u := u) ?_
    exact Trunk.cutShort_berth (s.trunk u)

theorem goodFrame (h : s.inPlace sc []) (u : TrunkNo) (f : TrunkFrame) : (s.goodFrame u f).inPlace sc [] := by
  have hpushed : (s.pushReceive u f.audio).inPlace sc [] := h.side rfl
  unfold State.goodFrame
  dsimp only
  split
  · refine hpushed.rebook ?_
    split
    · rfl
    · exact Trunk.foldl_takeOctet_berth _ _
  · split
    · exact (hpushed.rebook (by rfl)).linkUp u
    · exact hpushed.rebook (by rfl)

end State.inPlace

end Returns

end Sys2Proof.Machine
end

section
/-! Calls accepted, held, retrieved, called back, rung and answered (R88, R109, R125, R127, R133 to R137), calls created and
completed (R75 to R77), and calls that age (R82): all leave every call in its place. -/

namespace Sys2Proof.Machine

open Sys2Proof

section Moments

variable {s t : State} {sc : Scope} {away : List CallRef} {p q : LineNo} {c d : Call} {r : CallRef} {u : TrunkNo} {k : Cause}

/-! ### Connecting (R88, R127, R134) -/

theorem Trunk.shaped_connectedTo {x : Trunk} (hs : x.service = .inService) (hl : x.link = .up) (hn : x.stack.Nodup)
    (r : CallRef) : (x.connectedTo r).shaped :=
  shaped_of_reachable hs hl (by nofun) (by nofun) (by simp [Trunk.connectedTo]) (by simp [Trunk.connectedTo])
    (by simp [Trunk.connectedTo]) (by simp [Trunk.connectedTo]) hn

/-- The trunk and the call joined (R88). -/
theorem State.connectTrunk_connect (hc : s.cc.calls.get p = some c) (u : TrunkNo) (r : CallRef) :
    (s.connectTrunk u r).connect p u = s.callTaken u p c ((s.trunk u).connectedTo r) := by
  unfold State.connect
  rw [State.mapCall_of_some (s := s.connectTrunk u r) hc]
  rfl

/-- The connection of a call overwrites the record of its trunk. -/
theorem State.callTaken_setTrunk (s : State) (u : TrunkNo) (p : LineNo) (c : Call) (x y : Trunk) :
    (s.setTrunk u x).callTaken u p c y = s.callTaken u p c y := by
  change ((s.setCall p _).stopPlayer p |>.setTrunk u x).setTrunk u y = _
  rw [State.setTrunk_setTrunk]
  rfl

namespace State.inPlace

/-- A call that is away is connected to a trunk without a current call (R88, R127, R134). -/
theorem callTaken (h : s.inPlace sc (c.ref :: away)) (hr : c.ref ∉ away) (hc : s.cc.calls.get p = some c)
    (ho : c.state ≠ .originating) (hx : (s.trunk u).current = none) (hs : (s.trunk u).service = .inService)
    (hl : (s.trunk u).link = .up) (hd : (s.trunk u).draining = false) :
    (s.callTaken u p c ((s.trunk u).connectedTo c.ref)).inPlace sc away := by
  let d := c.connected u s.cc.now s.stamp
  have hw := h.write (d := d) hc List.mem_cons_self rfl rfl fun hch _ => h.composed hch p c hc ho
  have hget : (s.setCall p (some d)).cc.calls.get p = some d := Table.get_set_self _ _ _
  have hstop := hw.setPlayer hget List.mem_cons_self .inactive
  refine hstop.arriveCurrent (c := d) (y := (s.trunk u).connectedTo c.ref) hr hget rfl
    (Call.seat_eq_current.mpr ⟨.inr (.inl rfl), rfl⟩) hx
    (Trunk.shaped_connectedTo hs hl (h.shaped u).stack_nodup _) rfl rfl rfl (fun _ => hd) fun _ => ?_
  rw [State.setPlayer_ap, Table.get_set_self]
  exact ⟨by simp [d, Call.connected], fun i hi => by simp [d, Call.connected] at hi⟩

/-- ACCEPT of the current offer (R88, R109). -/
theorem accept (h : s.inPlace sc away) (hr : (s.trunk u).current = some r) (hp : s.placeOfRef r = some p)
    (hd : (s.trunk u).draining = false) : ((s.connectTrunk u r).connect p u).inPlace sc away := by
  obtain ⟨q, c, hc, rfl, hseat, -, hq, hout⟩ := h.current hr
  obtain rfl := Option.some.inj (hp.symm.trans hq)
  obtain ⟨hs, hl⟩ := h.reachable_of_current hr
  let x := (s.trunk u).guarding s.ti.guardTime
  have hleft : (s.setTrunk u x).inPlace sc (c.ref :: away) := h.leaveCurrent hr rfl _
  have htrunk : (s.setTrunk u x).trunk u = x := State.trunk_setTrunk_self _ _ _
  have ho : c.state ≠ .originating := Call.seat_ne_none_state (by rw [hseat]; nofun)
  have htaken := hleft.callTaken (u := u) hout hc ho (by rw [htrunk]; rfl) (by rw [htrunk]; exact hs)
    (by rw [htrunk]; exact hl) (by rw [htrunk]; exact hd)
  rw [htrunk, State.callTaken_setTrunk] at htaken
  rw [State.connectTrunk_connect hc]
  exact htaken

/-- A call is taken by an IDLE trunk (R134). -/
theorem takeCall (h : s.inPlace sc (c.ref :: away)) (hr : c.ref ∉ away) (hc : s.cc.calls.get p = some c)
    (ho : c.state ≠ .originating) (hx : (s.trunk u).current = none) (hs : (s.trunk u).service = .inService)
    (hl : (s.trunk u).link = .up) (hd : (s.trunk u).draining = false) : (s.takeCall u p c.ref).inPlace sc away := by
  unfold State.takeCall
  rw [State.connectTrunk_connect hc]
  exact (h.callTaken hr hc ho hx hs hl hd).sendIdent u p

/-! ### Holding and retrieving (R125, R127) -/

/-- HOLD with room on the stack (R125). -/
theorem hold (h : s.inPlace sc []) (hr : (s.trunk u).current = some r) (hp : s.placeOfRef r = some p)
    (hd : (s.trunk u).draining = false) :
    ((((s.mapCall p fun c => c.onHold s.cc.now).selectChain p s.ap.holdChain).enterIdle u).mapTrunk u fun x =>
      { x with stack := r :: x.stack }).inPlace sc [] := by
  obtain ⟨q, c, hc, rfl, hseat, -, hq, hout⟩ := h.current hr
  obtain rfl := Option.some.inj (hp.symm.trans hq)
  obtain ⟨hs, hl⟩ := h.reachable_of_current hr
  obtain ⟨-, ht⟩ := Call.seat_eq_current.mp hseat
  have ho : c.state ≠ .originating := Call.seat_ne_none_state (by rw [hseat]; nofun)
  let x := (s.trunk u).idling s.cc.now
  have hleft : (s.setTrunk u x).inPlace sc [c.ref] :=
    h.vacate hr (Trunk.shaped_idling hs hl (h.shaped u).stack_nodup _) rfl rfl rfl
  have hwritten := hleft.write (d := c.onHold s.cc.now) hc List.mem_cons_self rfl rfl fun hch _ => h.composed hch p c hc ho
  have hget : ((s.setTrunk u x).setCall p (some (c.onHold s.cc.now))).cc.calls.get p = some (c.onHold s.cc.now) :=
    Table.get_set_self _ _ _
  let y := Player.active s.ap.holdChain (startStep (s.ap.chains.get s.ap.holdChain) 1)
  have hchain := hwritten.setPlayer hget List.mem_cons_self y
  have htrunk : (((s.setTrunk u x).setCall p (some (c.onHold s.cc.now))).setPlayer p y).trunk u = x :=
    State.trunk_setTrunk_self s u x
  rw [State.mapCall_of_some hc]
  refine hchain.arriveStack (c := c.onHold s.cc.now) hout hget rfl (Call.seat_eq_stack.mpr ⟨rfl, ht⟩) (by rw [htrunk]; exact hl)
    (by rw [htrunk]; nofun) (fun _ => by rw [htrunk]; exact hd) fun _ => ?_
  rw [State.setPlayer_ap, Table.get_set_self]
  exact ⟨by simp [y, Call.onHold], fun i hi => by simp [Call.onHold] at hi⟩

/-- The top call of a trunk's stack is connected to it, the trunk having no current call (R127). -/
theorem retrieveTop {rs : List CallRef} (h : s.inPlace sc away) (hr : (s.trunk u).stack = r :: rs)
    (hx : (s.trunk u).current = none) (hd : (s.trunk u).draining = false) : (s.retrieveTop u r).inPlace sc away := by
  have hin : s.seats (.stack u) r := by
    change r ∈ (s.trunk u).stack
    rw [hr]
    exact List.mem_cons_self
  obtain ⟨p, c, hc, rfl, hseat, hp, hout⟩ := h.of_seat hin
  obtain ⟨hs, hl⟩ := (h.shaped u).stack_reachable (by rw [hr]; nofun)
  have ho : c.state ≠ .originating := Call.seat_ne_none_state (by rw [hseat]; nofun)
  let x := { s.trunk u with stack := (s.trunk u).stack.tail }
  have hleft : (s.setTrunk u x).inPlace sc (c.ref :: away) :=
    h.leaveStack (y := x) hin rfl (by simp [x, hr])
  have htrunk : (s.setTrunk u x).trunk u = x := State.trunk_setTrunk_self _ _ _
  have htaken := hleft.callTaken (u := u) hout hc ho (by rw [htrunk]; exact hx) (by rw [htrunk]; exact hs)
    (by rw [htrunk]; exact hl) (by rw [htrunk]; exact hd)
  rw [htrunk] at htaken
  unfold State.retrieveTop
  rw [hp]
  dsimp only
  change ((((s.setTrunk u x).connectTrunk u c.ref).connect p u).sendIdent u p).inPlace sc away
  rw [State.connectTrunk_connect (s := s.setTrunk u x) hc, htrunk]
  exact htaken.sendIdent u p

end State.inPlace

/-- The queue is no concern of the trunk records. -/
theorem State.enqueue_setTrunk (s : State) (u : TrunkNo) (x : Trunk) (p : LineNo) :
    (s.setTrunk u x).enqueue p = (s.enqueue p).setTrunk u x := by
  cases hc : s.cc.calls.get p with
  | none => simp [State.enqueue, hc]
  | some c =>
    rw [State.enqueue_of_some hc, State.enqueue_of_some (s := s.setTrunk u x) hc]
    rfl

theorem State.setCall_setTrunk (s : State) (u : TrunkNo) (x : Trunk) (p : LineNo) (c : Option Call) :
    (s.setTrunk u x).setCall p c = (s.setCall p c).setTrunk u x := rfl

theorem State.enterWaiting_setTrunk (s : State) (u : TrunkNo) (x : Trunk) (p : LineNo) :
    (s.setTrunk u x).enterWaiting p = (s.enterWaiting p).setTrunk u x := by
  cases hc : s.cc.calls.get p with
  | none => simp [State.enterWaiting, hc]
  | some c =>
    simp only [State.enterWaiting, State.setTrunk_cc, hc, State.setCall_setTrunk, State.enqueue_setTrunk]
    split
    · rfl
    · split <;> rfl

/-- An offer handed back is no concern of the trunk records (R81). -/
theorem State.handBack_setTrunk (s : State) (u : TrunkNo) (x : Trunk) (r : CallRef) (b : Bool) :
    (s.setTrunk u x).handBack r b = (s.handBack r b).setTrunk u x := by
  have hplace : (s.setTrunk u x).placeOfRef r = s.placeOfRef r := rfl
  unfold State.handBack
  rw [hplace]
  split
  · exact State.enterWaiting_setTrunk (s.mapCall _ _) u x _
  · rfl

/-- The retrieval of a live call overwrites the state of its trunk (R127). -/
theorem State.retrieveTop_guarding (hp : s.placeOfRef r = some p) (u : TrunkNo) (n : Nat) :
    (s.setTrunk u ((s.trunk u).guarding n)).retrieveTop u r = s.retrieveTop u r := by
  have hplace : (s.setTrunk u ((s.trunk u).guarding n)).placeOfRef r = s.placeOfRef r := rfl
  have hsame : ((s.setTrunk u ((s.trunk u).guarding n)).mapTrunk u fun x => { x with stack := x.stack.tail }).connectTrunk u r =
      (s.mapTrunk u fun x => { x with stack := x.stack.tail }).connectTrunk u r := by
    simp only [State.connectTrunk, State.mapTrunk, State.trunk_setTrunk_self, State.setTrunk_setTrunk]
    rfl
  unfold State.retrieveTop
  rw [hplace, hp]
  dsimp only
  rw [hsame]

namespace State.inPlace

/-- RETRIEVE on an OFFERING trunk: the offer goes back to the queue, uncounted, and the top call is connected (R128). -/
theorem retrieveOffering {top : CallRef} {rs : List CallRef} (h : s.inPlace sc away)
    (hst : (s.trunk u).state = .offering) (hr : (s.trunk u).current = some r) (htop : (s.trunk u).stack = top :: rs)
    (hd : (s.trunk u).draining = false) (m : DeskMessage) :
    (((s.sendDesk u m).handBack r false).retrieveTop u top).changed.inPlace sc away := by
  obtain ⟨p, c, hc, rfl, hseat, hts, hp, hout⟩ := h.current hr
  have hs := Call.offered_of_trunkState (hts.symm.trans hst)
  obtain ⟨y, hy, hm⟩ := State.sendDesk_eq_setTrunk s u m
  have hberth : y.berth = (s.trunk u).berth := by
    have := (State.sendDesk_sameStations s u m).trunks u
    rwa [hy, State.trunk_setTrunk_self] at this
  let x := y.guarding s.ti.guardTime
  have hleft : (s.setTrunk u x).inPlace sc (c.ref :: away) := h.leaveCurrent hr hberth s.ti.guardTime
  have hback := hleft.handBack hout (show (s.setTrunk u x).cc.calls.get p = some c from hc) hs
    (fun hx => h.hears hx p c hc hout) false
  simp only [Trunk.berth, Prod.mk.injEq] at hberth
  obtain ⟨-, -, -, -, b5, -, -, -, b9⟩ := hberth
  have htrunk : ((s.setTrunk u x).handBack c.ref false).trunk u = x := by
    rw [State.trunk, State.handBack_ti]
    exact State.trunk_setTrunk_self s u x
  have htop' : (((s.setTrunk u x).handBack c.ref false).trunk u).stack = top :: rs := by
    rw [htrunk, ← htop]
    exact b5
  have hretrieved := hback.retrieveTop htop' (by rw [htrunk]; rfl) (by rw [htrunk]; exact b9.trans hd)
  obtain ⟨q, d, -, -, -, hq, -⟩ := hback.of_seat (k := .stack u) (r := top) (by
    change top ∈ _
    rw [htop']
    exact List.mem_cons_self)
  have hyu : ((s.setTrunk u y).handBack c.ref false).trunk u = y := by
    rw [State.trunk, State.handBack_ti]
    exact State.trunk_setTrunk_self s u y
  have hx : (s.setTrunk u x).handBack c.ref false = ((s.setTrunk u y).handBack c.ref false).setTrunk u x := by
    rw [← State.handBack_setTrunk, State.setTrunk_setTrunk]
  have hsame : ((s.setTrunk u x).handBack c.ref false).retrieveTop u top =
      ((s.setTrunk u y).handBack c.ref false).retrieveTop u top := by
    have := State.retrieveTop_guarding (s := (s.setTrunk u y).handBack c.ref false) (r := top) (p := q)
      (by rw [hx] at hq; exact hq) u s.ti.guardTime
    rw [hyu] at this
    rw [hx]
    exact this
  rw [hy, ← hsame]
  exact hretrieved.changed

/-! ### Calling back (R133 to R136) -/

/-- A call taken from another trunk's offer (R135). -/
theorem takeOffered {o : TrunkNo} (h : s.inPlace sc away) (hc : s.cc.calls.get p = some c) (hout : c.ref ∉ away)
    (hs : c.state = .offered) (ho : c.trunk = some o) (hi : (s.trunk u).state = .idle) (hl : (s.trunk u).link = .up)
    (hd : (s.trunk u).draining = false) (m : DeskMessage) :
    (((s.sendDesk o m).enterGuard o).takeCall u p c.ref).inPlace sc away := by
  have hseat : c.seat = some (.current o) := Call.seat_eq_current.mpr ⟨.inl hs, ho⟩
  have hcur : (s.trunk o).current = some c.ref := h.seat hc hout hseat
  have hou : o ≠ u := fun e => by
    have := h.states p c o hc hout hseat
    rw [Call.trunkState, if_pos hs, e, hi] at this
    cases this
  have hberth : ((s.sendDesk o m).trunk o).berth = (s.trunk o).berth := (State.sendDesk_sameStations s o m).trunks o
  have hg : (s.sendDesk o m).enterGuard o =
      s.setTrunk o (((s.sendDesk o m).trunk o).guarding s.ti.guardTime) := by
    obtain ⟨z, hz, -⟩ := State.sendDesk_eq_setTrunk s o m
    rw [hz, State.enterGuard, State.mapTrunk, State.trunk_setTrunk_self, State.setTrunk_setTrunk]
    rfl
  rw [hg]
  have hleft := h.leaveCurrent hcur hberth s.ti.guardTime
  have htrunk (z : Trunk) : (s.setTrunk o z).trunk u = s.trunk u := State.trunk_setTrunk_ne _ _ hou
  have hx := h.shaped u
  exact hleft.takeCall hout hc (by simp [hs]) (by rw [htrunk]; exact hx.current_none (by simp [hi]) (by simp [hi]))
    (by rw [htrunk]; exact (hx.reachable (by simp [hi]) (by simp [hi])).1) (by rw [htrunk]; exact hl)
    (by rw [htrunk]; exact hd)

/-- A post rung: a RINGING call as the current call of an IDLE trunk (R136). -/
theorem ringPost (h : s.inPlace sc []) {l : LineNo} (hfree : s.placeOfLine l = none) (hi : (s.trunk u).state = .idle)
    (hl : (s.trunk u).link = .up) (hd : (s.trunk u).draining = false) : (s.ringPost u l).inPlace sc [] := by
  cases hp : s.freePlace with
  | none =>
    unfold State.ringPost
    rwa [hp]
  | some p =>
    obtain ⟨x, hx, hm⟩ := State.ringPost_eq (u := u) (l := l) hp
    rw [hx]
    have hnone := State.freePlace_free hp
    have hrung : (s.startRinging l).inPlace sc [] := h.side rfl
    have hadded := hrung.addCall (p := p) (c := s.callbackCall u l) hnone
      (hrung.sound.addCall hnone hfree ⟨.ringing, rfl⟩ rfl) fun _ _ => by simp [State.callbackCall]
    have hshape := h.shaped u
    have hcur : (s.trunk u).current = none := hshape.current_none (by simp [hi]) (by simp [hi])
    obtain ⟨hs, -⟩ := hshape.reachable (by simp [hi]) (by simp [hi])
    obtain ⟨hxe, -, -⟩ := hm
    let z : Trunk := { s.trunk u with transmit := x.transmit, overruns := x.overruns }
    replace hxe : x = z.connectedTo (s.callbackCall u l).ref := hxe
    rw [hxe]
    exact hadded.arriveCurrent (c := s.callbackCall u l) (y := z.connectedTo (s.callbackCall u l).ref) List.not_mem_nil
      (Table.get_set_self _ _ _) rfl (Call.seat_eq_current.mpr ⟨.inr (.inr (.inr rfl)), rfl⟩) hcur
      (Trunk.shaped_connectedTo (x := z) hs hl hshape.stack_nodup _) rfl rfl rfl (fun _ => hd) fun hch => by
        have hplayer : ((s.startRinging l).addCall p (s.callbackCall u l)).ap.players.get p = .inactive :=
          h.silent hch p hnone
        rw [hplayer]
        have hst : (s.callbackCall u l).state = .ringing := rfl
        exact ⟨by simp [hst], fun i hi => by simp [hst] at hi⟩

end State.inPlace

end Moments

end Sys2Proof.Machine
end

section
/-! Calls called back, created and completed, answered and aged; trunks set and reset: every call stays in its place. -/

namespace Sys2Proof.Machine

open Sys2Proof

section Moments

variable {s t : State} {sc : Scope} {away : List CallRef} {p q : LineNo} {c d : Call} {r : CallRef} {u : TrunkNo} {k : Cause}

/-! ### New calls (R75 to R77) -/

/-- The call that OFF-HOOK AT START opens, as it is when its identity is composed (R77). -/
def State.emergencyCall (s : State) (l : LineNo) : Call :=
  { s.newCall l .waiting with identity := some (composeIdentity (s.dir.working.get l) l .absent false) }

/-- The identity of a new call, composed (R76). -/
theorem State.identify_addCall (hc : c.line = q) (code : ReceivedCode) (b : Bool) :
    ((s.addCall p c).identify p code b).callSide =
      (s.addCall p { c with identity := some (composeIdentity (s.dir.working.get q) q code b) }).callSide := by
  have hget : (s.addCall p c).cc.calls.get p = some c := Table.get_set_self _ _ _
  rw [State.identify_of_some hget, hc]
  simp only [State.callSide, State.setCall_cc, State.setCall_ti, State.setCall_ap, State.flagCode_cc, State.flagCode_ti,
    State.flagCode_ap]
  simp only [State.addCall, Table.set_set]

namespace State.inPlace

theorem callBack (h : s.inPlace sc []) (hi : (s.trunk u).state = .idle) (hl : (s.trunk u).link = .up)
    (hd : (s.trunk u).draining = false) (l : LineNo) (m : DeskRequest) : (s.callBack u l m).inPlace sc [] := by
  have hx := h.shaped u
  have hcur : (s.trunk u).current = none := hx.current_none (by simp [hi]) (by simp [hi])
  obtain ⟨hs, -⟩ := hx.reachable (by simp [hi]) (by simp [hi])
  rcases s.callBack_cases u l m with ⟨e, hb⟩ | ⟨hfree, hb⟩ | ⟨p, c, -, hc, hw, hb⟩ | ⟨p, c, o, -, hc, hw, ho, hb⟩ <;> rw [hb]
  · exact h.sendDesk u _
  · exact h.ringPost hfree hi hl hd
  · have hset := Call.settled_iff.mp (h.settled p c hc List.not_mem_nil)
    rw [hw] at hset
    have hq : c.ref ∈ s.cc.queue := h.seat (k := .queue) hc List.not_mem_nil (Call.seat_eq_queue.mpr ⟨hw, hset⟩)
    exact ((h.leaveQueue hq).takeCall List.not_mem_nil hc (by simp [hw]) hcur hs hl hd).changed
  · exact h.takeOffered hc List.not_mem_nil hw ho hi hl hd _

theorem seizure (h : s.inPlace sc []) {l : LineNo} (hfree : s.placeOfLine l = none) (hp : s.cc.calls.get p = none) :
    (s.addCall p (s.newCall l .originating)).inPlace sc [] := by
  have hsound := h.sound.addCall (c := s.newCall l .originating) hp hfree ⟨_, rfl⟩ rfl
  have hst : (s.newCall l .originating).state = .originating := rfl
  refine (h.addCall hp hsound fun _ hn => absurd hst hn).arriveNowhere List.not_mem_nil (Table.get_set_self _ _ _) rfl hst rfl
    fun hch => ?_
  have hplayer : (s.addCall p (s.newCall l .originating)).ap.players.get p = .inactive := h.silent hch p hp
  rw [hplayer]
  exact ⟨by simp [hst], fun i hi => by simp [hst] at hi⟩

theorem openWaiting (h : s.inPlace sc []) (l : LineNo) : (s.openWaiting l).inPlace sc [] := by
  unfold State.openWaiting
  split
  next p hfree hp =>
    have hnone := State.freePlace_free hp
    have hadded := h.addCall (c := s.emergencyCall l) hnone (h.sound.addCall hnone hfree ⟨.waiting, rfl⟩ rfl)
      fun _ _ => by simp [State.emergencyCall]
    have hside := State.identify_addCall (s := s) (p := p) (c := s.newCall l .waiting) (q := l) rfl .absent false
    have hget : ((s.addCall p (s.newCall l .waiting)).identify p .absent false).cc.calls.get p = some (s.emergencyCall l) := by
      have hcc := congrArg (fun x => x.1.calls.get p) hside
      refine hcc.trans ?_
      exact Table.get_set_self _ _ _
    exact ((hadded.side hside).enterWaiting List.not_mem_nil hget (fun _ => by simp [State.emergencyCall])
      fun _ hs => by cases hs).changed
  next => exact h

/-- The identity of an ORIGINATING call composed, it enters WAITING (R76). -/
theorem codeResult (h : s.inPlace sc []) (hc : s.cc.calls.get p = some c) (ho : c.state = .originating)
    (code : ReceivedCode) : ((s.identify p code false).enterWaiting p).changed.inPlace sc [] := by
  let d : Call := { c with identity := some (composeIdentity (s.dir.working.get c.line) c.line code false) }
  have hflag : (s.flagCode c.line code false).callSide = s.callSide := by simp [State.callSide]
  have hleft := (h.leaveNowhere hc (by rw [Call.seat, ho])).side hflag
  have hget : (s.flagCode c.line code false).cc.calls.get p = some c := by simpa using hc
  have hw := hleft.write (d := d) hget List.mem_cons_self rfl rfl fun _ _ => by simp [d]
  rw [State.identify_of_some hc]
  exact (State.inPlace.enterWaiting (c := d) hw List.not_mem_nil (Table.get_set_self _ _ _) (fun _ => by simp [d])
    fun _ hs => by simp [d, ho] at hs).changed

/-- ANSWERED: a RINGING callback is connected where it stands (R137). -/
theorem answered (h : s.inPlace sc []) (hc : s.cc.calls.get p = some c) (hs : c.state = .ringing) (ht : c.trunk = some u) :
    (s.connect p u).inPlace sc [] := by
  have hseat : c.seat = some (.current u) := Call.seat_eq_current.mpr ⟨.inr (.inr (.inr hs)), ht⟩
  have hseat' : (c.connected u s.cc.now s.stamp).seat = c.seat :=
    (Call.seat_eq_current.mpr ⟨.inr (.inl rfl), rfl⟩).trans hseat.symm
  unfold State.connect
  rw [State.mapCall_of_some hc]
  refine h.rewrite (d := c.connected u s.cc.now s.stamp) hc rfl rfl hseat' (fun _ => .inl ?_) ?_ (fun hq => ?_)
    (fun hch _ => h.composed hch p c hc (by simp [hs])) fun _ _ => ?_
  · rw [hseat', hseat]
    nofun
  · rw [Call.trunkState, Call.trunkState, hs]
    rfl
  · rw [hseat] at hq
    cases hq
  · exact ⟨by simp [Call.connected], fun i hi => by simp [Call.connected] at hi⟩

/-! ### Aging (R82, R83) -/

end State.inPlace

theorem Call.aged_effective (c : Call) (now : Word32) : (c.aged now).effective = c.effective - 1 := by
  unfold Call.effective Call.aged
  cases c.identity <;> rfl

theorem Call.aged_identity_ne_none {c : Call} {now : Word32} : (c.aged now).identity ≠ none ↔ c.identity ≠ none := by
  simp [Call.aged]

/-- What a call that ages comes to, at class 0 and above it (R82). -/
theorem State.ageCall_of_some (hc : s.cc.calls.get p = some c) :
    s.ageCall p = if c.effective = 0 then s.setCall p (some (c.aged s.cc.now))
      else ((s.setCall p (some (c.aged s.cc.now))).setQueue (s.cc.queue.erase c.ref)).enqueue p := by
  unfold State.ageCall
  rw [hc]
  rfl

/-- A call that ages is WAITING (R82). -/
theorem State.agingDue_waiting {n : Nat} (h : s.agingDue n c = true) : c.state = .waiting := by
  simp only [State.agingDue, Bool.and_eq_true, decide_eq_true_eq] at h
  exact h.1.1.2

namespace State.inPlace

theorem ageCall (h : s.inPlace sc []) (hc : s.cc.calls.get p = some c) (hw : c.state = .waiting) :
    (s.ageCall p).inPlace sc [] := by
  have hset := Call.settled_iff.mp (h.settled p c hc List.not_mem_nil)
  rw [hw] at hset
  have hseat : c.seat = some .queue := Call.seat_eq_queue.mpr ⟨hw, hset⟩
  have hid (hch : sc.channels) : (c.aged s.cc.now).identity ≠ none :=
    Call.aged_identity_ne_none.mpr (h.composed hch p c hc (by simp [hw]))
  rw [State.ageCall_of_some hc]
  split
  next he =>
    refine h.rewriteCall hc rfl rfl rfl rfl (fun _ => ⟨?_, rfl⟩) (fun hch _ => hid hch) fun _ _ => ?_
    · rw [Call.aged_effective, he]
    · unfold Call.aged
      cases c.identity <;> rfl
  next =>
    have hleft := h.leaveQueue (h.seat (k := .queue) hc List.not_mem_nil hseat)
    have hwritten := hleft.write (d := c.aged s.cc.now) hc List.mem_cons_self rfl rfl fun hch _ => hid hch
    refine hwritten.arriveQueue (c := c.aged s.cc.now) List.not_mem_nil (Table.get_set_self _ _ _) rfl
      (Call.seat_eq_queue.mpr ⟨hw, hset⟩) fun hch => ?_
    obtain ⟨hactive, hchain⟩ := h.hears hch p c hc List.not_mem_nil
    refine ⟨hactive, fun i hs hi => ?_⟩
    obtain ⟨j, hj, rfl⟩ := Option.map_eq_some_iff.mp hi
    exact hchain j hs hj

theorem foldl_ageIfDue (ps : List LineNo) (a : State × Bool) (h : a.1.inPlace sc []) :
    (ps.foldl State.ageIfDue a).1.inPlace sc [] := by
  induction ps generalizing a with
  | nil => exact h
  | cons p ps ih =>
    refine ih _ ?_
    unfold State.ageIfDue
    split
    next c hc =>
      split
      next hdue => exact h.ageCall hc (State.agingDue_waiting hdue)
      next => exact h
    next => exact h

/-! ### Trunks (R103, R115, R122) -/

/-- A trunk record written that keeps the trunk's calls, if it has any. -/
theorem reshape {y : Trunk} (h : s.inPlace sc away) (hy : y.shaped)
    (hc : y.current = (s.trunk u).current ∧ ((s.trunk u).current = none ∨ y.state = (s.trunk u).state))
    (hs : y.stack = (s.trunk u).stack) (hd : y.draining = (s.trunk u).draining) : (s.setTrunk u y).inPlace sc away := by
  refine h.release hy (.inr hc) (hs ▸ List.Sublist.refl _) (.inl hd) fun a => ?_
  rw [hs, hc.1]
  simp +contextual

/-- The end of GUARD (R115). -/
theorem guardEnds (h : s.inPlace sc away) (hg : (s.trunk u).state = .guard_) : (s.enterIdle u).inPlace sc away := by
  have hx := h.shaped u
  obtain ⟨hs, hl⟩ := hx.reachable (by simp [hg]) (by simp [hg])
  have hn := hx.current_none (by simp [hg]) (by simp [hg])
  exact h.reshape (Trunk.shaped_idling hs hl hx.stack_nodup _) ⟨hn.symm, .inl hn⟩ rfl rfl

/-- A trunk without calls takes its reset values (R122). -/
theorem resetDrained (h : s.inPlace sc away)
    (hd : (s.trunk u).draining = true → (s.trunk u).current = none ∧ (s.trunk u).stack = []) :
    (s.resetDrained u).inPlace sc away := by
  unfold State.resetDrained
  dsimp only
  split
  next hdrain =>
    obtain ⟨hcur, hstack⟩ := hd hdrain.1
    let v : State := { s with
      ap := { s.ap with
        receive := s.ap.receive.set u Buffer.empty
        send := s.ap.send.set u Buffer.empty
        slips := s.ap.slips.set u 0 } }
    have hv : v.inPlace sc away := h.side rfl
    have htrunk : v.trunk u = s.trunk u := rfl
    refine hv.release (u := u) ⟨by simp [Trunk.initial], by simp [Trunk.initial], by simp [Trunk.initial], by simp [Trunk.initial],
      by simp [Trunk.initial], by simp [Trunk.initial], by simp [Trunk.initial], by simp [Trunk.initial]⟩ (.inl rfl)
      (List.nil_sublist _) (.inr rfl) fun a => ?_
    rw [htrunk, hcur, hstack]
    simp
  next => exact h

end State.inPlace

end Moments

end Sys2Proof.Machine
end

section
/-! TRUNK SET (R103) and the soft reset (R93, R123, R188) leave every call in its place. -/

namespace Sys2Proof.Machine

open Sys2Proof

section Services

variable {s t : State} {sc : Scope} {away : List CallRef} {p q : LineNo} {c d : Call} {r : CallRef} {u : TrunkNo} {k : Cause}

/-! ### TRUNK SET (R103) -/

/-- A trunk as it enters OUT OF SERVICE (R103). -/
def Trunk.removed (x : Trunk) : Trunk :=
  { x with state := .outOfService, current := none, offerTimer := none, guardTimer := none, idleSince := none }

theorem Trunk.shaped_removed {x : Trunk} (hs : x.service = .outOfService) (hn : x.stack = []) : x.removed.shaped :=
  ⟨by simp [Trunk.removed, hs], by simp [Trunk.removed, hs], by simp [Trunk.removed], by simp [Trunk.removed],
    by simp [Trunk.removed], by simp [Trunk.removed], by simp [Trunk.removed, hn], fun _ => hn⟩

theorem State.removeTrunk_eq (s : State) (u : TrunkNo) : s.removeTrunk u = s.setTrunk u (s.trunk u).removed := rfl

theorem State.reportService_callSide (s : State) (u : TrunkNo) : (s.reportService u).callSide = s.callSide := by
  simp [State.reportService]

namespace State.inPlace

/-- An OFFERING trunk is taken OUT OF SERVICE: its call goes back to the queue, uncounted (R81, R112). -/
theorem withdrawOffer {y : Trunk} (h : s.inPlace sc away) (hst : (s.trunk u).state = .offering)
    (hr : (s.trunk u).current = some r) (hy : y.removed.shaped) (hs : y.stack = (s.trunk u).stack)
    (hd : y.draining = (s.trunk u).draining) : ((s.setTrunk u y.removed).handBack r false).inPlace sc away := by
  obtain ⟨p, c, hc, rfl, hseat, hts, hp, hout⟩ := h.current hr
  have hso := Call.offered_of_trunkState (hts.symm.trans hst)
  have hleft := h.vacate hr hy rfl hs hd
  exact hleft.handBack hout (show (s.setTrunk u y.removed).cc.calls.get p = some c from hc) hso
    (fun hx => h.hears hx p c hc hout) false

/-- The service and group of a TRUNK SET that is not refused take effect (R103). -/
theorem applyService (h : s.inPlace sc away) (v : TrunkService) (g : TrunkGroup)
    (hok : v = .outOfService → (s.trunk u).state ≠ .connected ∧ (s.trunk u).stack = []) :
    ((s.mapTrunk u fun x => { x with service := v, group := g }).applyService u v).inPlace sc away := by
  let x : Trunk := { s.trunk u with service := v, group := g }
  have hmap : (s.mapTrunk u fun x => { x with service := v, group := g }) = s.setTrunk u x := rfl
  have htrunk : (s.setTrunk u x).trunk u = x := State.trunk_setTrunk_self _ _ _
  have hshaped := h.shaped u
  have hcur := hshaped.current_none
  obtain ⟨h1, h2, h3, h4, h5, h6, h7, h8⟩ := h.shaped u
  have hreport {w : State} (hw : w.inPlace sc away) : (w.reportService u).inPlace sc away :=
    hw.side (w.reportService_callSide u)
  have hsame (hv : (s.trunk u).service = v) : (s.setTrunk u x).inPlace sc away :=
    h.rebook (by simp [x, Trunk.berth, hv])
  rw [hmap]
  unfold State.applyService
  dsimp only
  rw [htrunk]
  split
  next hst =>
    have hst : (s.trunk u).state = .outOfService := hst
    have hn := hcur (by simp [hst]) (by simp [hst])
    split
    next hl =>
      refine hreport ?_
      rw [State.enterIdle_eq, htrunk, State.setTrunk_setTrunk]
      exact h.reshape (y := x.idling s.cc.now) (Trunk.shaped_idling rfl hl h7 _) ⟨hn.symm, .inl hn⟩ rfl rfl
    next hl =>
      refine hreport ?_
      rw [State.mapTrunk, htrunk, State.setTrunk_setTrunk]
      have hdown : (s.trunk u).link = .down := by
        cases hd : (s.trunk u).link with
        | up => exact absurd hd hl
        | down => rfl
      refine h.reshape (y := { x with state := .linkDown }) ⟨by simp [x], by simp [x, hdown], ?_, ?_, ?_, ?_, h7, fun _ =>
        h8 (.inr hst)⟩ ⟨rfl, .inl hn⟩ rfl rfl
      · rw [hst] at h3
        simpa [x] using h3
      · rw [hst] at h4
        simpa [x] using h4
      · rw [hst] at h5
        simpa [x] using h5
      · rw [hst] at h6
        simpa [x] using h6
  next hst =>
    refine hsame ?_
    cases hs : (s.trunk u).service with
    | inService => rfl
    | outOfService => exact absurd (h1.mp hs) hst
  next hst => exact hsame (h1.mpr hst)
  next hst =>
    have hst : (s.trunk u).state = .offering := hst
    obtain ⟨-, hempty⟩ := hok rfl
    split
    next r hr =>
      obtain ⟨y, hy, hm, -⟩ := State.sendDesk_eq_setTrunk (s.setTrunk u x) u (.withdraw r .outOfService)
      rw [htrunk] at hm
      refine hreport ?_
      rw [State.removeTrunk_eq, hy, State.trunk_setTrunk_self, State.setTrunk_setTrunk, State.setTrunk_setTrunk]
      refine h.withdrawOffer hst hr (Trunk.shaped_removed ?_ ?_) ?_ ?_
      · rw [hm]
      · rw [hm]
        exact hempty
      · rw [hm]
      · rw [hm]
    next hr => exact absurd hr (hshaped.current.mp (.inl hst))
  next hst hst' =>
    obtain ⟨hcon, hempty⟩ := hok rfl
    have hn := hcur hst' hcon
    refine hreport ?_
    rw [State.removeTrunk_eq, htrunk, State.setTrunk_setTrunk]
    exact h.reshape (y := x.removed) (Trunk.shaped_removed rfl hempty) ⟨hn.symm, .inl hn⟩ rfl rfl

theorem applyTrunkSet (h : s.inPlace sc away) (v : TrunkService) (g : TrunkGroup)
    (hok : v = .outOfService → (s.trunk u).state ≠ .connected ∧ (s.trunk u).stack = []) :
    (s.applyTrunkSet u v g).inPlace sc away := by
  have hanswered : (s.answer 0x24 .done).inPlace sc away := h.side rfl
  unfold State.applyTrunkSet
  dsimp only
  split
  · exact (hanswered.applyService v g hok).changed
  · exact hanswered.applyService v g hok

end State.inPlace

/-! ### The soft reset (R93, R123, R188) -/

/-- Without live calls no trunk has a call, and none waits. -/
theorem State.inPlace.trunk_of_no_calls (h : s.inPlace sc away) (hn : ∀ p, s.cc.calls.get p = none) (u : TrunkNo) :
    (s.trunk u).current = none ∧ (s.trunk u).stack = [] := by
  have hnone {k : Seat} {r : CallRef} : ¬ s.seats k r := fun hk => by
    obtain ⟨p, c, hc, -⟩ := h.of_seat hk
    rw [hn p] at hc
    cases hc
  refine ⟨Option.eq_none_iff_forall_ne_some.mpr fun r hr => hnone (k := .current u) hr,
    List.eq_nil_iff_forall_not_mem.mpr fun r hr => hnone (k := .stack u) hr⟩

namespace State.inPlace

theorem endAll (h : s.inPlace sc []) (n : Nat) : (s.endAll n).inPlace sc [] := by
  induction n generalizing s with
  | zero => exact h
  | succ n ih =>
    unfold State.endAll
    split
    next p hp =>
      refine ih ?_
      cases hc : s.cc.calls.get p with
      | none => rwa [State.endCall_of_none hc]
      | some c => exact h.endCall hc List.not_mem_nil _
    next => exact h

end State.inPlace

end Services

end Sys2Proof.Machine
end

section
/-! Every step keeps the waiting queue exact and in key order, every call in its place and every channel with its call (R79,
R97, R124, R153). -/

namespace Sys2Proof.Machine

open Sys2Proof

section Steps

variable {s t : State} {sc : Scope} {away : List CallRef} {p q : LineNo} {c d : Call} {r : CallRef} {u : TrunkNo} {k : Cause}

/-! ### Without calls (R93) -/

/-- A state without calls has every call in its place if its trunks and its channels are empty. -/
theorem State.inPlace_of_no_calls (hr : s.cc.nextRef ≠ 0) (hn : ∀ p, s.cc.calls.get p = none) (hq : s.cc.queue = [])
    (ht : ∀ u, (s.trunk u).shaped ∧ (s.trunk u).current = none ∧ (s.trunk u).stack = [])
    (hp : ∀ p, s.ap.players.get p = .inactive) : s.inPlace sc [] where
  sound := by
    refine ⟨hr, fun p c hc => ?_, fun p q c d hc => ?_⟩ <;>
      · rw [hn p] at hc
        cases hc
  nodup := hq ▸ List.nodup_nil
  ordered := hq ▸ List.Pairwise.nil
  seats k r := by
    constructor
    · intro hk
      cases k with
      | queue =>
        have : r ∈ s.cc.queue := hk
        rw [hq] at this
        cases this
      | current u =>
        have : (s.trunk u).current = some r := hk
        rw [(ht u).2.1] at this
        cases this
      | stack u =>
        have : r ∈ (s.trunk u).stack := hk
        rw [(ht u).2.2] at this
        cases this
    · rintro ⟨-, p, c, hc, -⟩
      rw [hn p] at hc
      cases hc
  settled p c hc := by rw [hn p] at hc; cases hc
  states p c u hc := by rw [hn p] at hc; cases hc
  shaped u := (ht u).1
  drained _ u _ := (ht u).2
  silent _ p _ := hp p
  composed _ p c hc := by rw [hn p] at hc; cases hc
  hears _ p c hc := by rw [hn p] at hc; cases hc

theorem Trunk.shaped_initial (g : TrunkGroup) : (Trunk.initial g).shaped := by
  simp [Trunk.shaped, Trunk.initial]

theorem State.inPlace_powerOn (s : State) : s.powerOn.inPlace sc [] := by
  refine State.inPlace_of_no_calls (by simp [State.powerOn, State.heldInReset, CallControl.initial])
    (Table.get_fill none) rfl (fun u => ?_) (Table.get_fill Player.inactive)
  have htrunk : s.powerOn.trunk u = Trunk.initial (Trunk.defaultGroup u) := Table.get_ofFn _ u
  rw [htrunk]
  exact ⟨Trunk.shaped_initial _, rfl, rfl⟩

/-! ### The soft reset (R93, R123, R188) -/

/-- What the trunks' draining asks is left out of account while a soft reset ends the calls (R123). -/
def Scope.apart (sc : Scope) : Scope := ⟨sc.channels, False⟩

namespace State.inPlace

theorem apart (h : s.inPlace sc away) : s.inPlace sc.apart away := { h with drained := nofun }

/-- The trunks begin to drain with their calls (R123). -/
theorem beginSoftReset (h : s.inPlace sc away) : s.beginSoftReset.inPlace sc.apart away := by
  have htrunk (w : TrunkNo) : s.beginSoftReset.trunk w = (s.trunk w).beginDrain := State.beginSoftReset_trunk s w
  exact
    { h.apart with
      sound := h.sound.of_cc rfl
      seats := fun k r => by
        have hk : s.beginSoftReset.seats k r ↔ s.seats k r := by
          cases k with
          | queue => exact Iff.rfl
          | current w => simp only [State.seats, htrunk]; rfl
          | stack w => simp only [State.seats, htrunk]; rfl
        exact hk.trans (h.seats k r)
      states := fun p c w hc hout hs => by
        rw [htrunk]
        exact h.states p c w hc hout hs
      shaped := fun w => by
        rw [htrunk]
        exact h.shaped w
      drained := nofun }

/-- After the ends of a soft reset no call is left, and each trunk is empty (R93, R123). -/
theorem endCallsForReset (h : s.inPlace sc []) : s.beginSoftReset.endCallsForReset.inPlace sc [] := by
  have hended := h.beginSoftReset.endAll 48
  have hnone := State.calls_of_liveCalls_nil (s := s.beginSoftReset.endAll 48) (by
    have := (State.endAll_emptied 48 s.beginSoftReset (fun w => by rw [State.beginSoftReset_trunk]; rfl)
      s.beginSoftReset.length_liveCalls_le).calls
    omega)
  have hside : (((s.beginSoftReset.endAll 48).setQueue []).judgeNoTrunk).callSide =
      ((s.beginSoftReset.endAll 48).setQueue []).callSide := State.judgeNoTrunk_callSide _
  simp only [State.callSide, Prod.mk.injEq] at hside
  obtain ⟨hcc, hti, -⟩ := hside
  refine State.inPlace_of_no_calls ?_ (fun p => ?_) ?_ (fun w => ?_) (Table.get_fill Player.inactive)
  · change (((s.beginSoftReset.endAll 48).setQueue []).judgeNoTrunk).cc.nextRef ≠ 0
    rw [hcc]
    exact hended.sound.1
  · change (((s.beginSoftReset.endAll 48).setQueue []).judgeNoTrunk).cc.calls.get p = none
    rw [hcc]
    exact hnone p
  · change (((s.beginSoftReset.endAll 48).setQueue []).judgeNoTrunk).cc.queue = []
    rw [hcc]
    rfl
  · have htrunk : s.beginSoftReset.endCallsForReset.trunk w = (s.beginSoftReset.endAll 48).trunk w :=
      congrArg (fun x : Table 8 Trunk => x.get w) hti
    rw [htrunk]
    exact ⟨hended.shaped w, hended.trunk_of_no_calls hnone w⟩

theorem foldl_resetDrained (h : s.inPlace sc []) (hd : sc.drains) (ws : List TrunkNo) :
    (ws.foldl State.resetDrained s).inPlace sc [] := by
  induction ws generalizing s with
  | nil => exact h
  | cons w ws ih => exact ih (h.resetDrained (h.drained hd w))

theorem defaults_loaded (h : s.inPlace sc away) : s.defaults.loadAndPlace.inPlace sc away :=
  h.of_sameStations
    { calls := fun _ => rfl
      queue := rfl
      nextRef := rfl
      trunks := fun _ => rfl
      chains := fun _ => rfl }

theorem softReset (h : s.inPlace sc []) (hd : sc.drains) : s.softReset.inPlace sc [] := by
  have hidle : s.beginSoftReset.endCallsForReset.resetIdleTrunks.inPlace sc [] :=
    h.endCallsForReset.foldl_resetDrained hd (List.finRange 8)
  exact hidle.defaults_loaded.side (State.recordAndReady_callSide _ _)

/-! ### The commands -/

theorem running {f : State → State} (h : s.inPlace sc []) (hx : s.running f = .next t)
    (hf : ∀ v : State, v.inPlace sc [] → (f v).inPlace sc []) : t.inPlace sc [] := State.running_keeps hf h hx

theorem takeEvent {e : LineEvent} {f : State → State} (h : s.inPlace sc [])
    (hf : ∀ v : State, v.inPlace sc [] → (f v).inPlace sc []) : (s.takeEvent e f).inPlace sc [] :=
  State.takeEvent_keeps (fun _ _ hv => hv.side rfl) hf h

/-- A desk request is served with the link of its trunk UP, the trunk not being reset (R107, R123). -/
theorem takeDesk {m : DeskRequest} {f : State → State} (h : s.inPlace sc [])
    (hf : ∀ v : State, v.inPlace sc [] → (v.trunk u).link = .up → (v.trunk u).draining = false → (f v).inPlace sc []) :
    (s.takeDesk u m f).inPlace sc [] := by
  unfold State.takeDesk
  dsimp only
  split
  next hup =>
    obtain ⟨hl, hd⟩ := hup
    split
    · exact hf s h hl hd
    · split
      · exact hf _ (h.rebook (by rfl)) (by rw [State.trunk_setTrunk_self]; exact hl)
          (by rw [State.trunk_setTrunk_self]; exact hd)
      · exact h
  next => exact h

theorem serveOnce {code : Octet} {allowed : Nat → Bool} {body : List Octet} {g : State → State} (h : s.inPlace sc [])
    (hg : ∀ v : State, v.inPlace sc [] → (g v).inPlace sc []) : (s.serveOnce code allowed body g).inPlace sc [] :=
  State.serveOnce_keeps (fun _ _ hv => hv.side rfl) hg h

theorem setParam {α : Type} {id : Octet} {value : List Octet} {check : List Octet → Option α}
    {apply : α → State → State} (h : s.inPlace sc []) (ha : ∀ a (v : State), v.inPlace sc [] → (apply a v).inPlace sc []) :
    (s.setParam id value check apply).inPlace sc [] := State.setParam_keeps (fun _ _ hv => hv.side rfl) ha h

/-- The end of the call of a place, if it has one. -/
theorem endPlace (h : s.inPlace sc []) (p : LineNo) (k : Cause) : (s.endCall p k).inPlace sc [] := by
  cases hc : s.cc.calls.get p with
  | none => rwa [State.endCall_of_none hc]
  | some c => exact h.endCall hc List.not_mem_nil k

theorem clearCall (h : s.inPlace sc []) (armed : Option CallRef) (r : CallRef) : (s.clearCall armed r).inPlace sc [] := by
  have hdone : (s.answer 0x23 .done).inPlace sc [] := h.side rfl
  unfold State.clearCall
  split
  · split
    · exact hdone.endPlace _ _
    · exact h.side rfl
  · exact h.side rfl

theorem execRetrieve (h : s.inPlace sc []) (hx : execRetrieve u s = .next t) : t.inPlace sc [] := by
  refine h.running hx fun w hw => hw.takeDesk fun v hv hl hd => ?_
  have hcur := (hv.shaped u).current_none
  dsimp only
  split
  next hst => exact hv.sendDesk u _
  next top rest hst hstack => exact hv.retrieveTop hstack (hcur (by simp [hst]) (by simp [hst])) hd
  next top rest hst hstack => exact hv.retrieveTop hstack (hcur (by simp [hst]) (by simp [hst])) hd
  next top rest hst hstack =>
    split
    next r hr => exact hv.retrieveOffering hst hr hstack hd _
    next hr => exact absurd hr ((hv.shaped u).current.mp (.inl hst))
  next => exact hv.sendDesk u _

end State.inPlace

/-- Every command keeps every call in its place (R79, R97, R124, R153). -/
theorem exec_inPlace (c : Instr) (h : s.inPlace sc []) (hd : sc.drains) (hx : exec c s = .next t) : t.inPlace sc [] := by
  cases hm : movesCalls c with
  | false => exact h.of_sameStations (exec_sameStations c hm hx)
  | true =>
  unfold exec at hx
  cases c with
  | powerOnReset =>
    cases hx
    exact State.inPlace_powerOn s
  | seizure l =>
    refine h.running hx fun w hw => hw.takeEvent fun v hv => ?_
    split
    next p hl hp => exact hv.seizure hl (State.freePlace_free hp)
    next => exact hv
  | codeResult l code =>
    refine h.running hx fun w hw => hw.takeEvent fun v hv => ?_
    split
    next p hp =>
      split
      next hany =>
        obtain ⟨c, hc, -⟩ := State.placeOfLine_spec hp
        exact hv.codeResult hc (by simpa [hc] using hany) _
      next => exact hv
    next => exact hv
  | offHookAtStart l => exact h.running hx fun w hw => hw.takeEvent fun v hv => hv.openWaiting l
  | lockoutExpiry l => exact h.running hx fun w hw => hw.takeEvent fun v hv => hv.openWaiting l
  | hangUp l =>
    refine h.running hx fun w hw => hw.takeEvent fun v hv => ?_
    split
    · split
      · exact hv.endPlace _ _
      · exact hv
    · exact hv
  | lineLost l =>
    refine h.running hx fun w hw => hw.takeEvent fun v hv => ?_
    split
    · exact hv.endPlace _ _
    · exact hv
  | lineFault l kind =>
    refine h.running hx fun w hw => hw.takeEvent fun v hv => ?_
    split
    · exact hv.endPlace _ _
    · exact hv
  | answered l =>
    refine h.running hx fun w hw => hw.takeEvent fun v hv => ?_
    split
    next p _ =>
      split
      next c hc =>
        split
        next u hs ht => exact hv.answered hc hs ht
        next => exact hv
      next => exact hv
    next => exact hv
  | aging r =>
    refine h.running hx fun v hv => ?_
    split
    next p _ =>
      split
      next c hc =>
        split
        next hdue =>
          have haged := hv.ageCall hc (State.agingDue_waiting hdue)
          split
          · exact haged
          · exact haged.changed
        next => exact hv
      next => exact hv
    next => exact hv
  | trunkFrameReceived u f =>
    refine h.running hx fun v hv => ?_
    split
    · split
      · exact hv.goodFrame u _
      · exact hv.badFrame u
    · exact hv.badFrame u
  | accept u r =>
    refine h.running hx fun w hw => hw.takeDesk fun v hv hl hd => ?_
    dsimp only
    split
    next p hp =>
      split
      next hcur => exact (hv.accept hcur.2 hp hd).sendDesk u _
      next => exact hv.sendDesk u _
    next => exact hv.sendDesk u _
  | decline u r =>
    refine h.running hx fun w hw => hw.takeDesk fun v hv hl hd => ?_
    dsimp only
    split
    next hcur => exact hv.endOffer hcur.1 hcur.2 _
    next => exact hv.sendDesk u _
  | release u r =>
    refine h.running hx fun w hw => hw.takeDesk fun v hv hl hd => ?_
    dsimp only
    split
    · split
      · exact (hv.sendDesk u _).endPlace _ _
      · exact hv.sendDesk u _
    · exact hv.sendDesk u _
  | hold u r =>
    refine h.running hx fun w hw => hw.takeDesk fun v hv hl hd => ?_
    split
    · exact hv.sendDesk u _
    · exact hv.sendDesk u _
    next p hnone hp =>
      have hcur : (v.trunk u).current = some r := by
        by_contra hne
        rw [State.holdRefusal, if_pos (.inr hne)] at hnone
        cases hnone
      exact ((hv.hold hcur hp hd).sendDesk u _).changed
  | retrieve u => exact h.execRetrieve hx
  | callback u line =>
    refine h.running hx fun w hw => hw.takeDesk fun v hv hl hd => ?_
    split
    · exact hv.sendDesk u _
    · split
      next hi => exact hv.callBack hi hl hd _ _
      next => exact hv.sendDesk u _
  | offerTimerExpiry u =>
    refine h.running hx fun v hv => ?_
    dsimp only
    split
    next r hr =>
      split
      next hst => exact hv.endOffer hst.1 hr _
      next => exact hv
    next => exact hv
  | guardTimerExpiry u =>
    refine h.running hx fun v hv => ?_
    dsimp only
    split
    next hg => exact (hv.guardEnds hg.1).changed
    next => exact hv
  | minimumHoldServed r =>
    refine h.running hx fun v hv => ?_
    split
    · split
      · split
        · exact hv.examine
        · exact hv
      · exact hv
    · exact hv
  | preemptionTimerExpiry r =>
    refine h.running hx fun v hv => ?_
    split
    · split
      · exact hv.endPlace _ _
      · exact hv
    · exact hv
  | ringingTimeout r =>
    refine h.running hx fun v hv => ?_
    split
    · split
      · exact hv.endPlace _ _
      · exact hv
    · exact hv
  | paramSetAgingPeriod value =>
    refine h.running hx fun w hw => hw.setParam fun n v hv => ?_
    have hset : ({ v with cc := { v.cc with agingPeriod := n } } : State).inPlace sc [] :=
      hv.of_sameStations ⟨fun _ => rfl, rfl, rfl, fun _ => rfl, fun _ => rfl⟩
    have haged := State.inPlace.foldl_ageIfDue (List.finRange 48) (_, false) hset
    dsimp only
    split
    · exact haged.changed
    · exact haged
  | paramSetEscalationThreshold value =>
    refine h.running hx fun w hw => hw.setParam fun n v hv => ?_
    have hset : ({ v with cc := { v.cc with escalation := n } } : State).inPlace sc [] :=
      hv.of_sameStations ⟨fun _ => rfl, rfl, rfl, fun _ => rfl, fun _ => rfl⟩
    exact hset.pass
  | paramSetMinimumHold value =>
    refine h.running hx fun w hw => hw.setParam fun n v hv => ?_
    have hset : ({ v with cc := { v.cc with minimumHold := n } } : State).inPlace sc [] :=
      hv.of_sameStations ⟨fun _ => rfl, rfl, rfl, fun _ => rfl, fun _ => rfl⟩
    exact hset.examine
  | clearCall body =>
    refine h.running hx fun w hw => hw.serveOnce fun v hv => ?_
    split
    · exact hv.clearCall _ _
    · exact hv.side rfl
  | trunkSet body =>
    refine h.running hx fun w hw => hw.serveOnce fun v hv => ?_
    split
    · split
      next u a g _ _ _ =>
        split
        · exact hv.side rfl
        next hok =>
          refine hv.applyTrunkSet a g fun ha => ?_
          rw [not_and_or, not_or, not_not] at hok
          exact hok.resolve_left fun hn => hn ha
      · exact hv.side rfl
    · exact hv.side rfl
  | reset body =>
    refine h.running hx fun w hw => hw.serveOnce fun v hv => ?_
    split
    · exact hv.softReset hd
    · exact hv.side rfl
  | trunkResetAfterDrain u =>
    refine h.running hx fun v hv => ?_
    split
    · exact (hv.resetDrained (hv.drained hd u)).changed
    · exact hv
  | _ => exact absurd hm (by nofun)

theorem step_inPlace (h : s.inPlace sc []) (hd : sc.drains) (ht : step s = .next t) : t.inPlace sc [] :=
  step_keeps (P := fun v => v.inPlace sc []) (fun _ _ hv => hv.side rfl)
    (fun v hv => hv.of_sameStations v.idle_sameStations) (fun c _ _ hv hx => exec_inPlace c hv hd hx) h ht

end Steps

/-- Settles O28: insertion by key, and the seats of the calls with their channels, which every command keeps. -/
theorem insertionKeepsQueueOrder : Obligations.InsertionKeepsQueueOrder := by
  refine ⟨fun look c q hc hlive hq => ⟨insertByKey_pairwise hc q hlive hq, insertByKey_perm look c q⟩, ?_, ?_⟩
  · intro s t h ht
    exact (step_inPlace (sc := ⟨False, True⟩) (State.inPlace_of_callsPlaced h nofun) trivial ht).callsPlaced trivial
  · intro s t h hch ht
    exact (step_inPlace (sc := ⟨True, True⟩) (State.inPlace_of_callsPlaced h fun _ => hch) trivial ht).channelsPlaced trivial

end Sys2Proof.Machine
end

section
/-! The millisecond of an idle queue, the requests that read the call table, and the line events that create a call or do
nothing (R71, R73 to R77, R94, R95). -/

namespace Sys2Proof.Machine

open Sys2Proof

/-! ### The millisecond (R71, R164, R178) -/

/-- The receiver is all that a millisecond touches of the link (R178). -/
theorem Link.tick_frame (k : Link) : k.tick = { k with receiver := k.tick.receiver } := by
  unfold Link.tick
  split <;> rfl

theorem Link.tick_hunting {k : Link} (h : k.receiver = .hunting) : k.tick.receiver = .hunting := by
  unfold Link.tick
  rw [h]
  exact h

theorem Link.tick_receiving {k : Link} {os : List Octet} {gap : Nat} (h : k.receiver = .receiving os gap) :
    k.tick.receiver = .receiving os (gap + 1) := by
  unfold Link.tick
  rw [h]

/-- The phase and the seconds count pass on, and the watchdog runs (R164, R168). -/
theorem TimeBase.tick_eq (b : TimeBase) : b.tick =
    { b with
      phase := if b.phase < 999 then b.phase + 1 else 0
      seconds := if b.phase < 999 then b.seconds else b.seconds + 1
      watchdog := b.watchdog.map (· + 1) } := by
  unfold TimeBase.tick TimeBase.boundary
  dsimp only
  split <;> rfl

theorem State.tick_call (s : State) (p : LineNo) : s.tick.cc.calls.get p = (s.cc.calls.get p).map Call.tick :=
  Table.get_map _ _ _

theorem step_of_nil {s : State} (h : s.pending = []) : step s = .next s.idle := by
  unfold step
  rw [h]

/-- Settles O2: an idle step is `State.tick`, unless a power-on reset is held. -/
theorem emptyQueueLetsAMillisecondPass : Obligations.EmptyQueueLetsAMillisecondPass := by
  intro s hp
  refine ⟨fun hs => ?_, fun hs => ⟨s.tick, ?_, ?_, fun u => ?_, fun p hn => ?_, fun p c hc => ?_, fun ho => ?_, fun op ho => ?_,
    fun hr => ?_, fun os gap hr => ?_⟩⟩
  · rw [step_of_nil hp, State.idle, if_pos hs]
  · rw [step_of_nil hp, State.idle, if_neg (by simp [hs])]
  · rw [← TimeBase.tick_eq]
    change s.tick = { s.tick with link := { s.link with receiver := s.link.tick.receiver } }
    rw [← Link.tick_frame]
    rfl
  · exact Table.get_map _ _ _
  · rw [State.tick_call, hn]
    rfl
  · rw [State.tick_call, hc]
    rfl
  · exact congrArg (Option.map _) ho
  · exact congrArg (Option.map _) ho
  · exact Link.tick_hunting hr
  · exact Link.tick_receiving hr

/-! ### CALL LIST and CALL QUERY (R94, R95) -/

section Queries

variable {s : State} {hi lo n : Octet}

theorem State.callsBySequence_pairwise (s : State) :
    s.callsBySequence.Pairwise fun c d => c.sequence.toNat ≤ d.sequence.toNat := by
  have : Std.Total fun c d : Call => c.sequence.toNat ≤ d.sequence.toNat := ⟨fun c d => Nat.le_total _ _⟩
  have : IsTrans Call fun c d => c.sequence.toNat ≤ d.sequence.toNat := ⟨fun _ _ _ => Nat.le_trans⟩
  exact List.pairwise_insertionSort _ _

/-- CALL LIST by its starting position (R94). -/
theorem exec_callList (hr : s.ready 0x20 [n]) : exec (.callList [n]) s = .next (s.answered
    (if n.toNat ≤ 47 then ⟨0x20, .done, none,
      .callList s.liveCalls.length (((s.callsBySequence.drop n.toNat).take 16).map s.listEntry)⟩
    else ⟨0x20, .range, none, .nothing⟩)) := by
  change execCallList [n] s = _
  rw [execCallList, State.running_of _ _ hr.1, State.serveOnce_ready hr (by rfl)]
  dsimp only
  split <;> rfl

/-- CALL QUERY by the reference it names (R95). -/
theorem exec_callQuery (hr : s.ready 0x21 [hi, lo]) : exec (.callQuery [hi, lo]) s = .next (s.answered
    (if refOf hi lo = 0 then ⟨0x21, .range, none, .nothing⟩
    else match s.callOfRef (refOf hi lo) with
      | some c => ⟨0x21, .done, none, .call c (s.queuePosition c) (s.stackPosition c) (s.age c.createdAt / 1000)⟩
      | none => ⟨0x21, .unknown, none, .nothing⟩)) := by
  have hlook : (s.mapLink Link.serving).callOfRef (refOf hi lo) = s.callOfRef (refOf hi lo) := rfl
  change execCallQuery [hi, lo] s = _
  rw [execCallQuery, State.running_of _ _ hr.1, State.serveOnce_ready hr (by rfl)]
  dsimp only
  rw [hlook]
  split
  · rfl
  · cases s.callOfRef (refOf hi lo) <;> rfl

end Queries

/-- Settles O52: the two requests by their bodies. -/
theorem callRequestsAnswerTheTable : Obligations.CallRequestsAnswerTheTable := by
  intro s n hi lo
  refine ⟨fun hr hn => ⟨s.callsBySequence, s.callsBySequence_perm, s.callsBySequence_pairwise, ?_⟩, fun hr hn => ?_,
    fun hr h0 => ?_, fun hr h0 hp => ?_, fun p c hr h0 hc href => ?_⟩
  · rw [exec_callList hr, if_pos hn]
  · rw [exec_callList hr, if_neg (Nat.not_le.mpr hn)]
  · rw [exec_callQuery hr, if_pos h0]
  · rw [exec_callQuery hr, if_neg h0, State.callOfRef, hp]
    rfl
  · rw [exec_callQuery hr, if_neg h0, ← href, State.callAt_callOfRef hc]

/-! ### Events that create a call or do nothing (R73 to R77) -/

section Events

variable {s : State} {l p : LineNo} {code : CodeResult}

theorem exec_seizure (he : s.eventReady (.seizure l)) : exec (.seizure l) s = .next
    (match s.placeOfLine l, s.freePlace with
      | none, some p => (s.tookEvent (.seizure l)).addCall p (s.newCall l .originating)
      | _, _ => s.tookEvent (.seizure l)) := by
  have hplace : (s.tookEvent (.seizure l)).placeOfLine l = s.placeOfLine l := rfl
  have hfree : (s.tookEvent (.seizure l)).freePlace = s.freePlace := rfl
  change execSeizure l s = _
  rw [execSeizure, State.running_of _ _ he.1, State.takeEvent_ready he, hplace, hfree]
  cases s.placeOfLine l <;> cases s.freePlace <;> rfl

/-- A line that a live call names takes no new call (R77). -/
theorem State.openWaiting_named (h : s.placeOfLine l = some p) : s.openWaiting l = s := by
  unfold State.openWaiting
  rw [h]

theorem exec_offHookAtStart (he : s.eventReady (.offHookAtStart l)) :
    exec (.offHookAtStart l) s = .next ((s.tookEvent (.offHookAtStart l)).openWaiting l) := by
  change execOffHookAtStart l s = _
  rw [execOffHookAtStart, State.running_of _ _ he.1, State.takeEvent_ready he]

theorem exec_lockoutExpiry (he : s.eventReady (.lockoutExpiry l)) :
    exec (.lockoutExpiry l) s = .next ((s.tookEvent (.lockoutExpiry l)).openWaiting l) := by
  change execLockoutExpiry l s = _
  rw [execLockoutExpiry, State.running_of _ _ he.1, State.takeEvent_ready he]

/-- CODE RESULT without an ORIGINATING call on the line does nothing (R76). -/
theorem exec_codeResult_disregarded (he : s.eventReady (.codeResult l code))
    (h : ∀ p c, s.placeOfLine l = some p → s.cc.calls.get p = some c → c.state ≠ .originating) :
    exec (.codeResult l code) s = .next (s.tookEvent (.codeResult l code)) := by
  have hplace : (s.tookEvent (.codeResult l code)).placeOfLine l = s.placeOfLine l := rfl
  change execCodeResult l code s = _
  rw [execCodeResult, State.running_of _ _ he.1, State.takeEvent_ready he, hplace]
  cases hp : s.placeOfLine l with
  | none => rfl
  | some p =>
    dsimp only
    rw [if_neg]
    intro hany
    obtain ⟨c, hc, -⟩ := State.placeOfLine_spec hp
    refine h p c hp hc ?_
    rw [show (s.tookEvent (.codeResult l code)).cc.calls.get p = some c from hc] at hany
    simpa using hany

/-- ANSWERED of a RINGING callback connects it where it stands (R137). -/
theorem exec_answered {c : Call} {t : TrunkNo} (he : s.eventReady (.answered l)) (hp : s.placeOfLine l = some p)
    (hc : s.cc.calls.get p = some c) (hs : c.state = .ringing) (ht : c.trunk = some t) :
    exec (.answered l) s = .next ((s.tookEvent (.answered l)).connect p t) := by
  have hplace : (s.tookEvent (.answered l)).placeOfLine l = s.placeOfLine l := rfl
  have hget : (s.tookEvent (.answered l)).cc.calls.get p = some c := hc
  change execAnswered l s = _
  rw [execAnswered, State.running_of _ _ he.1, State.takeEvent_ready he, hplace, hp]
  dsimp only
  rw [hget]
  dsimp only
  rw [hs, ht]

/-- ANSWERED without a RINGING call on the line does nothing (log entry 33). -/
theorem exec_answered_disregarded (he : s.eventReady (.answered l))
    (h : ∀ p c, s.placeOfLine l = some p → s.cc.calls.get p = some c → c.state ≠ .ringing) :
    exec (.answered l) s = .next (s.tookEvent (.answered l)) := by
  have hplace : (s.tookEvent (.answered l)).placeOfLine l = s.placeOfLine l := rfl
  change execAnswered l s = _
  rw [execAnswered, State.running_of _ _ he.1, State.takeEvent_ready he, hplace]
  cases hp : s.placeOfLine l with
  | none => rfl
  | some p =>
    obtain ⟨c, hc, -⟩ := State.placeOfLine_spec hp
    have hget : (s.tookEvent (.answered l)).cc.calls.get p = some c := hc
    have hs := h p c hp hc
    dsimp only
    rw [hget]
    dsimp only
    split
    next hr _ => exact absurd hr hs
    next => rfl

end Events

/-- Settles O23: the new call takes the first free place; the rest are the events' branches without one. -/
theorem seizureCreatesOneCall : Obligations.SeizureCreatesOneCall := by
  refine ⟨fun s l p he hl hp hn => ?_, fun s l p code hl => ⟨fun he => ?_, fun he => ?_, fun he => ?_, fun he ho => ?_,
    fun he ho => ?_⟩, fun s l code hl => ⟨fun he => ?_, fun he => ?_⟩⟩
  · obtain ⟨hzero, hfresh⟩ := State.newCall_ref_fresh hn (State.freePlace_free hp) l .originating
    refine ⟨s.newCall l .originating, ?_, rfl, rfl, hzero, hfresh, rfl, rfl, rfl, rfl, rfl, rfl, rfl, rfl⟩
    rw [exec_seizure he, hl, hp]
    rfl
  · rw [exec_seizure he, hl]
  · rw [exec_offHookAtStart he, State.openWaiting_named (s := s.tookEvent _) hl]
  · rw [exec_lockoutExpiry he, State.openWaiting_named (s := s.tookEvent _) hl]
  · refine exec_codeResult_disregarded he fun q c hq hc => ?_
    obtain rfl := Option.some.inj (hl.symm.trans hq)
    exact ho c hc
  · refine exec_answered_disregarded he fun q c hq hc => ?_
    obtain rfl := Option.some.inj (hl.symm.trans hq)
    exact ho c hc
  · exact exec_codeResult_disregarded he fun q c hq => by rw [hl] at hq; cases hq
  · exact exec_answered_disregarded he fun q c hq => by rw [hl] at hq; cases hq

end Sys2Proof.Machine
end

section
/-! What the end of a call leaves behind (R90 to R92), for any cause, and the events, timers and requests that end one
(R78, R138, R142, R146). -/

namespace Sys2Proof.Machine

open Sys2Proof

section Reporting

variable {s t : State} {k : RecordKind} {r : Report}

/-! ### A record and a report after it (R173, R175, R181) -/

/-- A report that finds no room is lost, and the loss is flagged (R181). -/
theorem State.report_lost (h : 16 ≤ s.link.reports) : (s.report r).link.reportLoss = true := by
  rw [State.report, if_neg (show ¬ s.link.reports < Config.outputReports from Nat.not_lt.mpr h)]
  rfl

theorem State.report_reports (h : s.link.reports < 16) : (s.report r).link.reports = s.link.reports + 1 := by
  rw [Link.reports, State.report_output h]
  rw [List.filter_append, List.length_append]
  rfl

theorem State.report_reports_full (h : 16 ≤ s.link.reports) : (s.report r).link.reports = s.link.reports := by
  rw [State.report, if_neg (show ¬ s.link.reports < Config.outputReports from Nat.not_lt.mpr h)]
  rfl

theorem State.report_keeps_loss (h : s.link.reportLoss = true) : (s.report r).link.reportLoss = true := by
  unfold State.report
  split
  · exact h
  · rfl

/-- What a record does to the output list: a report if one is due, else nothing (R175). -/
theorem State.record_link_cases (s : State) (k : RecordKind) :
    (s.journal.levelDue = true ∧ ∃ r, (s.record k).link = (s.report r).link) ∨
      s.journal.levelDue = false ∧ (s.record k).link = s.link := by
  have hlength (x : Record) (h : s.journal.records.length < 256) :
      (Journal.append s.journal.records x).length = s.journal.records.length + 1 := by
    rw [Journal.append, if_pos (show _ < Config.journalCapacity from h)]
    simp
  have hcopy (v : State) (hv : v.link = s.link) (r : Report) : (v.report r).link = (s.report r).link := by
    unfold State.report
    rw [hv]
    split <;> simp [State.mapLink, hv]
  unfold State.record
  by_cases he : s.journal.exhausted = true
  · exact .inr ⟨by simp [Journal.levelDue, he], by rw [if_pos he]⟩
  · rw [if_neg he]
    dsimp only
    split
    next hdue =>
      rw [hlength _ hdue.1] at hdue
      refine .inl ⟨?_, _, hcopy _ (by rfl) _⟩
      simpa [Journal.levelDue, he] using hdue
    next hdue =>
      refine .inr ⟨?_, rfl⟩
      rw [← Bool.not_eq_true]
      intro hd
      simp only [Journal.levelDue, he, Bool.not_false, Bool.true_and, Bool.and_eq_true, decide_eq_true_eq] at hd
      exact hdue ⟨hd.1, (hlength _ hd.1).trans hd.2⟩

/-- A report made after a record has room if the record's own report leaves it some (R181). -/
theorem State.mem_record_report (h : s.link.reports + (if s.journal.levelDue then 1 else 0) < 16) :
    .report r ∈ ((s.record k).report r).link.output := by
  have hroom : (s.record k).link.reports < 16 := by
    rcases s.record_link_cases k with ⟨hd, q, hq⟩ | ⟨hd, hq⟩ <;> rw [hq] <;> rw [hd] at h
    · rw [State.report_reports (by omega)]
      exact h
    · simpa using h
  rw [State.report_output hroom]
  exact List.mem_append_right _ (List.mem_singleton_self _)

/-- A report made after a record is lost if both find no room (R181). -/
theorem State.record_report_lost (h : 16 ≤ s.link.reports + (if s.journal.levelDue then 1 else 0)) :
    ((s.record k).report r).link.reportLoss = true := by
  refine State.report_lost ?_
  rcases s.record_link_cases k with ⟨hd, q, hq⟩ | ⟨hd, hq⟩ <;> rw [hq] <;> rw [hd] at h
  · by_cases hr : s.link.reports < 16
    · rw [State.report_reports hr]
      exact h
    · rw [State.report_reports_full (Nat.not_lt.mp hr)]
      exact Nat.not_lt.mp hr
  · simpa using h

/-! ### What passes keep of the loss flag (R181) -/

theorem State.judgeNoTrunk_keeps_loss (h : s.link.reportLoss = true) : s.judgeNoTrunk.link.reportLoss = true := by
  unfold State.judgeNoTrunk
  dsimp only
  split
  · exact State.report_keeps_loss h
  · split
    · exact State.report_keeps_loss h
    · exact h

theorem State.foldl_link {f : State → TrunkNo → State} (hf : ∀ (v : State) w, (f v w).link = v.link) (ws : List TrunkNo)
    (s : State) : (ws.foldl f s).link = s.link := by
  induction ws generalizing s with
  | nil => rfl
  | cons w ws ih => exact (ih _).trans (hf s w)

theorem State.pass_keeps_loss (h : s.link.reportLoss = true) : s.pass.link.reportLoss = true := by
  let v := (s.eligibleTrunks .primary).foldl State.offerHead s
  let w := (v.eligibleTrunks .overflow).foldl State.offerQualified v
  have hv : v.link = s.link := State.foldl_link State.offerHead_link _ s
  have hw : w.link = v.link := State.foldl_link State.offerQualified_link _ v
  have hpass : s.pass = w.judgeNoTrunk.examine := rfl
  rw [hpass, State.examine_link]
  exact State.judgeNoTrunk_keeps_loss (by rw [hw, hv]; exact h)

theorem State.changed_keeps_loss (h : s.link.reportLoss = true) : s.changed.link.reportLoss = true := by
  rw [State.changed]
  exact State.pass_keeps_loss (State.judgeNoTrunk_keeps_loss h)

end Reporting

section Ends

variable {s t : State} {p : LineNo} {c : Call} {u w : TrunkNo} {k : Cause}

/-! ### The end itself (R90 to R92) -/

/-- The first steps of an end write the queue and the trunks alone. -/
theorem State.leave_eq (s : State) (c : Call) (k : Cause) : s.leave c k =
    { s with
      cc := { s.cc with queue := if c.state = .waiting then s.cc.queue.erase c.ref else s.cc.queue }
      ti := { s.ti with trunks := (s.leave c k).ti.trunks } } := by
  cases h : c.trunk with
  | none =>
    rw [s.leave_of_none k h]
    rfl
  | some u =>
    rw [s.leave_of_some k h]
    rfl

/-- What an end makes of a trunk (R90, R91, R115). -/
theorem State.leave_trunk (s : State) (c : Call) (k : Cause) (w : TrunkNo) : (s.leave c k).trunk w =
    if c.trunk = some w then ((s.trunk w).delivered (c.endMessage k).toList).lets c s.ti.guardTime else s.trunk w := by
  cases h : c.trunk with
  | none => simp [s.leave_of_none k h]
  | some u =>
    rw [s.leave_of_some k h]
    by_cases hw : u = w
    · subst hw
      simp
    · simp [hw]

/-- The state of an end before its record: the call out of its seat, its channel stopped, CALL ENDED on its way (R90). -/
def State.ending (s : State) (p : LineNo) (c : Call) (k : Cause) : State :=
  { s with
    cc := { s.cc with queue := if c.state = .waiting then s.cc.queue.erase c.ref else s.cc.queue }
    ti := { s.ti with trunks := (s.leave c k).ti.trunks }
    ap := { s.ap with players := s.ap.players.set p .inactive }
    callEnds := s.callEnds ++ [c.line] }

theorem State.ended_eq (s : State) (p : LineNo) (c : Call) (k : Cause) : s.ended p c k =
    (((s.ending p c k).record (.callEnd (s.callEndOf c k))).report
      (.callEvent c.ref c.line (c.identity.map CallIdentity.kind) c.state k s.journal.nextNumber)).setCall p none := by
  unfold State.ended
  rw [s.leave_eq c k]
  rfl

theorem State.ended_trunk (s : State) (p : LineNo) (c : Call) (k : Cause) (w : TrunkNo) :
    (s.ended p c k).trunk w = (s.leave c k).trunk w := by
  rw [s.ended_eq]
  simp [State.ending, State.trunk]

/-- An end but for what it brings with it, in the terms of the statements. -/
theorem State.endedIn_ended (s : State) (p : LineNo) (c : Call) (k : Cause) : s.endedIn (s.ended p c k) p c k := by
  have hcalls (q : LineNo) (hq : p ≠ q) : (s.ended p c k).cc.calls.get q = s.cc.calls.get q := (s.ended_ne c k hq).1
  refine ⟨?place, fun hw => ?waiting, fun hw => ?queue, ?player, ?ends, fun u hu => ⟨fun hh hcur => ?guard, fun hh => ?stack,
    fun hl hroom m hm => ?message⟩, fun he => ?journal, fun he => ?exhausted, fun hroom => ?event, fun hfull => ?lost,
    fun q a hq ha => ⟨a, (hcalls q hq.symm).trans ha, rfl, rfl, rfl, rfl, rfl, fun _ => rfl⟩, ?lines, ?events, ?lmu, ?dir, ?time,
    ?ap⟩
  case place =>
    rw [s.ended_eq]
    exact Table.get_set_self _ _ _
  case waiting =>
    have hq : (s.ended p c k).cc.queue = s.cc.queue.erase c.ref := by
      rw [s.ended_eq]
      simp [State.ending, hw]
    rw [hq]
  case queue =>
    rw [s.ended_eq]
    simp [State.ending, hw]
  case player =>
    rw [s.ended_eq]
    simp [State.ending]
  case guard =>
    have hx : ((s.trunk u).delivered (c.endMessage k).toList).current = some c.ref := by
      rw [Trunk.delivered_frame]
      exact hcur
    rw [s.ended_trunk, s.leave_trunk, if_pos hu, Trunk.lets, if_neg hh, if_pos hx]
    exact ⟨rfl, rfl, rfl⟩
  case stack =>
    rw [s.ended_trunk, s.leave_trunk, if_pos hu, Trunk.lets, if_pos hh, Trunk.delivered_frame]
  case message =>
    have htransmit : ((s.ended p c k).trunk u).transmit = (s.trunk u).transmit ++ [m] := by
      rw [s.ended_trunk, s.leave_trunk, if_pos hu, Trunk.lets_frame, Trunk.delivered_eq, if_pos hl, hm]
      have hone : 8 - (s.trunk u).transmit.length = (7 - (s.trunk u).transmit.length) + 1 := by omega
      simp [hone]
    rw [htransmit]
    exact List.mem_append_right _ (List.mem_singleton_self _)
  case journal =>
    have hj : (s.ended p c k).journal = ((s.ending p c k).record (.callEnd (s.callEndOf c k))).journal := by
      rw [s.ended_eq]
      simp
    rw [hj, State.record_journal (s := s.ending p c k) he]
    exact ⟨rfl, rfl⟩
  case exhausted =>
    have hj : (s.ended p c k).journal = ((s.ending p c k).record (.callEnd (s.callEndOf c k))).journal := by
      rw [s.ended_eq]
      simp
    rw [hj, State.record_of_exhausted (s := s.ending p c k) he]
    rfl
  case event =>
    rw [s.ended_eq]
    exact State.mem_record_report (s := s.ending p c k) hroom
  case lost =>
    rw [s.ended_eq]
    exact State.record_report_lost (s := s.ending p c k) hfull
  all_goals
    rw [s.ended_eq]
    simp [State.ending]

/-- A trunk that is not IDLE keeps its state through a pass; every trunk keeps its stack and its messages (R84, R106). -/
theorem State.leftTrunk.passed {v : State} (h : s.leftTrunk v c k u) (hp : (v.trunk u).passed (t.trunk u)) :
    s.leftTrunk t c k u := by
  obtain ⟨hguard, hstack, hmessage⟩ := h
  obtain ⟨hframe, hprefix, hbusy⟩ := hp
  refine ⟨fun hh hcur => ?_, fun hh => ?_, fun hl hroom m hm => hprefix.subset (hmessage hl hroom m hm)⟩
  · obtain ⟨h1, h2, h3⟩ := hguard hh hcur
    rw [hbusy (by rw [h1]; nofun)]
    exact ⟨h1, h2, h3⟩
  · rw [hframe]
    exact hstack hh

/-- What comes after an end leaves it ended (R90, R140). -/
theorem State.endedIn.passed {v : State} (h : s.endedIn v p c k) (hp : v.passedTo t)
    (hq : c.state ≠ .waiting → t.cc.queue = v.cc.queue) (hloss : v.link.reportLoss = true → t.link.reportLoss = true) :
    s.endedIn t p c k := by
  obtain ⟨h1, h2, h3, h4, h5, h6, h7, h8, h9, h10, h11, hlines, hevents, hlmu, hdir, htime, hap⟩ := h
  have heq := State.eq_of_besidePass hp.beside
  have hj := hp.journal
  refine ⟨hp.free p h1, fun hw => hp.queue.trans (h2 hw), fun hw => (hq hw).trans (h3 hw), ?_, ?_,
    fun u hu => (h6 u hu).passed (hp.trunks u), fun he => hj ▸ h7 he, fun he => hj ▸ h8 he, fun hroom => hp.output.subset (h9 hroom),
    fun hfull => hloss (h10 hfull), fun q a hqp ha => ?_, ?_, ?_, ?_, ?_, ?_, ?_⟩
  · rw [hp.players p fun a ha => by rw [h1] at ha; cases ha]
    exact h4
  · rw [heq]
    exact h5
  · obtain ⟨b, hb, hab⟩ := h11 q a hqp ha
    obtain ⟨d, hd, hbd⟩ := hp.calls q b hb
    exact ⟨d, hd, hab.passed hbd⟩
  · rw [heq]; exact hlines
  · rw [heq]; exact hevents
  · rw [heq]; exact hlmu
  · rw [heq]; exact hdir
  · rw [heq]; exact htime
  · rw [heq]
    dsimp only
    rw [hap]

theorem State.startPreemption_queue (s : State) (p : LineNo) : (s.startPreemption p).cc.queue = s.cc.queue := by
  cases hc : s.cc.calls.get p with
  | none => simp [State.startPreemption, hc]
  | some c =>
    rw [State.startPreemption_eq hc]
    split <;> simp [State.preemptCall, State.selectChain]

theorem State.examine_queue (s : State) : s.examine.cc.queue = s.cc.queue := by
  unfold State.examine
  split
  · exact State.startPreemption_queue _ _
  · rfl

/-- The call-end procedure, in the terms of the statements (R90). -/
theorem State.endCall_endedIn (hc : s.cc.calls.get p = some c) (k : Cause) : s.endedIn (s.endCall p k) p c k := by
  have hended := s.endedIn_ended p c k
  rw [State.endCall_of_some hc]
  generalize s.ended p c k = v at hended
  unfold State.after
  split
  next hs => exact hended.passed v.changed_passedTo (absurd hs) State.changed_keeps_loss
  next hs => exact hended.passed v.examine_passedTo (fun _ => v.examine_queue) fun h => by rwa [State.examine_link]
  next => exact hended

end Ends

/-! ### Events, timers and requests that end a call -/

section Causes

variable {s : State} {l p : LineNo} {c : Call} {k : FaultKind} {hi lo : Octet}

/-- HANG-UP by the cause that its call's state gives it (R78). -/
theorem exec_hangUp (he : s.eventReady (.hangUp l)) (hp : s.placeOfLine l = some p) (hc : s.cc.calls.get p = some c)
    {cause : Cause} (hk : hangUpCause c.state = some cause) :
    exec (.hangUp l) s = .next ((s.tookEvent (.hangUp l)).endCall p cause) := by
  have hplace : (s.tookEvent (.hangUp l)).placeOfLine l = some p := hp
  have hget : (s.tookEvent (.hangUp l)).cc.calls.get p = some c := hc
  change execHangUp l s = _
  rw [execHangUp, State.running_of _ _ he.1, State.takeEvent_ready he, hplace]
  dsimp only
  rw [hget, Option.bind_some, hk]

/-- HANG-UP without a cause, or without a call, does nothing (R78, log entry 8). -/
theorem exec_hangUp_disregarded (he : s.eventReady (.hangUp l))
    (h : ∀ p c, s.placeOfLine l = some p → s.cc.calls.get p = some c → hangUpCause c.state = none) :
    exec (.hangUp l) s = .next (s.tookEvent (.hangUp l)) := by
  change execHangUp l s = _
  rw [execHangUp, State.running_of _ _ he.1, State.takeEvent_ready he]
  cases hp : s.placeOfLine l with
  | none =>
    rw [show (s.tookEvent (.hangUp l)).placeOfLine l = none from hp]
  | some p =>
    obtain ⟨c, hc, -⟩ := State.placeOfLine_spec hp
    rw [show (s.tookEvent (.hangUp l)).placeOfLine l = some p from hp]
    dsimp only
    rw [show (s.tookEvent (.hangUp l)).cc.calls.get p = some c from hc, Option.bind_some, h p c hp hc]

theorem exec_lineLost (he : s.eventReady (.lineLost l)) (hp : s.placeOfLine l = some p) :
    exec (.lineLost l) s = .next ((s.tookEvent (.lineLost l)).endCall p .lineLost) := by
  change execLineLost l s = _
  rw [execLineLost, State.running_of _ _ he.1, State.takeEvent_ready he,
    show (s.tookEvent (.lineLost l)).placeOfLine l = some p from hp]

theorem exec_lineLost_disregarded (he : s.eventReady (.lineLost l)) (hp : s.placeOfLine l = none) :
    exec (.lineLost l) s = .next (s.tookEvent (.lineLost l)) := by
  change execLineLost l s = _
  rw [execLineLost, State.running_of _ _ he.1, State.takeEvent_ready he,
    show (s.tookEvent (.lineLost l)).placeOfLine l = none from hp]

theorem exec_lineFault (he : s.eventReady (.lineFault l k)) (hp : s.placeOfLine l = some p) :
    exec (.lineFault l k) s = .next ((s.tookEvent (.lineFault l k)).endCall p .lineFault) := by
  change execLineFault l k s = _
  rw [execLineFault, State.running_of _ _ he.1, State.takeEvent_ready he,
    show (s.tookEvent (.lineFault l k)).placeOfLine l = some p from hp]

theorem exec_lineFault_disregarded (he : s.eventReady (.lineFault l k)) (hp : s.placeOfLine l = none) :
    exec (.lineFault l k) s = .next (s.tookEvent (.lineFault l k)) := by
  change execLineFault l k s = _
  rw [execLineFault, State.running_of _ _ he.1, State.takeEvent_ready he,
    show (s.tookEvent (.lineFault l k)).placeOfLine l = none from hp]

/-- The end of a preemption's timer (R142). -/
theorem exec_preemptionTimerExpiry (hh : s.held = false) (hc : s.callAt p c) (hs : c.state = .preempting)
    (ht : c.preemptionTimer = some 0) : exec (.preemptionTimerExpiry c.ref) s = .next (s.endCall p .preempted) := by
  obtain ⟨hget, href, -⟩ := hc
  change execPreemptionTimerExpiry c.ref s = _
  rw [execPreemptionTimerExpiry, State.running_of _ _ hh, href]
  dsimp only
  rw [hget, if_pos (by simp [hs, ht])]

/-- The end of a callback's ringing (R138). -/
theorem exec_ringingTimeout (hh : s.held = false) (hc : s.callAt p c) (hs : c.state = .ringing)
    (ht : c.ringingTimer = some 0) : exec (.ringingTimeout c.ref) s = .next (s.endCall p .noAnswer) := by
  obtain ⟨hget, href, -⟩ := hc
  change execRingingTimeout c.ref s = _
  rw [execRingingTimeout, State.running_of _ _ hh, href]
  dsimp only
  rw [hget, if_pos (by simp [hs, ht])]

/-- Settles O27: each of the events and timers is the end of its call, or nothing. -/
theorem lineEventsAndTimersEndTheCall : Obligations.LineEventsAndTimersEndTheCall := by
  refine ⟨fun s l p c k hc hl => ?_, fun s l k hl => ⟨fun he => ?_, fun he => exec_lineLost_disregarded he hl, fun he =>
      exec_lineFault_disregarded he hl⟩,
    fun s p c hh hc => ⟨fun hs ht => ⟨_, exec_preemptionTimerExpiry hh hc hs ht, State.endCall_endedIn hc.1 _⟩, fun hs ht =>
      ⟨_, exec_ringingTimeout hh hc hs ht, State.endCall_endedIn hc.1 _⟩⟩⟩
  · obtain ⟨hget, -, hline⟩ := hc
    rw [hl] at hline
    refine ⟨fun he hs => ⟨_, exec_hangUp he hline hget (cause := .abandoned) ?_, State.endCall_endedIn
        (s := s.tookEvent (.hangUp l)) hget _⟩, fun he hs => ⟨_, exec_hangUp he hline hget (cause := .hungUp) ?_,
        State.endCall_endedIn (s := s.tookEvent (.hangUp l)) hget _⟩, fun he hs => exec_hangUp_disregarded he fun q d hq hd => ?_,
      fun he => ⟨_, exec_lineLost he hline, State.endCall_endedIn (s := s.tookEvent (.lineLost l)) hget _⟩,
      fun he => ⟨_, exec_lineFault he hline, State.endCall_endedIn (s := s.tookEvent (.lineFault l k)) hget _⟩⟩
    · rcases hs with hs | hs | hs <;> rw [hs] <;> rfl
    · rcases hs with hs | hs | hs <;> rw [hs] <;> rfl
    · obtain rfl := Option.some.inj (hline.symm.trans hq)
      obtain rfl := Option.some.inj (hget.symm.trans hd)
      rw [hs]
      rfl
  · exact exec_hangUp_disregarded he fun p c hp => by rw [hl] at hp; cases hp

/-! ### CLEAR CALL (R146) -/

theorem exec_clearCall (hr : s.ready 0x23 [hi, lo]) : exec (.clearCall [hi, lo]) s = .next
    ((s.mapLink Link.serving).clearCall s.link.armed (refOf hi lo)) := by
  change execClearCall [hi, lo] s = _
  rw [execClearCall, State.running_of _ _ hr.1, State.serveOnce_ready hr (by rfl)]

end Causes

/-- An end takes nothing off the output list (R181). -/
theorem State.endCall_output {s : State} {p : LineNo} {c : Call} (hc : s.cc.calls.get p = some c) (k : Cause) :
    s.link.output <+: (s.endCall p k).link.output := by
  have hended : s.link.output <+: (s.ended p c k).link.output := by
    rw [s.ended_eq]
    exact (State.output_prefix_record (s.ending p c k) _).trans (State.output_prefix_report _ _)
  rw [State.endCall_of_some hc]
  unfold State.after
  split
  · exact hended.trans (State.changed_passedTo _).output
  · exact hended.trans (State.examine_passedTo _).output
  · exact hended

theorem State.record_armed (s : State) (k : RecordKind) : (s.record k).link.armed = s.link.armed := by
  rw [State.record_link]

theorem State.report_armed (s : State) (r : Report) : (s.report r).link.armed = s.link.armed := by
  unfold State.report
  split <;> rfl

theorem State.passedTo.armed {s t : State} (h : s.passedTo t) : t.link.armed = s.link.armed := by
  rw [State.eq_of_besidePass h.beside]

/-- An end does not arm the NCL (R145). -/
theorem State.endCall_armed {s : State} {p : LineNo} {c : Call} (hc : s.cc.calls.get p = some c) (k : Cause) :
    (s.endCall p k).link.armed = s.link.armed := by
  have hended : (s.ended p c k).link.armed = s.link.armed := by
    rw [s.ended_eq]
    exact (State.report_armed _ _).trans (State.record_armed (s.ending p c k) _)
  rw [State.endCall_of_some hc]
  unfold State.after
  split
  · exact (State.changed_passedTo _).armed.trans hended
  · exact (State.examine_passedTo _).armed.trans hended
  · exact hended

/-- An end after something that touched only trunk lists and the link's replies is an end of the state before it. -/
theorem State.endedIn.of_before {s v t : State} {p : LineNo} {c : Call} {k : Cause} (h : v.endedIn t p c k)
    (hv : v = { s with ti := v.ti, link := v.link }) (hr : v.link.reports = s.link.reports)
    (hl : ∀ u, c.trunk = some u → v.leftTrunk t c k u → s.leftTrunk t c k u) : s.endedIn t p c k := by
  obtain ⟨h1, h2, h3, h4, h5, h6, h7, h8, h9, h10, h11, hlines, hevents, hlmu, hdir, htime, hap⟩ := h
  have hj : v.journal = s.journal := by rw [hv]
  have hstamp : v.stamp = s.stamp := by rw [hv]; rfl
  have hend : v.callEndOf c k = s.callEndOf c k := by rw [hv]; rfl
  have hcc : v.cc = s.cc := by rw [hv]
  rw [hj, hr] at h9 h10
  rw [hj, hstamp, hend] at h7
  rw [hj] at h8
  rw [hcc] at h2 h3 h11
  refine ⟨h1, h2, h3, h4, ?_, fun u hu => hl u hu (h6 u hu), h7, h8, h9, h10, h11, ?_, ?_, ?_, ?_, ?_, ?_⟩
  · rw [h5, hv]
  · rw [hlines, hv]
  · rw [hevents, hv]
  · rw [hlmu, hv]
  · rw [hdir, hv]
  · rw [htime, hv]
  · rw [hap, hv]

/-- Settles O54: the reply, and then the end of the armed call. -/
theorem clearCallForcesTheArmedCall : Obligations.ClearCallForcesTheArmedCall := by
  intro s hi lo hr
  have hplace : (s.mapLink Link.serving).placeOfRef (refOf hi lo) = s.placeOfRef (refOf hi lo) := rfl
  refine ⟨fun ha => ?_, fun ha hp => ?_, fun p c ha hc href => ?_⟩
  · rw [exec_clearCall hr, State.clearCall, if_neg ha]
    rfl
  · rw [exec_clearCall hr, State.clearCall, if_pos ha, hplace, hp]
    rfl
  · obtain ⟨hget, hp, -⟩ := hc
    let v := s.answered ⟨0x23, .done, none, .nothing⟩
    have hvc : v.cc.calls.get p = some c := hget
    have hexec : exec (.clearCall [hi, lo]) s = .next (v.endCall p .forced) := by
      rw [exec_clearCall hr, State.clearCall, if_pos ha, hplace, ← href, hp]
      rfl
    refine ⟨_, hexec, (State.endCall_endedIn hvc _).of_before rfl ?_ fun u _ h => h, State.endCall_armed hvc _, ?_⟩
    · change (List.filter _ (s.link.output ++ [_])).length = _
      rw [List.filter_append]
      simp [Link.reports, OutputItem.isReport]
    · obtain ⟨more, hmore⟩ := State.endCall_output hvc .forced
      refine ⟨more, ?_⟩
      rw [← hmore]
      exact List.append_assoc _ _ _

end Sys2Proof.Machine
end

section
/-! ACCEPT and RELEASE (R88, R91, R109, R119). -/

namespace Sys2Proof.Machine

open Sys2Proof

section Desk

variable {s t : State} {u v : TrunkNo} {p q : LineNo} {r : CallRef} {c e : Call}

theorem exec_accept (hd : s.deskReady u (.accept r)) (hs : (s.trunk u).state = .offering) (hr : (s.trunk u).current = some r)
    (hp : s.placeOfRef r = some p) (hc : s.cc.calls.get p = some c) : exec (.accept u r) s = .next
      (((s.tookRequest u).callTaken u p c (((s.tookRequest u).trunk u).connectedTo r)).sendDesk u (.confirm (.accept r))) := by
  have hplace : (s.tookRequest u).placeOfRef r = s.placeOfRef r := rfl
  have hx : ((s.tookRequest u).trunk u).state = .offering ∧ ((s.tookRequest u).trunk u).current = some r := by
    rw [State.tookRequest, State.trunk_mapTrunk_self]
    exact ⟨hs, hr⟩
  change execAccept u r s = _
  rw [execAccept, State.running_of _ _ hd.1, State.takeDesk_ready hd]
  dsimp only
  rw [hplace, hp]
  dsimp only
  rw [if_pos hx, State.connectTrunk_connect (s := s.tookRequest u) hc]
  rfl

theorem exec_accept_stale (hd : s.deskReady u (.accept r))
    (h : (s.trunk u).state ≠ .offering ∨ (s.trunk u).current ≠ some r) :
    exec (.accept u r) s = .next ((s.tookRequest u).sendDesk u (.refuse (.accept r) .stale)) := by
  have hx : ¬ (((s.tookRequest u).trunk u).state = .offering ∧ ((s.tookRequest u).trunk u).current = some r) := by
    rw [State.tookRequest, State.trunk_mapTrunk_self, not_and_or]
    exact h
  change execAccept u r s = _
  rw [execAccept, State.running_of _ _ hd.1, State.takeDesk_ready hd]
  dsimp only
  split
  · rw [if_neg hx]
    rfl
  · rfl

theorem exec_release (hd : s.deskReady u (.release r)) (hs : (s.trunk u).state = .connected)
    (hr : (s.trunk u).current = some r) (hp : s.placeOfRef r = some p) : exec (.release u r) s = .next
      (((s.tookRequest u).sendDesk u (.confirm (.release r))).endCall p .deskRelease) := by
  have hplace : (s.tookRequest u).placeOfRef r = s.placeOfRef r := rfl
  have hx : ((s.tookRequest u).trunk u).state = .connected ∧ ((s.tookRequest u).trunk u).current = some r := by
    rw [State.tookRequest, State.trunk_mapTrunk_self]
    exact ⟨hs, hr⟩
  change execRelease u r s = _
  rw [execRelease, State.running_of _ _ hd.1, State.takeDesk_ready hd]
  dsimp only
  rw [hplace, hp]
  dsimp only
  rw [if_pos hx]
  rfl

theorem exec_release_stale (hd : s.deskReady u (.release r))
    (h : (s.trunk u).state ≠ .connected ∨ (s.trunk u).current ≠ some r) :
    exec (.release u r) s = .next ((s.tookRequest u).sendDesk u (.refuse (.release r) .stale)) := by
  have hx : ¬ (((s.tookRequest u).trunk u).state = .connected ∧ ((s.tookRequest u).trunk u).current = some r) := by
    rw [State.tookRequest, State.trunk_mapTrunk_self, not_and_or]
    exact h
  change execRelease u r s = _
  rw [execRelease, State.running_of _ _ hd.1, State.takeDesk_ready hd]
  dsimp only
  split
  · rw [if_neg hx]
    rfl
  · rfl

/-! ### A message before the end of a call (R106) -/

theorem Trunk.delivered_one {x : Trunk} (hl : x.link = .up) (hr : x.transmit.length < 8) (m : DeskMessage) :
    x.delivered [m] = { x with transmit := x.transmit ++ [m] } := by
  change x.deliver m = _
  rw [Trunk.deliver, if_pos hl, if_pos hr]

/-! ### The end of a RELEASEd call (R119) -/

/-- A call released from the desk is ended without a message for it (R91). -/
theorem Call.endMessage_deskRelease (h : c.state = .connected ∨ c.state = .preempting ∨ c.state = .ringing) :
    c.endMessage .deskRelease = none := by
  unfold Call.endMessage
  rcases h with h | h | h <;> rw [h] <;> rfl

/-- A preemption that starts concerns the trunk of the call preempted (R141). -/
theorem State.startPreemption_trunk (hc : s.cc.calls.get p = some c) (h : c.trunk ≠ some v) :
    (s.startPreemption p).trunk v = s.trunk v := by
  rw [State.startPreemption_eq hc]
  split
  next w hw =>
    rw [State.sendDesk_trunk_ne _ _ (show w ≠ v from fun e => h (e ▸ hw))]
    rfl
  next => rfl

/-- The call by which a trunk meets condition 3 is its current one (R140). -/
theorem State.candidate_spec (h : s.candidate u = some p) : ∃ c, s.cc.calls.get p = some c ∧ (s.trunk u).state = .connected ∧
    (s.trunk u).current = some c.ref ∧ c.state = .connected := by
  unfold State.candidate at h
  dsimp only at h
  split at h
  next hx =>
    split at h
    next q hq =>
      split at h
      next hany =>
        cases h
        obtain ⟨r, hr, hp⟩ := Option.bind_eq_some_iff.mp hq
        obtain ⟨c, hc, rfl⟩ := State.placeOfRef_spec hp
        rw [hc, Option.any_some, Bool.and_eq_true, Bool.and_eq_true, decide_eq_true_eq] at hany
        exact ⟨c, hc, hx.2, hr, hany.1.2⟩
      next => cases h
    next => cases h
  next => cases h

/-- The chosen call of a preemption is the current one of some CONNECTED trunk (R140). -/
theorem State.preemptionChoice_trunk (h : s.preemptionChoice = some p) : ∃ w c, (s.trunk w).state = .connected ∧
    (s.trunk w).current = some c.ref ∧ s.cc.calls.get p = some c := by
  unfold State.preemptionChoice at h
  dsimp only at h
  split at h
  next =>
    have hp := List.mem_of_mem_head? h
    rw [List.mem_insertionSort, List.mem_filterMap] at hp
    obtain ⟨w, -, hw⟩ := hp
    obtain ⟨c, hc, hs, hcur, -⟩ := State.candidate_spec hw
    exact ⟨w, c, hs, hcur, hc⟩
  next => cases h

/-- An examination leaves alone a trunk that is not the one of a CONNECTED trunk's current call (R140, R141). -/
theorem State.examine_trunk (h : ∀ w q e, (s.trunk w).state = .connected → (s.trunk w).current = some e.ref →
    s.cc.calls.get q = some e → e.trunk ≠ some v) : s.examine.trunk v = s.trunk v := by
  unfold State.examine
  split
  next p hp =>
    obtain ⟨w, c, hs, hcur, hc⟩ := State.preemptionChoice_trunk hp
    exact State.startPreemption_trunk hc (h w p c hs hcur hc)
  next => rfl

/-- What the end of a released call makes of its trunk, and what of the others (R91, R115). -/
theorem State.released_trunk (hr : (s.trunk u).current = some c.ref) (ht : c.trunk = some u)
    (hc : c.state = .connected ∨ c.state = .preempting ∨ c.state = .ringing) (w : TrunkNo) :
    (s.ended p c .deskRelease).trunk w = if u = w then (s.trunk u).guarding s.ti.guardTime else s.trunk w := by
  have hh : c.state ≠ .held := by rcases hc with h | h | h <;> simp [h]
  rw [s.ended_trunk, s.leave_trunk, ht, Call.endMessage_deskRelease hc]
  by_cases hw : u = w
  · subst hw
    rw [if_pos rfl, if_pos rfl, Trunk.lets, if_neg hh]
    exact if_pos hr
  · rw [if_neg (by simpa using hw), if_neg hw]

/-- The state in which a desk request has been taken and answered with `m`. -/
def State.replied (s : State) (u : TrunkNo) (m : DeskMessage) : State := (s.tookRequest u).sendDesk u m

theorem State.replied_eq (s : State) (u : TrunkNo) (m : DeskMessage) : s.replied u m = s.setTrunk u
    ({ s.trunk u with requests := (s.trunk u).requests.tail }.delivered [m]) := by
  rw [State.replied, State.sendDesk_eq_mapTrunk, State.mapTrunk, State.tookRequest, State.trunk_mapTrunk_self,
    State.mapTrunk, State.setTrunk_setTrunk]

/-- The end of a RELEASEd call, in the terms of the statements (R119). -/
theorem State.replied_endedIn (hc : s.cc.calls.get p = some c) (hr : (s.trunk u).current = some c.ref) (ht : c.trunk = some u)
    (hstate : c.state = .connected ∨ c.state = .preempting ∨ c.state = .ringing) (m : DeskMessage) :
    s.endedIn ((s.replied u m).endCall p .deskRelease) p c .deskRelease ∧
      (((s.replied u m).endCall p .deskRelease).trunk u).state = .guard_ ∧
      (((s.replied u m).endCall p .deskRelease).trunk u).current = none := by
  have hheld : c.state ≠ .held := by rcases hstate with h | h | h <;> simp [h]
  rw [s.replied_eq]
  let x := { s.trunk u with requests := (s.trunk u).requests.tail }.delivered [m]
  have hcur : ((s.setTrunk u x).trunk u).current = some c.ref := by
    rw [State.trunk_setTrunk_self]
    simp only [x]
    rw [Trunk.delivered_frame]
    exact hr
  have hended := State.endCall_endedIn (s := s.setTrunk u x) hc .deskRelease
  have hleft : ∀ w, c.trunk = some w →
      (s.setTrunk u x).leftTrunk ((s.setTrunk u x).endCall p .deskRelease) c .deskRelease w := by
    obtain ⟨-, -, -, -, -, hleft, -⟩ := hended
    exact hleft
  have hguard := (hleft u ht).1 hheld hcur
  refine ⟨hended.of_before rfl rfl fun w hw hwl => ?_, hguard.1, hguard.2.1⟩
  obtain rfl := Option.some.inj (ht.symm.trans hw)
  refine ⟨fun hh _ => hwl.1 hh hcur, fun hh => absurd hh hheld, fun _ _ a ha => ?_⟩
  rw [Call.endMessage_deskRelease hstate] at ha
  cases ha

/-- The answer to a RELEASE is the next message for its desk, and the only one unless a preemption follows that concerns its
trunk (R106, R119, R141). -/
theorem State.replied_end_transmit (hc : s.cc.calls.get p = some c) (hr : (s.trunk u).current = some c.ref)
    (ht : c.trunk = some u) (hstate : c.state = .connected ∨ c.state = .preempting ∨ c.state = .ringing)
    (hl : (s.trunk u).link = .up) (hroom : (s.trunk u).transmit.length < 8) (m : DeskMessage) :
    (∃ more, (((s.replied u m).endCall p .deskRelease).trunk u).transmit = (s.trunk u).transmit ++ m :: more) ∧
      ((∀ v q e, (s.trunk v).state = .connected → (s.trunk v).current = some e.ref → s.cc.calls.get q = some e →
          e.trunk = some v) →
        (((s.replied u m).endCall p .deskRelease).trunk u).transmit = (s.trunk u).transmit ++ [m]) := by
  let x : Trunk := { s.trunk u with requests := (s.trunk u).requests.tail, transmit := (s.trunk u).transmit ++ [m] }
  have hx : s.replied u m = s.setTrunk u x := by
    rw [s.replied_eq, Trunk.delivered_one (x := { s.trunk u with requests := (s.trunk u).requests.tail }) hl hroom]
  have hended (w : TrunkNo) : ((s.setTrunk u x).ended p c .deskRelease).trunk w =
      if u = w then x.guarding s.ti.guardTime else s.trunk w := by
    have htrunk : (s.setTrunk u x).trunk u = x := State.trunk_setTrunk_self _ _ _
    rw [State.released_trunk (s := s.setTrunk u x) (by rw [htrunk]; exact hr) ht hstate, htrunk]
    split
    next => rfl
    next hw => exact State.trunk_setTrunk_ne _ _ hw
  have htransmit : (((s.setTrunk u x).ended p c .deskRelease).trunk u).transmit = (s.trunk u).transmit ++ [m] := by
    rw [hended, if_pos rfl]
    rfl
  rw [hx, State.endCall_of_some (s := s.setTrunk u x) hc]
  have hafter : c.state = .preempting ∨ ((s.setTrunk u x).ended p c .deskRelease).after c.state =
      (s.setTrunk u x).ended p c .deskRelease := by
    rcases hstate with h | h | h <;> rw [h]
    · exact .inr rfl
    · exact .inl rfl
    · exact .inr rfl
  rcases hafter with h | h <;> rw [h]
  · change (∃ more, (State.examine _ |>.trunk u).transmit = _) ∧ (_ → (State.examine _ |>.trunk u).transmit = _)
    constructor
    · obtain ⟨-, ⟨more, hmore⟩, -⟩ := (State.examine_passedTo ((s.setTrunk u x).ended p c .deskRelease)).trunks u
      refine ⟨more, ?_⟩
      rw [← hmore, htransmit]
      exact List.append_assoc _ _ _
    · intro hall
      rw [State.examine_trunk fun w q e hws hwc hq => ?_, htransmit]
      rw [hended] at hws hwc
      by_cases hw : u = w
      · rw [if_pos hw] at hws
        cases hws
      · rw [if_neg hw] at hws hwc
        have hpq : p ≠ q := fun e => by
          rw [← e, ((s.setTrunk u x).endedIn_ended p c .deskRelease).1] at hq
          cases hq
        rw [((s.setTrunk u x).ended_ne c _ hpq).1] at hq
        rw [hall w q e hws hwc hq]
        exact fun e => hw (Option.some.inj e).symm
  · exact ⟨⟨[], htransmit⟩, fun _ => htransmit⟩

end Desk

/-- Settles O36: the two requests on the current call, and in any other case. -/
theorem acceptAndReleaseActOnTheCurrentCall : Obligations.AcceptAndReleaseActOnTheCurrentCall := by
  refine ⟨fun s u r hd => ⟨fun p c hc href hs hr => ?_, exec_accept_stale hd⟩,
    fun s u r hd => ⟨fun p c hc href hs hr ht hstate => ?_, exec_release_stale hd⟩⟩
  · obtain ⟨hget, hp, -⟩ := hc
    subst href
    refine ⟨_, exec_accept hd hs hr hp hget, ?_⟩
    let v := (s.tookRequest u).callTaken u p c (((s.tookRequest u).trunk u).connectedTo c.ref)
    let m := DeskMessage.confirm (.accept c.ref)
    let x := { s.trunk u with requests := (s.trunk u).requests.tail }.connectedTo c.ref
    have htrunk : (v.sendDesk u m).trunk u = x.delivered [m] := by
      rw [State.sendDesk_eq_mapTrunk, State.trunk_mapTrunk_self, State.callTaken_trunk_self, State.tookRequest,
        State.trunk_mapTrunk_self]
    have hframe := x.delivered_frame [m]
    rw [← htrunk] at hframe
    refine ⟨?_, ?_, ?_, ?_, ?_, fun hroom => ?_, ?_, ?_, ?_, ?_⟩
    · rw [State.sendDesk_eq_mapTrunk]
      rfl
    · rw [State.sendDesk_eq_mapTrunk]
      exact State.callTaken_call (s.tookRequest u) (((s.tookRequest u).trunk u).connectedTo c.ref)
    · rw [hframe]
      rfl
    · rw [hframe]
      rfl
    · rw [hframe]
      rfl
    · obtain ⟨-, hl, -⟩ := hd
      rw [htrunk, Trunk.delivered_one (x := x) hl hroom]
      rfl
    all_goals
      rw [State.sendDesk_eq_mapTrunk]
      rfl
  · obtain ⟨hget, hp, -⟩ := hc
    subst href
    obtain ⟨-, hl, -⟩ := id hd
    obtain ⟨hended, hguard, hcur⟩ := State.replied_endedIn hget hr ht hstate (.confirm (.release c.ref))
    exact ⟨_, exec_release hd hs hr hp, hended, hguard, hcur, fun hroom =>
      State.replied_end_transmit hget hr ht hstate hl hroom _⟩

end Sys2Proof.Machine
end

section
/-! What an allocation pass does to one call and to one trunk (R84 to R87), and how the no-trunk condition stands after it
(R121). -/

namespace Sys2Proof.Machine

open Sys2Proof

/-! ### Offers, trunk by trunk and call by call (R85 to R87) -/

/-- `t` is `s` after offers on eligible-idle trunks: such a trunk may be OFFERING then, such a call OFFERED on one. -/
structure State.offeredTo (s t : State) : Prop where
  trunks : ∀ w, t.trunk w = s.trunk w ∨
    (s.trunk w).eligible = true ∧ (t.trunk w).state = .offering ∧ (t.trunk w).guardTimer = none
  calls : ∀ p c, s.cc.calls.get p = some c → t.cc.calls.get p = some c ∨
    ∃ w, (s.trunk w).eligible = true ∧ c.state = .waiting ∧ t.cc.calls.get p = some (c.offeredOn w)
  players : t.ap = s.ap
  link : t.link = s.link
  noTrunk : t.ti.noTrunk = s.ti.noTrunk

namespace State.offeredTo

variable {s t u : State} {p : LineNo} {w : TrunkNo}

theorem refl (s : State) : s.offeredTo s := ⟨fun _ => .inl rfl, fun _ _ h => .inl h, rfl, rfl, rfl⟩

/-- A trunk eligible-idle after offers has had none (R84). -/
theorem eligible (h : s.offeredTo t) (he : (t.trunk w).eligible = true) : t.trunk w = s.trunk w := by
  rcases h.trunks w with hw | ⟨-, ho, -⟩
  · exact hw
  · obtain ⟨-, -, hi, -⟩ := Trunk.eligible_iff.mp he
    rw [ho] at hi
    cases hi

theorem trans (h : s.offeredTo t) (g : t.offeredTo u) : s.offeredTo u where
  trunks w := by
    rcases g.trunks w with hw | ⟨he, ho, hg⟩
    · rw [hw]
      exact h.trunks w
    · rw [h.eligible he] at he
      exact .inr ⟨he, ho, hg⟩
  calls p c hc := by
    rcases h.calls p c hc with hp | ⟨w, he, hs, hp⟩
    · rcases g.calls p c hp with hq | ⟨w, he, hs, hq⟩
      · exact .inl hq
      · rw [h.eligible he] at he
        exact .inr ⟨w, he, hs, hq⟩
    · rcases g.calls p _ hp with hq | ⟨w', -, hs', -⟩
      · exact .inr ⟨w, he, hs, hq⟩
      · cases hs'
  players := g.players.trans h.players
  link := g.link.trans h.link
  noTrunk := g.noTrunk.trans h.noTrunk

end State.offeredTo

section Offering

variable {s t v : State} {p : LineNo} {w u : TrunkNo} {c : Call} {i : CallIdentity} {f : State → TrunkNo → State}
  {ws : List TrunkNo} {sc : Scope} {g : TrunkGroup}

theorem State.offer_noTrunk (s : State) (w : TrunkNo) (p : LineNo) : (s.offer w p).ti.noTrunk = s.ti.noTrunk := by
  rcases s.offer_cases w p with h | ⟨c, -, -, h | ⟨m, h⟩⟩ <;> rw [h]
  · rfl
  · rw [State.sendDesk_eq_mapTrunk]
    rfl

theorem State.offer_offeredTo (he : (s.trunk w).eligible = true) (p : LineNo) : s.offeredTo (s.offer w p) where
  trunks x := by
    by_cases hx : w = x
    · subst hx
      rcases s.offer_cases w p with h | ⟨c, -, -, h | ⟨m, h⟩⟩ <;> rw [h]
      · exact .inl rfl
      · rw [State.offerCall, State.trunk_setTrunk_self]
        exact .inr ⟨he, rfl, rfl⟩
      · rw [State.sendDesk_eq_mapTrunk, State.trunk_mapTrunk_self, State.offerCall, State.trunk_setTrunk_self,
          Trunk.delivered_frame]
        exact .inr ⟨he, rfl, rfl⟩
    · exact .inl (State.offer_trunk_ne p hx)
  calls q d hd := by
    rcases s.offer_cases w p with h | ⟨c, hc, hs, h⟩
    · rw [h]
      exact .inl hd
    · have hcalls : (s.offer w p).cc.calls = s.cc.calls.set p (some (c.offeredOn w)) := by
        rcases h with h | ⟨m, h⟩ <;> rw [h]
        · rfl
        · rw [State.sendDesk_eq_mapTrunk]
          rfl
      rw [hcalls]
      by_cases hq : p = q
      · subst hq
        obtain rfl := Option.some.inj (hc.symm.trans hd)
        exact .inr ⟨w, he, hs, Table.get_set_self _ _ _⟩
      · exact .inl (by rw [Table.get_set_ne _ _ hq]; exact hd)
  players := State.offer_ap s w p
  link := State.offer_link s w p
  noTrunk := State.offer_noTrunk s w p

theorem State.offersOn.offeredTo (h : s.offersOn w t) (he : (s.trunk w).eligible = true) : s.offeredTo t := by
  rcases h with rfl | ⟨r, p, -, rfl⟩
  · exact .refl _
  · exact State.offer_offeredTo he p

/-- Offers on eligible-idle trunks, one on each (R84). -/
theorem State.foldl_offeredTo (hf : ∀ (v : State) w, v.offersOn w (f v w)) (ws : List TrunkNo) (s : State) (hn : ws.Nodup)
    (he : ∀ w ∈ ws, (s.trunk w).eligible = true) : s.offeredTo (ws.foldl f s) := by
  induction ws generalizing s with
  | nil => exact .refl s
  | cons w ws ih =>
    obtain ⟨hw, hn⟩ := List.nodup_cons.mp hn
    refine ((hf s w).offeredTo (he w List.mem_cons_self)).trans (ih _ hn fun x hx => ?_)
    rw [(hf s w).trunk_ne fun e => hw (e ▸ hx)]
    exact he x (List.mem_cons_of_mem w hx)

/-- The primary step of a pass (R85). -/
def State.primaryStep (s : State) : State := (s.eligibleTrunks .primary).foldl State.offerHead s

/-- The overflow step of a pass (R86). -/
def State.overflowStep (s : State) : State := (s.eligibleTrunks .overflow).foldl State.offerQualified s

theorem State.pass_eq (s : State) : s.pass = s.primaryStep.overflowStep.judgeNoTrunk.examine := rfl

theorem State.primaryStep_offeredTo (s : State) : s.offeredTo s.primaryStep :=
  State.foldl_offeredTo State.offerHead_offersOn _ s (s.eligibleTrunks_nodup _) fun _ hw => (State.mem_eligibleTrunks.mp hw).1

theorem State.overflowStep_offeredTo (s : State) : s.offeredTo s.overflowStep :=
  State.foldl_offeredTo State.offerQualified_offersOn _ s (s.eligibleTrunks_nodup _)
    fun _ hw => (State.mem_eligibleTrunks.mp hw).1

theorem State.steps_offeredTo (s : State) : s.offeredTo s.primaryStep.overflowStep :=
  s.primaryStep_offeredTo.trans s.primaryStep.overflowStep_offeredTo

theorem State.primaryStep_passedTo (s : State) : s.passedTo s.primaryStep :=
  State.foldl_offers_passedTo State.offerHead_offersOn _ s (s.eligibleTrunks_nodup _) fun _ => State.eligibleTrunks_idle

theorem State.overflowStep_passedTo (s : State) : s.passedTo s.overflowStep :=
  State.foldl_offers_passedTo State.offerQualified_offersOn _ s (s.eligibleTrunks_nodup _) fun _ => State.eligibleTrunks_idle

/-! ### The examination (R140, R141) -/

/-- An examination may add a message for one desk and nothing else to the trunks (R141). -/
theorem State.examine_trunk_frame (s : State) (w : TrunkNo) : s.examine.trunk w =
    { s.trunk w with transmit := (s.examine.trunk w).transmit, overruns := (s.examine.trunk w).overruns } := by
  unfold State.examine
  split
  next p hp =>
    obtain ⟨c, hc, -⟩ := State.preemptionChoice_connected hp
    rw [State.startPreemption_eq hc]
    split
    next u hu =>
      by_cases hw : u = w
      · subst hw
        rw [State.sendDesk_eq_mapTrunk, State.trunk_mapTrunk_self]
        exact Trunk.delivered_frame _ _
      · rw [State.sendDesk_trunk_ne _ _ hw]
        rfl
    next => rfl
  next => rfl

/-! ### Passes, trunk by trunk and call by call -/

/-- A pass leaves a trunk as it is but for messages, or makes an offer on it if it was eligible-idle (R84, R106). -/
theorem State.pass_trunk_cases (s : State) (w : TrunkNo) : s.pass.trunk w =
    { s.trunk w with transmit := (s.pass.trunk w).transmit, overruns := (s.pass.trunk w).overruns } ∨
    (s.trunk w).eligible = true ∧ (s.pass.trunk w).state = .offering ∧ (s.pass.trunk w).guardTimer = none := by
  have hx := s.primaryStep.overflowStep.judgeNoTrunk.examine_trunk_frame w
  rw [State.judgeNoTrunk_trunk, ← State.pass_eq] at hx
  rcases s.steps_offeredTo.trunks w with h | ⟨he, ho, hg⟩
  · rw [h] at hx
    exact .inl hx
  · exact .inr ⟨he, by rw [hx]; exact ho, by rw [hx]; exact hg⟩

/-- A WAITING call that a pass goes over stays as it is, or is OFFERED on a trunk that was eligible-idle (R84 to R87). -/
theorem State.pass_waiting_cases (hc : s.cc.calls.get p = some c) (hs : c.state = .waiting) :
    s.pass.cc.calls.get p = some c ∨
      ∃ w, (s.trunk w).eligible = true ∧ s.pass.cc.calls.get p = some (c.offeredOn w) := by
  have hexamine {d : Call} (hd : s.primaryStep.overflowStep.cc.calls.get p = some d) (hn : d.state ≠ .connected)
      (hw : d.state = .waiting ∨ d.state = .offered) : s.pass.cc.calls.get p = some d := by
    have hj : s.primaryStep.overflowStep.judgeNoTrunk.cc.calls.get p = some d := by
      rw [State.judgeNoTrunk_cc]
      exact hd
    rw [State.pass_eq]
    unfold State.examine
    split
    next q hq =>
      obtain ⟨b, hb, hbc⟩ := State.preemptionChoice_connected hq
      have hne : q ≠ p := fun e => by
        rw [e, hj] at hb
        exact hn (Option.some.inj hb ▸ hbc)
      rw [State.startPreemption_eq hb]
      split
      · rw [State.sendDesk_cc, State.preemptCall, State.selectChain, State.setPlayer_cc, State.setCall_cc,
          Table.get_set_ne _ _ hne, hj]
      · rw [State.preemptCall, State.selectChain, State.setPlayer_cc, State.setCall_cc, Table.get_set_ne _ _ hne, hj]
    next => exact hj
  rcases s.steps_offeredTo.calls p c hc with h | ⟨w, he, -, h⟩
  · exact .inl (hexamine h (by simp [hs]) (.inl hs))
  · exact .inr ⟨w, he, hexamine h (by nofun) (.inr rfl)⟩

theorem State.changed_trunk_cases (s : State) (w : TrunkNo) : s.changed.trunk w =
    { s.trunk w with transmit := (s.changed.trunk w).transmit, overruns := (s.changed.trunk w).overruns } ∨
    (s.trunk w).eligible = true ∧ (s.changed.trunk w).state = .offering ∧ (s.changed.trunk w).guardTimer = none := by
  have h := s.judgeNoTrunk.pass_trunk_cases w
  rw [State.judgeNoTrunk_trunk] at h
  rwa [State.changed]

theorem State.changed_waiting_cases (hc : s.cc.calls.get p = some c) (hs : c.state = .waiting) :
    s.changed.cc.calls.get p = some c ∨
      ∃ w, (s.trunk w).eligible = true ∧ s.changed.cc.calls.get p = some (c.offeredOn w) := by
  have h := State.pass_waiting_cases (s := s.judgeNoTrunk) (p := p) (c := c) (by simpa using hc) hs
  simp only [State.judgeNoTrunk_trunk] at h
  rwa [State.changed]

/-- A pass takes a WAITING call of the queue as it is, or OFFERED on a trunk that was eligible-idle. -/
theorem State.changed_waiting (hc : s.cc.calls.get p = some c) (hp : s.placeOfRef c.ref = some p) (hs : c.state = .waiting)
    (hq : c.ref ∈ s.cc.queue) : s.changed.ap.players.get p = s.ap.players.get p ∧
      (s.changed.cc.calls.get p = some c ∧ c.ref ∈ s.changed.cc.queue ∨
        ∃ w, (s.trunk w).eligible = true ∧ s.changed.cc.calls.get p = some (c.offeredOn w)) := by
  have hpass := s.changed_passedTo
  refine ⟨hpass.players p fun a ha => by rw [← Option.some.inj (hc.symm.trans ha), hs]; nofun, ?_⟩
  rcases State.changed_waiting_cases hc hs with h | h
  · rcases hpass.kept c.ref hq with hin | ⟨p', d, hp', hd, ho⟩
    · exact .inl ⟨h, hin⟩
    · obtain rfl := Option.some.inj (hp.symm.trans hp')
      obtain rfl := Option.some.inj (h.symm.trans hd)
      rw [hs] at ho
      cases ho
  · exact .inr h

end Offering

end Sys2Proof.Machine
end

section
/-! The calls that OFF-HOOK AT START and LOCKOUT EXPIRY open, ANSWERED of a callback, aging, the hold reminder, and the end
of an offer (R77, R80 to R82, R110, R111, R131, R137). -/

namespace Sys2Proof.Machine

open Sys2Proof

/-! ### A call opened in the queue (R77, R80) -/

section Opened

variable {s : State} {l p : LineNo} {c : Call} {u : TrunkNo}

/-- A call alone with its reference is the one found by it. -/
theorem State.placeOfRef_of_unique (hc : s.cc.calls.get p = some c)
    (hu : ∀ q d, s.cc.calls.get q = some d → d.ref = c.ref → q = p) : s.placeOfRef c.ref = some p := by
  obtain ⟨q, -, hq, -⟩ := State.exists_placeOfRef hc
  obtain ⟨d, hd, href⟩ := State.placeOfRef_spec hq
  rwa [hu q d hd href] at hq

/-- A new call in a free place is the one found by its reference (R73). -/
theorem State.placeOfRef_addCall (hp : s.cc.calls.get p = none) (hc : c.ref = (s.newCall l c.state).ref) :
    (s.addCall p c).placeOfRef c.ref = some p := by
  refine State.placeOfRef_of_unique (Table.get_set_self _ _ _) fun q d hd href => ?_
  by_contra hq
  have hd : (s.cc.calls.set p (some c)).get q = some d := hd
  rw [Table.get_set_ne _ _ (Ne.symm hq)] at hd
  exact State.newCall_ref_unheld hp l c.state hd (href.trans hc)

/-- The identity of an emergency call, composed: code ABSENT sets no flag (R68, R77). -/
theorem State.identify_emergencyCall (s : State) (p l : LineNo) :
    (s.addCall p (s.newCall l .waiting)).identify p .absent false = s.addCall p (s.emergencyCall l) := by
  have hflag (e : Entry) : (verify e .absent false).2 = none := by
    unfold verify
    split <;> rfl
  rw [State.identify_of_some (c := s.newCall l .waiting) (Table.get_set_self _ _ _), State.flagCode_none (hflag _)]
  simp [State.setCall, State.addCall, State.emergencyCall, State.newCall]

/-- The queue, the call table and the channel of a call opened on a line without one (R77, R80, R154). -/
theorem State.openWaiting_of_free (hl : s.placeOfLine l = none) (hp : s.freePlace = some p) :
    ∃ w : State, s.openWaiting l = w.changed ∧ w.cc.calls.get p = some ((s.emergencyCall l).toWaiting s.cc.now) ∧
      w.placeOfRef (s.emergencyCall l).ref = some p ∧ (s.emergencyCall l).ref ∈ w.cc.queue ∧
      w.ap.players.get p = .active (s.dir.working.get l).waitingChain
        (startStep (s.ap.chains.get (s.dir.working.get l).waitingChain) 1) ∧
      w.events = s.events ∧ w.lines = s.lines := by
  obtain ⟨q, hq, hw⟩ := State.enterWaiting_of_identified (s := s.addCall p (s.emergencyCall l)) (p := p)
    (c := s.emergencyCall l) (Table.get_set_self _ _ _) (by simp [State.emergencyCall, State.newCall]) rfl
  refine ⟨(s.addCall p (s.emergencyCall l)).enterWaiting p, ?_, ?_⟩
  · unfold State.openWaiting
    rw [hl, hp]
    dsimp only
    rw [State.identify_emergencyCall]
  rw [hw]
  refine ⟨by simp [State.addCall], ?_, hq, ?_, rfl, rfl⟩
  · refine (State.placeOfRef_congr (s := s.addCall p (s.emergencyCall l)) (fun k => ?_) _).trans
      (State.placeOfRef_addCall (l := l) (State.freePlace_free hp) rfl)
    by_cases hk : p = k
    · subst hk
      simp [State.addCall, Call.toWaiting]
    · simp [hk]
  · simp [State.addCall, State.selectChain, State.emergencyCall, composeIdentity]

/-- What `openWaiting` makes on a line that no live call names (R77, R80). -/
theorem State.openWaiting_opens (hl : s.placeOfLine l = none) (hp : s.freePlace = some p) :
    ∃ d, (s.openWaiting l).cc.calls.get p = some d ∧ d.line = l ∧ d.sequence = s.cc.lastSequence + 1 ∧
      d.origin = s.stamp ∧ d.identity = some (composeIdentity (s.dir.working.get l) l .absent false) ∧
      (d.state = .waiting ∧ d.ref ∈ (s.openWaiting l).cc.queue ∧ d.queueEntry = some s.cc.now ∧
          d.agingMark = some s.cc.now ∨ d.state = .offered) ∧
      (s.openWaiting l).ap.players.get p = .active (s.dir.working.get l).waitingChain
        (startStep (s.ap.chains.get (s.dir.working.get l).waitingChain) 1) ∧
      (s.openWaiting l).events = s.events ∧ (s.openWaiting l).lines = s.lines := by
  obtain ⟨w, hw, hc, hplace, hq, hplayer, hevents, hlines⟩ := State.openWaiting_of_free hl hp
  obtain ⟨hsame, hcases⟩ := State.changed_waiting hc hplace rfl hq
  have hbeside := w.changed_passedTo.beside
  rw [hw]
  generalize w.changed = t at *
  have hrest : t.events = s.events ∧ t.lines = s.lines :=
    ⟨(congrArg State.events hbeside).trans hevents, (congrArg State.lines hbeside).trans hlines⟩
  rcases hcases with ⟨hd, hin⟩ | ⟨v, -, hd⟩
  · exact ⟨_, hd, rfl, rfl, rfl, rfl, .inl ⟨rfl, hin, rfl, rfl⟩, hsame.trans hplayer, hrest⟩
  · exact ⟨_, hd, rfl, rfl, rfl, rfl, .inr rfl, hsame.trans hplayer, hrest⟩

end Opened

/-- Settles O26: both events are `openWaiting`, and ANSWERED connects the call where it stands. -/
theorem offHookOpensCallAndAnsweredConnectsCallback : Obligations.OffHookOpensCallAndAnsweredConnectsCallback := by
  refine ⟨?_, fun s l p c u he hc hl hs ht => ?_⟩
  · rintro s l p i v e hi he hl hp rfl
    obtain ⟨d, hd⟩ := State.openWaiting_opens (s := s.tookEvent v) hl hp
    refine ⟨(s.tookEvent v).openWaiting l, d, ?_, hd⟩
    rcases hi with ⟨rfl, rfl⟩ | ⟨rfl, rfl⟩
    · exact exec_offHookAtStart he
    · exact exec_lockoutExpiry he
  · obtain ⟨hget, -, hplace⟩ := hc
    subst hl
    rw [exec_answered he hplace hget hs ht, State.connect,
      State.mapCall_of_some (s := s.tookEvent (.answered c.line)) (c := c) hget]
    rfl

/-! ### Aging and the hold reminder (R82, R131) -/

section Aging

variable {s : State} {p : LineNo} {c : Call} {u : TrunkNo}

theorem exec_aging (hs : s.held = false) (hp : s.placeOfRef c.ref = some p) (hc : s.cc.calls.get p = some c)
    (hd : s.agingDue s.cc.agingPeriod c = true) :
    exec (.aging c.ref) s = .next (if c.effective = 0 then s.ageCall p else (s.ageCall p).changed) := by
  change execAging c.ref s = _
  rw [execAging, State.running_of _ _ hs, hp]
  dsimp only
  rw [hc]
  dsimp only
  rw [if_pos hd]

/-- At class 0 the mark alone is renewed (R82). -/
theorem Call.aged_of_effective_zero (h : c.effective = 0) (now : Word32) :
    c.aged now = { c with agingMark := some now } := by
  unfold Call.effective at h
  unfold Call.aged
  cases hi : c.identity with
  | none => rfl
  | some i =>
    rw [hi] at h
    have h : i.effectiveClass = 0 := h
    cases i
    simp_all

/-- A call above class 0 that ages is WAITING in the queue as `ageCall` leaves it (R82). -/
theorem State.ageCall_of_effective (hc : s.cc.calls.get p = some c) (he : c.effective ≠ 0) :
    ∃ q, c.ref ∈ q ∧ s.ageCall p = (s.setCall p (some (c.aged s.cc.now))).setQueue q := by
  refine ⟨_, ?_, (State.ageCall_of_some hc).trans ((if_neg he).trans
    (State.enqueue_of_some (c := c.aged s.cc.now) (Table.get_set_self _ _ _)))⟩
  exact mem_insertByKey _ (c.aged s.cc.now) _

theorem Call.aged_sameCall (c : Call) (now : Word32) : c.sameCall (c.aged now) := by
  refine ⟨rfl, rfl, rfl, rfl, rfl, fun _ => ?_⟩
  unfold Call.aged
  cases c.identity <;> rfl

theorem exec_holdReminder {h : Word32} {due : Int} (hs : s.held = false) (hp : s.placeOfRef c.ref = some p)
    (hc : s.cc.calls.get p = some c) (hstate : c.state = .held) (ht : c.trunk = some u) (hh : c.heldAt = some h)
    (hr : c.reminderIn = some due) (hd : due ≤ 0) : exec (.holdReminder c.ref) s = .next
      ((s.setCall p (some { c with reminderIn := some (due + 30000) })).sendDesk u
        (.holdReminder c.ref (min (s.age h / 1000) 65535))) := by
  change execHoldReminder c.ref s = _
  rw [execHoldReminder, State.running_of _ _ hs, hp]
  dsimp only
  rw [hc]
  dsimp only
  rw [hstate, ht, hh, hr]
  dsimp only
  rw [if_pos hd]
  rfl

end Aging

/-- Settles O29: aging by its two cases, the queue's order by what every command keeps, and the hold reminder. -/
theorem agingAndHoldReminderComeDue : Obligations.AgingAndHoldReminderComeDue := by
  refine ⟨fun s p c hs hc hd => ⟨fun he => ?_, fun he => ?_⟩, fun s p c u h due hs hc hstate ht hh hr hle => ?_⟩
  · obtain ⟨hget, hp, -⟩ := hc
    rw [exec_aging hs hp hget hd, if_pos he, State.ageCall_of_some hget, if_pos he, Call.aged_of_effective_zero he]
  · obtain ⟨hget, hp, -⟩ := hc
    have hexec := exec_aging hs hp hget hd
    rw [if_neg he] at hexec
    have hexact (h : s.callsPlaced) : (s.ageCall p).changed.queueExact :=
      (exec_inPlace (sc := ⟨False, True⟩) _ (State.inPlace_of_callsPlaced h nofun) trivial hexec).queueExact
    obtain ⟨q, hq, hage⟩ := State.ageCall_of_effective hget he
    have hplace : (s.ageCall p).placeOfRef c.ref = some p := by
      rw [hage, ← hp]
      refine State.placeOfRef_congr (fun k => ?_) _
      by_cases hk : p = k
      · subst hk
        simp [hget, Call.aged]
      · simp [hk]
    have hw := State.agingDue_waiting hd
    obtain ⟨hsame, hcases⟩ := State.changed_waiting (s := s.ageCall p) (p := p) (c := c.aged s.cc.now)
      (by rw [hage]; simp) hplace hw (by rw [hage]; exact hq)
    have hplayers : (s.ageCall p).ap.players = s.ap.players := by rw [hage]; rfl
    generalize (s.ageCall p).changed = t at *
    have hcall := Call.aged_sameCall c s.cc.now
    refine ⟨t, ?_⟩
    rcases hcases with ⟨hd, hin⟩ | ⟨v, -, hd⟩
    · exact ⟨_, hexec, hd, hcall, Call.aged_effective c s.cc.now, .inl ⟨hw, rfl, rfl, hin⟩, hexact,
        hsame.trans (by rw [hplayers])⟩
    · exact ⟨_, hexec, hd, hcall, Call.aged_effective c s.cc.now, .inr ⟨rfl, rfl⟩, hexact, hsame.trans (by rw [hplayers])⟩
  · obtain ⟨hget, hp, -⟩ := hc
    exact exec_holdReminder hs hp hget hstate ht hh hr hle

/-! ### Offers that end (R80, R81, R110, R111) -/

section Returned

variable {s v w t : State} {p : LineNo} {c : Call} {u : TrunkNo} {counted : Bool} {r : CallRef}

/-- A call that comes back from an offer: in WAITING, its offer count raised if `counted` (R80, R81). -/
def Call.returned (c : Call) (counted : Bool) (now : Word32) : Call :=
  { c with offerCount := if counted then min (c.offerCount + 1) 255 else c.offerCount }.toWaiting now

/-- An OFFERED call is handed back to the queue and keeps its channel (R80, R81). -/
theorem State.handBack_offered (hp : s.placeOfRef c.ref = some p) (hc : s.cc.calls.get p = some c)
    (ho : c.state = .offered) : ∃ q, c.ref ∈ q ∧
      s.handBack c.ref counted = (s.setCall p (some (c.returned counted s.cc.now))).setQueue q := by
  let b : Call := { c with offerCount := if counted then min (c.offerCount + 1) 255 else c.offerCount }
  have hget : (s.setCall p (some b)).cc.calls.get p = some b := Table.get_set_self _ _ _
  have hback : s.handBack c.ref counted = (s.setCall p (some b)).enterWaiting p := by
    unfold State.handBack
    rw [hp]
    dsimp only
    rw [State.mapCall_of_some hc]
  rcases State.enterWaiting_of_some hget with ⟨he, -⟩ | ⟨-, -, hn, -⟩
  · have hset : (s.setCall p (some b)).setCall p (some (b.toWaiting s.cc.now)) =
        s.setCall p (some (c.returned counted s.cc.now)) := by simp [State.setCall, Call.returned, b]
    refine ⟨insertByKey (s.setCall p (some (c.returned counted s.cc.now))).callOfRef (c.returned counted s.cc.now) s.cc.queue,
      mem_insertByKey _ (c.returned counted s.cc.now) _, hback.trans (he.trans ?_)⟩
    rw [State.setCall_cc, hset]
    exact State.enqueue_of_some (c := c.returned counted s.cc.now) (Table.get_set_self _ _ _)
  · exact absurd ho hn

/-- A call handed back to the queue and gone over by a pass: in the queue still, or offered on another trunk than one that
is not eligible-idle (R80, R84). -/
theorem State.changed_returned {now : Word32} (hc : w.cc.calls.get p = some (c.returned counted now))
    (hp : w.placeOfRef c.ref = some p) (hq : c.ref ∈ w.cc.queue) (hu : (w.trunk u).eligible = false) :
    ∃ d, w.changed.cc.calls.get p = some d ∧ c.sameCall d ∧ d.offerCount = (c.returned counted now).offerCount ∧
      d.effective = c.effective ∧ d.rescued = c.rescued ∧
      (d.state = .waiting ∧ d.trunk = none ∧ c.ref ∈ w.changed.cc.queue ∧ d.queueEntry = some now ∧
          d.agingMark = some now ∨ d.state = .offered ∧ d.trunk ≠ some u) ∧
      w.changed.ap.players.get p = w.ap.players.get p := by
  have hsame (b : Call) (hb : b.identity = c.identity) (hc : b.ref = c.ref ∧ b.line = c.line ∧ b.sequence = c.sequence ∧
      b.origin = c.origin ∧ b.createdAt = c.createdAt) : c.sameCall b := by
    obtain ⟨h1, h2, h3, h4, h5⟩ := hc
    exact ⟨h1, h2, h3, h4, h5, fun _ => by rw [hb]⟩
  obtain ⟨hplayer, hcases⟩ := State.changed_waiting hc hp rfl hq
  generalize w.changed = t at *
  rcases hcases with ⟨hd, hin⟩ | ⟨v, hv, hd⟩
  · exact ⟨_, hd, hsame _ rfl ⟨rfl, rfl, rfl, rfl, rfl⟩, rfl, rfl, rfl, .inl ⟨rfl, rfl, hin, rfl, rfl⟩, hplayer⟩
  · refine ⟨_, hd, hsame _ rfl ⟨rfl, rfl, rfl, rfl, rfl⟩, rfl, rfl, rfl, .inr ⟨rfl, fun e => ?_⟩, hplayer⟩
    obtain rfl : v = u := Option.some.inj e
    rw [hv] at hu
    cases hu

/-- An ended offer: the desk told, the trunk in GUARD, and the call back in the queue or offered elsewhere (R80, R81,
R115). -/
theorem State.endOffer_returns {rs : List DeskRequest} {k : Cause} (hc : s.cc.calls.get p = some c)
    (hp : s.placeOfRef c.ref = some p) (ho : c.state = .offered) (hv : v = s.setTrunk u { s.trunk u with requests := rs })
    (ht : t = v.endOffer u c.ref k) : ∃ d,
       ((s.trunk u).link = .up → (s.trunk u).transmit.length < 8 → .withdraw c.ref k ∈ (t.trunk u).transmit) ∧
      (t.trunk u).state = .guard_ ∧ (t.trunk u).guardTimer = some s.ti.guardTime ∧ (t.trunk u).current = none ∧
      t.cc.calls.get p = some d ∧ c.sameCall d ∧ d.offerCount = min (c.offerCount + 1) 255 ∧
      d.effective = c.effective ∧ d.rescued = c.rescued ∧
      (d.state = .waiting ∧ d.trunk = none ∧ c.ref ∈ t.cc.queue ∧ d.queueEntry = some s.cc.now ∧
          d.agingMark = some s.cc.now ∨ d.state = .offered ∧ d.trunk ≠ some u) ∧
      t.ap.players.get p = s.ap.players.get p ∧ s.deskFramed t u ∧ (t.trunk u).stack = (s.trunk u).stack ∧
      (t.trunk u).requests = rs := by
  subst hv
  obtain ⟨y, hy, hframe, hpre, hroom⟩ :=
    (s.setTrunk u { s.trunk u with requests := rs }).withdrawTaken_eq u (.withdraw c.ref k)
  rw [State.setTrunk_setTrunk] at hy
  rw [State.trunk_setTrunk_self] at hframe hpre hroom
  obtain ⟨q, hq, hback⟩ := State.handBack_offered (s := s.setTrunk u (y.guarding s.ti.guardTime)) (counted := true) hp hc ho
  let w := ((s.setTrunk u (y.guarding s.ti.guardTime)).setCall p (some (c.returned true s.cc.now))).setQueue q
  have ht : t = w.changed := by
    rw [ht, State.endOffer, hy]
    exact congrArg State.changed hback
  have hwu : w.trunk u = y.guarding s.ti.guardTime := State.trunk_setTrunk_self _ _ _
  have hguard : (w.trunk u).eligible = false := by
    rw [hwu, Bool.eq_false_iff]
    intro he
    obtain ⟨-, -, hi, -⟩ := Trunk.eligible_iff.mp he
    cases hi
  have hplace : w.placeOfRef c.ref = some p := by
    rw [← hp]
    refine State.placeOfRef_congr (fun k => ?_) _
    by_cases hk : p = k
    · subst hk
      simp [w, hc, Call.returned, Call.toWaiting]
    · simp [w, hk]
  obtain ⟨d, hd, hcall, hcount, heff, hres, hwhere, hplayer⟩ :=
    State.changed_returned (w := w) (u := u) (Table.get_set_self _ _ _) hplace hq hguard
  have hpass := w.changed_passedTo
  obtain ⟨-, htrans, hkeep⟩ := hpass.trunks u
  have hkeep := hkeep (by rw [hwu]; nofun)
  have hframed : s.deskFramed w.changed u := by
    refine State.deskFramed_of_passedTo hpass rfl (fun q hq => ⟨?_, rfl⟩) (fun q a ha => ?_) (fun x hx => ?_) ?_
    · exact (Table.get_set_ne _ _ fun e => by rw [← e, hc] at hq; cases hq).trans hq
    · by_cases hq : p = q
      · subst hq
        obtain rfl := Option.some.inj (hc.symm.trans ha)
        exact ⟨_, Table.get_set_self _ _ _, rfl, rfl, rfl, rfl, rfl, fun _ => rfl⟩
      · exact ⟨a, (Table.get_set_ne _ _ hq).trans ha, rfl, rfl, rfl, rfl, rfl, fun _ => rfl⟩
    · exact State.trunk_setTrunk_ne _ _ hx.symm
    · rw [hwu, hframe]
      rfl
  rw [hwu] at hkeep htrans
  rw [← ht] at *
  rw [hframe] at hkeep
  refine ⟨d, fun hl hr => htrans.subset ?_, ?_, ?_, ?_, hd, hcall, hcount, heff, hres, hwhere, hplayer, hframed, ?_, ?_⟩
  · change _ ∈ y.transmit
    rw [hroom _ rfl hl hr]
    exact List.mem_append_right _ (List.mem_singleton_self _)
  all_goals rw [hkeep]; rfl

theorem exec_offerTimerExpiry (hs : s.held = false) (ho : (s.trunk u).state = .offering)
    (hr : (s.trunk u).current = some r) (ht : (s.trunk u).offerTimer = some 0) :
    exec (.offerTimerExpiry u) s = .next (s.endOffer u r .timeout) := by
  change execOfferTimerExpiry u s = _
  rw [execOfferTimerExpiry, State.running_of _ _ hs]
  dsimp only
  rw [hr]
  dsimp only
  rw [if_pos ⟨ho, ht⟩]

theorem exec_decline (hd : s.deskReady u (.decline r)) (ho : (s.trunk u).state = .offering)
    (hr : (s.trunk u).current = some r) :
    exec (.decline u r) s = .next ((s.tookRequest u).endOffer u r .declined) := by
  change execDecline u r s = _
  rw [execDecline, State.running_of _ _ hd.1, State.takeDesk_ready hd]
  dsimp only
  rw [State.tookRequest_trunk_self, if_pos ⟨ho, hr⟩]

/-- DECLINE of another offer than the current one is refused (R110). -/
theorem exec_decline_stale (hd : s.deskReady u (.decline r))
    (h : (s.trunk u).state ≠ .offering ∨ (s.trunk u).current ≠ some r) :
    exec (.decline u r) s = .next ((s.tookRequest u).sendDesk u (.refuse (.decline r) .stale)) := by
  change execDecline u r s = _
  rw [execDecline, State.running_of _ _ hd.1, State.takeDesk_ready hd]
  dsimp only
  rw [State.tookRequest_trunk_self, if_neg (not_and_or.mpr h)]
  rfl

end Returned

/-- Settles O34: both commands are `endOffer`, on the trunk as it was or without its oldest request. -/
theorem endedOfferReturnsTheCall : Obligations.EndedOfferReturnsTheCall := by
  refine ⟨fun s u p c hc ho hr hs i k hi => ?_, fun s u r hd h => exec_decline_stale hd h⟩
  obtain ⟨hget, hp, -⟩ := hc
  rcases hi with ⟨rfl, hh, ht, rfl⟩ | ⟨rfl, hd, rfl⟩
  · have hsame : s.setTrunk u (s.trunk u) = s := by simp [State.setTrunk, State.trunk]
    have h := State.endOffer_returns (rs := (s.trunk u).requests) (k := .timeout) hget hp hs hsame.symm rfl
    have hx := exec_offerTimerExpiry hh ho hr ht
    generalize s.endOffer u c.ref .timeout = t at *
    obtain ⟨d, h⟩ := h
    exact ⟨t, d, hx, by simpa using h⟩
  · have h := State.endOffer_returns (k := .declined) (v := s.tookRequest u) hget hp hs rfl rfl
    have hx := exec_decline hd ho hr
    generalize (s.tookRequest u).endOffer u c.ref .declined = t at *
    obtain ⟨d, h⟩ := h
    exact ⟨t, d, hx, by simpa using h⟩

end Sys2Proof.Machine
end

section
/-! The no-trunk condition, judged after a change and after a pass (R121). -/

namespace Sys2Proof.Machine

open Sys2Proof

section Judged

variable {s t v : State} {w : TrunkNo}

/-! ### A judgement (R121) -/

/-- Whether a trunk is IN SERVICE with its link UP (R121). -/
def State.anyReachable (s : State) : Bool := s.ti.trunks.cells.any Trunk.reachable

theorem State.anyReachable_iff : s.anyReachable = true ↔ ∃ w, (s.trunk w).service = .inService ∧ (s.trunk w).link = .up := by
  unfold State.anyReachable
  rw [List.any_eq_true]
  constructor
  · rintro ⟨x, hx, hr⟩
    obtain ⟨w, rfl⟩ := Table.exists_get_of_mem hx
    exact ⟨w, Trunk.reachable_iff.mp hr⟩
  · rintro ⟨w, hw⟩
    exact ⟨s.trunk w, Table.get_mem _ w, Trunk.reachable_iff.mpr hw⟩

theorem State.trunkless_iff : s.trunkless = true ↔
    s.cc.queue ≠ [] ∧ ∀ w, ¬ ((s.trunk w).service = .inService ∧ (s.trunk w).link = .up) := by
  have h : s.trunkless = (!s.cc.queue.isEmpty && !s.anyReachable) := rfl
  rw [h, Bool.and_eq_true, Bool.not_eq_true', Bool.not_eq_true', List.isEmpty_eq_false_iff, ← not_exists,
    ← State.anyReachable_iff, Bool.not_eq_true]

/-- The report that a judgement makes where it turns the flag (R121). -/
def State.noTrunkReport (s : State) : Report :=
  if s.trunkless then .noTrunk s.cc.queue.length else .trunksRestored s.anyReachable

theorem State.judgeNoTrunk_same (h : s.ti.noTrunk = s.trunkless) : s.judgeNoTrunk = s := by
  obtain ⟨r, hr⟩ := s.judgeNoTrunk_eq
  rw [hr, if_pos h]

theorem State.judgeNoTrunk_turns (h : s.ti.noTrunk ≠ s.trunkless) :
    s.judgeNoTrunk = State.report { s with ti := { s.ti with noTrunk := s.trunkless } } s.noTrunkReport := by
  have hless : s.trunkless = (!s.cc.queue.isEmpty && !s.anyReachable) := rfl
  have hjudge : s.judgeNoTrunk = if s.trunkless && !s.ti.noTrunk then
      State.report { s with ti := { s.ti with noTrunk := true } } (.noTrunk s.cc.queue.length)
    else if !s.trunkless && s.ti.noTrunk then
      State.report { s with ti := { s.ti with noTrunk := false } } (.trunksRestored s.anyReachable)
    else s := rfl
  rw [hjudge, State.noTrunkReport]
  cases hl : s.trunkless <;> cases hn : s.ti.noTrunk
  · exact absurd (hn.trans hl.symm) h
  · rfl
  · rfl
  · exact absurd (hn.trans hl.symm) h

/-- A report by the room on the output list (R181). -/
theorem State.report_link (s : State) (r : Report) : (s.report r).link =
    if s.link.reports < 16 then { s.link with output := s.link.output ++ [.report r] }
    else { s.link with reportLoss := true } := by
  unfold State.report
  split
  next h => rw [if_pos (show s.link.reports < 16 from h)]; rfl
  next h => rw [if_neg (show ¬ s.link.reports < 16 from h)]; rfl

/-- `t` is `s` after a judgement: its flag stands as the condition does, and a flag turned has made its report (R121). -/
structure State.judgedTo (s t : State) : Prop where
  flag : t.ti.noTrunk = t.trunkless
  same : t.ti.noTrunk = s.ti.noTrunk → t.link = s.link
  turned : t.ti.noTrunk ≠ s.ti.noTrunk → t.link = (s.report t.noTrunkReport).link

theorem State.judgeNoTrunk_judgedTo (s : State) : s.judgedTo s.judgeNoTrunk := by
  have hless : s.judgeNoTrunk.trunkless = s.trunkless := by
    rw [State.trunkless, State.trunkless, State.judgeNoTrunk_trunks, State.judgeNoTrunk_cc]
  have hreport : s.judgeNoTrunk.noTrunkReport = s.noTrunkReport := by
    rw [State.noTrunkReport, State.noTrunkReport, hless, State.anyReachable, State.judgeNoTrunk_trunks, State.judgeNoTrunk_cc]
    rfl
  refine ⟨s.judgeNoTrunk_noTrunk.trans hless.symm, fun h => ?_, fun h => ?_⟩
  · rw [s.judgeNoTrunk_noTrunk] at h
    rw [State.judgeNoTrunk_same h.symm]
  · rw [s.judgeNoTrunk_noTrunk] at h
    rw [hreport, State.judgeNoTrunk_turns h.symm]
    simp only [State.report_link]

/-! ### Passes (R84, R121) -/

/-- A judgement is told by the flag, the link, the condition and the report alone (R121). -/
theorem State.judgedTo.congr (h : s.judgedTo t) (hs : v.link = s.link) (hn : v.ti.noTrunk = s.ti.noTrunk)
    {t' : State} (ht : t'.link = t.link) (hf : t'.ti.noTrunk = t.ti.noTrunk)
    (hl : t'.trunkless = t.trunkless) (hr : t'.noTrunkReport = t.noTrunkReport) : v.judgedTo t' where
  flag := by rw [hf, hl, h.flag]
  same hsame := by rw [ht, hs, h.same (by rw [← hf, hsame, hn])]
  turned hne := by
    rw [ht, h.turned (fun e => hne (by rw [hf, e, hn])), hr]
    simp only [State.report_link, hs]

theorem State.anyReachable_congr (h : ∀ w, (t.trunk w).reachable = (s.trunk w).reachable) :
    t.anyReachable = s.anyReachable := by
  have h (w : TrunkNo) : ((t.trunk w).service = .inService ∧ (t.trunk w).link = .up) ↔
      ((s.trunk w).service = .inService ∧ (s.trunk w).link = .up) := by
    rw [← Trunk.reachable_iff, ← Trunk.reachable_iff, h]
  rw [Bool.eq_iff_iff, State.anyReachable_iff, State.anyReachable_iff]
  exact exists_congr h

/-- A judged state after an examination (R121, R140). -/
theorem State.judgedTo.examine (h : s.judgedTo t) : s.judgedTo t.examine := by
  have hreach (w : TrunkNo) : (t.examine.trunk w).reachable = (t.trunk w).reachable := by
    rw [t.examine_trunk_frame w]
    rfl
  have hany := State.anyReachable_congr hreach
  have hless : t.examine.trunkless = t.trunkless := by
    change (!_ && !t.examine.anyReachable) = (!_ && !t.anyReachable)
    rw [State.examine_queue, hany]
  refine h.congr rfl rfl t.examine_link t.examine_noTrunk hless ?_
  rw [State.noTrunkReport, State.noTrunkReport, hless, hany, State.examine_queue]

/-- With no trunk of a group eligible-idle there is none in order (R84). -/
theorem State.eligibleTrunks_eq_nil {g : TrunkGroup} (h : ∀ w, (s.trunk w).group = g → (s.trunk w).eligible = false) :
    s.eligibleTrunks g = [] := by
  refine List.eq_nil_iff_forall_not_mem.mpr fun w hw => ?_
  obtain ⟨he, hg⟩ := State.mem_eligibleTrunks.mp hw
  rw [h w hg] at he
  cases he

theorem State.primaryStep_of_none (h : ∀ w, (s.trunk w).group = .primary → (s.trunk w).eligible = false) :
    s.primaryStep = s := by
  rw [State.primaryStep, State.eligibleTrunks_eq_nil h]
  rfl

theorem State.overflowStep_of_none (h : ∀ w, (s.trunk w).group = .overflow → (s.trunk w).eligible = false) :
    s.overflowStep = s := by
  rw [State.overflowStep, State.eligibleTrunks_eq_nil h]
  rfl

/-- While no trunk is within reach nothing is offered (R84, R121). -/
theorem State.steps_of_unreachable (h : s.anyReachable = false) : s.primaryStep.overflowStep = s := by
  have hnone (w : TrunkNo) : (s.trunk w).eligible = false := by
    rw [Bool.eq_false_iff]
    intro he
    obtain ⟨hs, hl, -⟩ := Trunk.eligible_iff.mp he
    rw [State.anyReachable_iff.mpr ⟨w, hs, hl⟩] at h
    cases h
  rw [State.primaryStep_of_none fun w _ => hnone w, State.overflowStep_of_none fun w _ => hnone w]

/-- An offer leaves every trunk within reach (R87, R96). -/
theorem State.passedTo.reachable (h : s.passedTo t) (w : TrunkNo) : (t.trunk w).reachable = (s.trunk w).reachable := by
  obtain ⟨hframe, -⟩ := h.trunks w
  rw [hframe]
  rfl

theorem State.steps_passedTo (s : State) : s.passedTo s.primaryStep.overflowStep :=
  s.primaryStep_passedTo.trans s.primaryStep.overflowStep_passedTo

/-- Offers do not change the no-trunk condition: they need a trunk, and with one it does not hold (R121). -/
theorem State.steps_trunkless (s : State) : s.primaryStep.overflowStep.trunkless = s.trunkless ∧
    s.primaryStep.overflowStep.noTrunkReport = s.noTrunkReport := by
  cases hr : s.anyReachable with
  | false => rw [State.steps_of_unreachable hr]; exact ⟨rfl, rfl⟩
  | true =>
    have hany := State.anyReachable_congr s.steps_passedTo.reachable
    have hless (v : State) (hv : v.anyReachable = true) : v.trunkless = false := by
      change (!_ && !v.anyReachable) = false
      rw [hv, Bool.not_true, Bool.and_false]
    have hs := hless s hr
    have ht := hless _ (hany.trans hr)
    refine ⟨ht.trans hs.symm, ?_⟩
    rw [State.noTrunkReport, State.noTrunkReport, hs, ht, hany]
    rfl

theorem State.pass_judgedTo (s : State) : s.judgedTo s.pass := by
  have hsteps := s.steps_offeredTo
  exact s.primaryStep.overflowStep.judgeNoTrunk_judgedTo.examine.congr hsteps.link.symm hsteps.noTrunk.symm rfl rfl rfl rfl

/-- The judgement after a change decides: the pass that follows finds the flag right (R84, R121). -/
theorem State.changed_judgedTo (s : State) : s.judgedTo s.changed := by
  have hjudged := s.judgeNoTrunk_judgedTo
  have hsteps := s.judgeNoTrunk.steps_offeredTo
  obtain ⟨hless, hreport⟩ := s.judgeNoTrunk.steps_trunkless
  have hsame : s.judgeNoTrunk.primaryStep.overflowStep.judgeNoTrunk = s.judgeNoTrunk.primaryStep.overflowStep :=
    State.judgeNoTrunk_same (by rw [hsteps.noTrunk, hless, hjudged.flag])
  rw [State.changed, State.pass_eq, hsame]
  exact (hjudged.congr rfl rfl hsteps.link hsteps.noTrunk hless hreport).examine

/-! ### A judgement in the terms of the statements (R121, R181) -/

namespace State.judgedTo

theorem flag_iff (h : s.judgedTo t) : t.ti.noTrunk = true ↔
    t.cc.queue ≠ [] ∧ ∀ w, ¬ ((t.trunk w).service = .inService ∧ (t.trunk w).link = .up) := by
  rw [h.flag, State.trunkless_iff]

/-- The report of a flag set (R121). -/
theorem link_of_set (h : s.judgedTo t) (hs : s.ti.noTrunk = false) (ht : t.ti.noTrunk = true) :
    t.link = (s.report (.noTrunk t.cc.queue.length)).link := by
  rw [h.turned (by simp [hs, ht]), State.noTrunkReport, ← h.flag, ht]
  rfl

/-- The report of a flag cleared (R121). -/
theorem link_of_cleared (h : s.judgedTo t) (hs : s.ti.noTrunk = true) (ht : t.ti.noTrunk = false) :
    t.link = (s.report (.trunksRestored t.anyReachable)).link := by
  rw [h.turned (by simp [hs, ht]), State.noTrunkReport, ← h.flag, ht]
  rfl

end State.judgedTo

end Judged

end Sys2Proof.Machine
end

section
/-! The offers of an allocation pass: which trunk, which call, and how both stand after it (R84 to R87, R108). -/

namespace Sys2Proof.Machine

open Sys2Proof

section Offer

variable {s t v x : State} {u w : TrunkNo} {p : LineNo} {c : Call} {i : CallIdentity} {sc : Scope} {away : List CallRef}
  {g : TrunkGroup}

/-! ### One offer (R87, R108) -/

theorem State.offer_of_identity (hc : s.cc.calls.get p = some c) (hs : c.state = .waiting) (hi : c.identity = some i) :
    s.offer u p = (s.offerCall u p c).sendDesk u
      (.offer c.ref i.effectiveClass (min (s.age c.createdAt / 1000) 65535) ⟨c.ref, i.snapshot⟩) := by
  have heff : c.effective = i.effectiveClass := by rw [Call.effective, hi]; rfl
  unfold State.offer
  rw [hc]
  dsimp only
  rw [if_pos hs, show c.record = some ⟨c.ref, i.snapshot⟩ by rw [Call.record, hi]; rfl, ← heff]
  rfl

/-- One message for a desk, with the link UP (R106). -/
theorem Trunk.delivered_up {x : Trunk} (hl : x.link = .up) (m : DeskMessage) : x.delivered [m] = { x with
    transmit := if x.transmit.length < 8 then x.transmit ++ [m] else x.transmit
    overruns := if x.transmit.length < 8 then x.overruns else min (x.overruns + 1) 255 } := by
  change x.deliver m = _
  unfold Trunk.deliver
  rw [if_pos hl]
  by_cases hr : x.transmit.length < 8
  · simp only [if_pos hr]
  · simp only [if_neg hr]

/-- An offer in the terms of the statements (R87, R108). -/
theorem State.offer_offeredOn (hn : s.cc.queue.Nodup) (hc : s.cc.calls.get p = some c) (hs : c.state = .waiting)
    (hi : c.identity = some i) (hl : (s.trunk u).link = .up) : s.offeredOn (s.offer u p) u p c i := by
  rw [State.offer_of_identity hc hs hi, State.sendDesk_eq_mapTrunk]
  refine ⟨?_, Table.get_set_self _ _ _, fun hin => (hn.mem_erase_iff.mp hin).1 rfl, rfl⟩
  rw [State.trunk_mapTrunk_self, State.offerCall, State.trunk_setTrunk_self, Trunk.delivered_up (by exact hl)]
  rfl

/-- An offer stays through what leaves its trunk, its call and its channel, and puts no call in the queue. -/
theorem State.offeredOn.mono (h : s.offeredOn t u p c i) (ht : v.trunk u = t.trunk u)
    (hc : v.cc.calls.get p = t.cc.calls.get p) (hq : v.cc.queue ⊆ t.cc.queue)
    (hp : v.ap.players.get p = t.ap.players.get p) : s.offeredOn v u p c i := by
  obtain ⟨h1, h2, h3, h4⟩ := h
  exact ⟨ht.trans h1, hc.trans h2, fun hin => h3 (hq hin), hp.trans h4⟩

/-- An offer stays through the offers on other trunks (R84). -/
theorem State.offeredOn.offered (h : s.offeredOn t u p c i) (ho : t.offeredTo v) (hp : t.passedTo v) :
    s.offeredOn v u p c i := by
  have ⟨h1, h2, _, _⟩ := h
  refine h.mono ?_ ?_ hp.queue.subset (by rw [ho.players])
  · rcases ho.trunks u with hu | ⟨he, -⟩
    · exact hu
    · obtain ⟨-, -, hi, -⟩ := Trunk.eligible_iff.mp he
      rw [h1] at hi
      cases hi
  · rcases ho.calls p _ h2 with hc | ⟨w, -, hw, -⟩
    · exact hc.trans h2.symm
    · cases hw

/-- An offer stays through an examination: the calls it may warn are on other trunks (R140, R141). -/
theorem State.offeredOn.examine (h : s.offeredOn t u p c i) (hin : t.inPlace sc []) : s.offeredOn t.examine u p c i := by
  have hpass := t.examine_passedTo
  have ⟨h1, h2, _, _⟩ := h
  have hstate : (t.trunk u).state = .offering := by rw [h1]
  refine h.mono (State.examine_trunk fun w q e hw hcur hq he => ?_) ?_ hpass.queue.subset (hpass.players p fun a ha => ?_)
  · have hseat : e.seat = some (.current w) := (hin.seat_of (k := .current w) hq hcur).1
    obtain ⟨-, htrunk⟩ := Call.seat_eq_current.mp hseat
    obtain rfl := Option.some.inj (htrunk.symm.trans he)
    rw [hstate] at hw
    cases hw
  · obtain ⟨d, hd, hcd⟩ := hpass.calls p _ h2
    rcases hcd with rfl | ⟨hw, -⟩ | ⟨hw, -⟩
    · exact hd.trans h2.symm
    · cases hw
    · cases hw
  · obtain rfl := Option.some.inj (h2.symm.trans ha)
    nofun

/-- The rest of a pass after an offer leaves it as it is. -/
theorem State.offeredOn.rest (h : s.offeredOn t u p c i) (ho : t.offeredTo v) (hp : t.passedTo v) (hin : v.inPlace sc []) :
    s.offeredOn v.judgeNoTrunk.examine u p c i :=
  ((h.offered ho hp).mono (v := v.judgeNoTrunk) (by simp) (by simp) (by simp) (by simp)).examine hin.judgeNoTrunk

/-! ### The longest idle trunk (R84) -/

/-- The idle order: longest idle first, then lowest number (R84). -/
theorem State.idleBefore_iff {a b : TrunkNo} : s.idleBefore a b = true ↔
    s.idleAge b < s.idleAge a ∨ s.idleAge a = s.idleAge b ∧ a.val ≤ b.val := by
  have h : s.idleBefore a b = (s.idleAge b < s.idleAge a || (s.idleAge a = s.idleAge b && a.val ≤ b.val)) := rfl
  rw [h]
  simp

theorem State.eligibleTrunks_pairwise (s : State) (g : TrunkGroup) :
    (s.eligibleTrunks g).Pairwise fun a b => s.idleBefore a b = true := by
  have : Std.Total fun a b => s.idleBefore a b = true := ⟨fun a b => by
    rw [State.idleBefore_iff, State.idleBefore_iff]; omega⟩
  have : IsTrans TrunkNo fun a b => s.idleBefore a b = true := ⟨fun a b c => by
    rw [State.idleBefore_iff, State.idleBefore_iff, State.idleBefore_iff]; omega⟩
  exact List.pairwise_insertionSort _ _

/-- The longest idle trunk is first in the idle order (R84). -/
theorem State.firstIdle.eligibleTrunks (h : s.firstIdle g u) : ∃ ws, s.eligibleTrunks g = u :: ws := by
  obtain ⟨hg, he, hfirst⟩ := h
  have hu : u ∈ s.eligibleTrunks g := State.mem_eligibleTrunks.mpr ⟨he, hg⟩
  have hpair := s.eligibleTrunks_pairwise g
  have hmem {w : TrunkNo} (hw : w ∈ s.eligibleTrunks g) := State.mem_eligibleTrunks.mp hw
  cases hl : s.eligibleTrunks g with
  | nil => rw [hl] at hu; cases hu
  | cons a ws =>
    by_cases ha : a = u
    · exact ⟨ws, by rw [ha]⟩
    · obtain ⟨hae, hag⟩ := hmem (hl ▸ List.mem_cons_self)
      have hbefore : s.idleBefore a u = true := by
        rw [hl] at hpair hu
        exact (List.pairwise_cons.mp hpair).1 u ((List.mem_cons.mp hu).resolve_left (Ne.symm ha))
      rw [State.idleBefore_iff] at hbefore
      have := hfirst a ha hag hae
      omega

/-! ### The call that an offer takes (R85, R86) -/

/-- The head of the queue is offered (R85). -/
theorem State.offerHead_of_head (hh : s.cc.queue.head? = some c.ref) (hp : s.placeOfRef c.ref = some p) :
    s.offerHead u = s.offer u p := by
  unfold State.offerHead
  rw [hh, Option.bind_some, hp]

theorem State.offerHead_of_nil (h : s.cc.queue = []) : s.offerHead u = s := by
  unfold State.offerHead
  rw [h]
  rfl

theorem State.noPrimary_iff : s.noPrimary = true ↔
    ∀ w, (s.trunk w).group = .primary → (s.trunk w).reachable = false := by
  unfold State.noPrimary
  rw [List.all_eq_true]
  constructor
  · intro h w hg
    have hw := h (s.trunk w) (Table.get_mem _ w)
    simpa [hg] using hw
  · intro h x hx
    obtain ⟨w, rfl⟩ := Table.exists_get_of_mem hx
    have hw := h w
    simp only [Bool.not_eq_true', Bool.and_eq_false_iff, decide_eq_false_iff_not]
    exact (em _).elim (fun hg => .inr (hw hg)) .inl

theorem State.qualifies_iff : s.qualifies c = true ↔ s.mayOverflow c := by
  rw [State.qualifies, Bool.and_eq_true, Bool.or_eq_true, Bool.or_eq_true, decide_eq_true_eq, State.noPrimary_iff]
  rfl

/-- No queued call qualifies for an overflow trunk (R86). -/
def State.noneQualifies (s : State) : Prop := ∀ r ∈ s.cc.queue, ∀ e, s.callOfRef r = some e → ¬ s.mayOverflow e

theorem State.offerQualified_of_none (h : s.noneQualifies) : s.offerQualified u = s := by
  unfold State.offerQualified
  rw [List.find?_eq_none.mpr fun r hr hq => ?_]
  · rfl
  · obtain ⟨e, he, hqe⟩ := (Option.any_eq_true _ _).mp hq
    exact h r hr e he (State.qualifies_iff.mp hqe)

/-- The first queued call that qualifies is offered (R86). -/
theorem State.offerQualified_of_first {before rest : List CallRef} (hq : s.cc.queue = before ++ c.ref :: rest)
    (hc : s.callOfRef c.ref = some c) (hp : s.placeOfRef c.ref = some p) (hm : s.mayOverflow c)
    (hb : ∀ r ∈ before, ∀ e, s.callOfRef r = some e → ¬ s.mayOverflow e) : s.offerQualified u = s.offer u p := by
  have hfirst : (s.cc.queue.find? fun r => (s.callOfRef r).any s.qualifies) = some c.ref := by
    rw [hq, List.find?_append, List.find?_eq_none.mpr fun r hr hqr => ?_, Option.none_or, List.find?_cons_of_pos]
    · rw [hc, Option.any_some]
      exact State.qualifies_iff.mpr hm
    · obtain ⟨e, he, hqe⟩ := (Option.any_eq_true _ _).mp hqr
      exact hb r hr e he (State.qualifies_iff.mp hqe)
  unfold State.offerQualified
  rw [hfirst, Option.bind_some, hp]

/-- The steps of a pass keep every call in its place. -/
theorem State.inPlace.primaryStep (h : s.inPlace sc away) : s.primaryStep.inPlace sc away :=
  State.inPlace.foldl_offers State.offerHead_offersOn (fun _ _ hv => hv.offerHead) _ s h (s.eligibleTrunks_nodup _)
    fun _ hw => (State.mem_eligibleTrunks.mp hw).1

theorem State.inPlace.overflowStep (h : s.inPlace sc away) : s.overflowStep.inPlace sc away :=
  State.inPlace.foldl_offers State.offerQualified_offersOn (fun _ _ hv => hv.offerQualified) _ s h (s.eligibleTrunks_nodup _)
    fun _ hw => (State.mem_eligibleTrunks.mp hw).1

/-! ### The longest idle trunk takes its call (R84 to R87) -/

/-- A step of a pass whose first trunk takes call `c` of place `p`: the offers that follow leave that one (R84). -/
theorem State.firstIdle.step_offeredOn {f : State → TrunkNo → State} (hon : ∀ (v : State) w, v.offersOn w (f v w))
    (hf : ∀ (v : State) w, v.inPlace sc [] → (v.trunk w).eligible = true → (f v w).inPlace sc [])
    (h : s.inPlace sc []) (hu : s.firstIdle g u) (hr : c.ref ∈ s.cc.queue) (hc : s.cc.calls.get p = some c)
    (hi : c.identity = some i) (hfirst : f s u = s.offer u p) :
    s.offeredOn ((s.eligibleTrunks g).foldl f s) u p c i ∧ ((s.eligibleTrunks g).foldl f s).inPlace sc [] := by
  obtain ⟨q, d, hd, href, hw, -, hp, -⟩ := h.queued hr
  obtain ⟨rfl, rfl⟩ := h.sound.eq hc hd href.symm
  obtain ⟨-, hl, -⟩ := Trunk.eligible_iff.mp hu.2.1
  have hoffer := State.offer_offeredOn (u := u) h.nodup hc hw hi hl
  have hmem (w : TrunkNo) (hw : w ∈ s.eligibleTrunks g) : (s.trunk w).eligible = true := (State.mem_eligibleTrunks.mp hw).1
  have hnodup := s.eligibleTrunks_nodup g
  have hin := State.inPlace.foldl_offers hon hf _ s h hnodup hmem
  obtain ⟨ws, hws⟩ := hu.eligibleTrunks
  rw [hws] at hnodup hmem hin ⊢
  rw [List.foldl_cons, hfirst] at hin ⊢
  obtain ⟨hnot, hnodup⟩ := List.nodup_cons.mp hnodup
  have hrest (w : TrunkNo) (hw : w ∈ ws) : ((s.offer u p).trunk w).eligible = true := by
    have hne : u ≠ w := by
      rintro rfl
      exact hnot hw
    rw [State.offer_trunk_ne p hne]
    exact hmem w (List.mem_cons_of_mem u hw)
  exact ⟨hoffer.offered (State.foldl_offeredTo hon ws _ hnodup hrest)
    (State.foldl_offers_passedTo hon ws _ hnodup fun w hw => (Trunk.eligible_iff.mp (hrest w hw)).2.2.1), hin⟩

/-- The longest idle primary trunk takes the head of the queue (R85). -/
theorem State.firstIdle.pass_primary (hu : s.firstIdle .primary u) (h : s.inPlace sc []) (hh : s.cc.queue.head? = some c.ref)
    (hc : s.cc.calls.get p = some c) (hi : c.identity = some i) : s.offeredOn s.pass u p c i := by
  have hp := State.placeOfRef_of_sound h.sound hc
  obtain ⟨hoffered, hin⟩ := hu.step_offeredOn State.offerHead_offersOn (fun _ _ hv => hv.offerHead) h
    (List.mem_of_mem_head? hh) hc hi (State.offerHead_of_head hh hp)
  exact hoffered.rest s.primaryStep.overflowStep_offeredTo s.primaryStep.overflowStep_passedTo
    (State.inPlace.overflowStep hin)

/-- With no primary trunk eligible-idle, the longest idle overflow trunk takes the first call that qualifies (R86). -/
theorem State.firstIdle.pass_overflow {before rest : List CallRef} (hu : s.firstIdle .overflow u) (h : s.inPlace sc [])
    (hnone : ∀ w, (s.trunk w).group = .primary → (s.trunk w).eligible = false)
    (hq : s.cc.queue = before ++ c.ref :: rest) (hc : s.cc.calls.get p = some c) (hi : c.identity = some i)
    (hm : s.mayOverflow c) (hb : ∀ r ∈ before, ∀ e, s.callOfRef r = some e → ¬ s.mayOverflow e) :
    s.offeredOn s.pass u p c i := by
  have hp := State.placeOfRef_of_sound h.sound hc
  have hr : c.ref ∈ s.cc.queue := by simp [hq]
  obtain ⟨hoffered, hin⟩ := hu.step_offeredOn State.offerQualified_offersOn (fun _ _ hv => hv.offerQualified) h hr hc hi
    (State.offerQualified_of_first hq (State.callOfRef_of_sound h.sound hc) hp hm hb)
  rw [State.pass_eq, State.primaryStep_of_none hnone]
  exact hoffered.rest (.refl _) (.refl _) hin

/-! ### What a pass leaves (R85, R86) -/

/-- With the queue empty an examination finds no call that waits (R140). -/
theorem State.examine_of_nil (h : s.cc.queue = []) : s.examine = s := by
  have hnone : s.preemptionChoice = none := by
    unfold State.preemptionChoice
    rw [h]
    rfl
  unfold State.examine
  rw [hnone]

/-- A pass with an empty queue judges, and does nothing else (R84, R140). -/
theorem State.pass_of_nil (h : s.cc.queue = []) : s.pass = s.judgeNoTrunk := by
  have hp : s.primaryStep = s := by
    unfold State.primaryStep
    generalize s.eligibleTrunks .primary = ws
    induction ws with
    | nil => rfl
    | cons w ws ih => rwa [List.foldl_cons, State.offerHead_of_nil h]
  have ho : s.overflowStep = s := by
    unfold State.overflowStep
    generalize s.eligibleTrunks .overflow = ws
    induction ws with
    | nil => rfl
    | cons w ws ih => rwa [List.foldl_cons, State.offerQualified_of_none (by simp [State.noneQualifies, h])]
  rw [State.pass_eq, hp, ho, State.examine_of_nil (by simp [h])]

theorem State.changed_of_nil (h : s.cc.queue = []) : s.changed = s.judgeNoTrunk := by
  rw [State.changed, State.pass_of_nil (by simp [h]), State.judgeNoTrunk_judgeNoTrunk]

/-- A step of a pass goes on until it is `done`, or has made an offer on each of its trunks (R84). -/
theorem State.inPlace.foldl_done {f : State → TrunkNo → State} {done : State → Prop}
    (hon : ∀ (v : State) w, v.offersOn w (f v w))
    (hf : ∀ (v : State) w, v.inPlace sc away → (v.trunk w).eligible = true → (f v w).inPlace sc away)
    (hdone : ∀ (v : State) w, done v → f v w = v)
    (hmore : ∀ (v : State) w, v.inPlace sc away → ¬ done v → ((f v w).trunk w).state = .offering)
    (ws : List TrunkNo) (s : State) (h : s.inPlace sc away) (hn : ws.Nodup) (he : ∀ w ∈ ws, (s.trunk w).eligible = true) :
    done (ws.foldl f s) ∨ ∀ w ∈ ws, ((ws.foldl f s).trunk w).eligible = false := by
  induction ws generalizing s with
  | nil => exact .inr nofun
  | cons w ws ih =>
    obtain ⟨hw, htail⟩ := List.nodup_cons.mp hn
    have hrest (x : TrunkNo) (hx : x ∈ ws) : ((f s w).trunk x).eligible = true := by
      rw [(hon s w).trunk_ne fun e => hw (e ▸ hx)]
      exact he x (List.mem_cons_of_mem w hx)
    rw [List.foldl_cons]
    rcases ih (f s w) (hf s w h (he w List.mem_cons_self)) htail hrest with hd | hall
    · exact .inl hd
    · by_cases hs : done s
      · left
        rw [hdone s w hs]
        clear * - hs hdone
        induction ws with
        | nil => exact hs
        | cons x ws ih => rwa [List.foldl_cons, hdone s x hs]
      · refine .inr fun x hx => ?_
        rcases List.mem_cons.mp hx with rfl | hx
        · rw [Bool.eq_false_iff]
          intro hel
          have hsame := (State.foldl_offeredTo hon ws (f s x) htail hrest).eligible hel
          obtain ⟨-, -, hi, -⟩ := Trunk.eligible_iff.mp hel
          rw [hsame, hmore s x h hs] at hi
          cases hi
        · exact hall x hx

/-- An offer of a WAITING call takes its trunk to OFFERING (R87). -/
theorem State.offer_state (hc : s.cc.calls.get p = some c) (hs : c.state = .waiting) :
    ((s.offer u p).trunk u).state = .offering := by
  rcases State.offer_of_waiting (w := u) hc hs with h | ⟨m, h⟩ <;> rw [h]
  · rw [State.offerCall, State.trunk_setTrunk_self]
    rfl
  · rw [State.sendDesk_eq_mapTrunk, State.trunk_mapTrunk_self, State.offerCall, State.trunk_setTrunk_self,
      Trunk.delivered_frame]
    rfl

/-- After the primary step no primary trunk is eligible-idle while a call waits (R85). -/
theorem State.inPlace.primaryStep_done (h : s.inPlace sc away) (hg : (s.primaryStep.trunk w).group = .primary)
    (he : (s.primaryStep.trunk w).eligible = true) : s.primaryStep.cc.queue = [] := by
  have hsame := s.primaryStep_offeredTo.eligible he
  have hw : w ∈ s.eligibleTrunks .primary := State.mem_eligibleTrunks.mpr ⟨hsame ▸ he, hsame ▸ hg⟩
  have hdone := State.inPlace.foldl_done (done := fun v => v.cc.queue = []) State.offerHead_offersOn
    (fun _ _ hv => hv.offerHead) (fun _ _ => State.offerHead_of_nil) (fun v x hv hq => ?_)
    (s.eligibleTrunks .primary) s h (s.eligibleTrunks_nodup _) fun x hx => (State.mem_eligibleTrunks.mp hx).1
  · rcases hdone with hd | hall
    · exact hd
    · rw [State.primaryStep, hall w hw] at he
      cases he
  · obtain ⟨r, hr⟩ := List.exists_mem_of_ne_nil _ hq
    cases hh : v.cc.queue.head? with
    | none => exact absurd (List.head?_eq_none_iff.mp hh) hq
    | some r =>
      obtain ⟨p, c, hc, rfl, hs, -, hp, -⟩ := hv.queued (List.mem_of_mem_head? hh)
      rw [State.offerHead_of_head hh hp]
      exact State.offer_state hc hs

/-- After the overflow step no overflow trunk is eligible-idle while a call that qualifies waits (R86). -/
theorem State.inPlace.overflowStep_done (h : s.inPlace sc away) (hg : (s.overflowStep.trunk w).group = .overflow)
    (he : (s.overflowStep.trunk w).eligible = true) : s.overflowStep.noneQualifies := by
  have hsame := s.overflowStep_offeredTo.eligible he
  have hw : w ∈ s.eligibleTrunks .overflow := State.mem_eligibleTrunks.mpr ⟨hsame ▸ he, hsame ▸ hg⟩
  have hdone := State.inPlace.foldl_done (done := State.noneQualifies) State.offerQualified_offersOn
    (fun _ _ hv => hv.offerQualified) (fun _ _ => State.offerQualified_of_none) (fun v x hv hq => ?_)
    (s.eligibleTrunks .overflow) s h (s.eligibleTrunks_nodup _) fun x hx => (State.mem_eligibleTrunks.mp hx).1
  · rcases hdone with hd | hall
    · exact hd
    · rw [State.overflowStep, hall w hw] at he
      cases he
  · cases hf : v.cc.queue.find? fun r => (v.callOfRef r).any v.qualifies with
    | none =>
      refine absurd (fun r hr e he hm => ?_) hq
      refine List.find?_eq_none.mp hf r hr ?_
      rw [he, Option.any_some]
      exact State.qualifies_iff.mpr hm
    | some r =>
      obtain ⟨p, c, hc, rfl, hs, -, hp, -⟩ := hv.queued (List.mem_of_find?_eq_some hf)
      have hoffer : v.offerQualified x = v.offer x p := by
        unfold State.offerQualified
        rw [hf, Option.bind_some, hp]
      rw [hoffer]
      exact State.offer_state hc hs

end Offer

end Sys2Proof.Machine
end

section
/-! The end of GUARD, the allocation pass, the no-trunk flag and the end of draining, in the terms of the statements (R84 to
R87, R115, R121 to R123). -/

namespace Sys2Proof.Machine

open Sys2Proof

section Allocation

variable {s t v : State} {u w : TrunkNo} {p : LineNo} {c a b : Call} {i : CallIdentity} {sc : Scope}
  {before rest : List CallRef}

/-! ### What an offer and a call that qualifies go by -/

/-- An offer goes by the trunk beside its state, the offer time, the running time and the channel. -/
theorem State.offeredOn.of_base (h : v.offeredOn t u p c i)
    (hu : v.trunk u = { s.trunk u with
      state := (v.trunk u).state, current := (v.trunk u).current, offerTimer := (v.trunk u).offerTimer
      guardTimer := (v.trunk u).guardTimer, idleSince := (v.trunk u).idleSince })
    (ht : v.ti.offerTime = s.ti.offerTime) (hn : v.cc.now = s.cc.now) (hp : v.ap.players.get p = s.ap.players.get p) :
    s.offeredOn t u p c i := by
  obtain ⟨h1, h2, h3, h4⟩ := h
  refine ⟨?_, h2, h3, h4.trans hp⟩
  rw [h1, hu, ht, State.age, State.age, hn]

/-- A call qualifies by the trunks' groups, those within reach and the escalation threshold (R86). -/
theorem State.mayOverflow_congr (hk : b.identity = a.identity) (ho : b.offerCount = a.offerCount)
    (hg : ∀ w, (t.trunk w).group = (s.trunk w).group) (hr : ∀ w, (t.trunk w).reachable = (s.trunk w).reachable)
    (he : t.cc.escalation = s.cc.escalation) : t.mayOverflow b ↔ s.mayOverflow a := by
  unfold State.mayOverflow Call.isKind
  simp only [hk, ho, hg, hr, he]

theorem Call.passed.offerCount (h : a.passed b) : b.offerCount = a.offerCount := by
  rcases h with rfl | ⟨-, h⟩ | ⟨-, h⟩
  · rfl
  · rw [h]
  · rw [h]

theorem State.passedTo.mayOverflow (h : s.passedTo t) (hab : a.passed b) : t.mayOverflow b ↔ s.mayOverflow a := by
  refine State.mayOverflow_congr hab.identity hab.offerCount (fun w => ?_) h.reachable ?_
  · obtain ⟨hframe, -⟩ := h.trunks w
    rw [hframe]
  · change t.besidePass.cc.escalation = s.besidePass.cc.escalation
    rw [h.beside]

/-! ### What a pass leaves (R85, R86) -/

theorem State.noneQualifies.passed (h : s.noneQualifies) (hp : s.passedTo t) : t.noneQualifies := by
  intro r hr e he
  obtain ⟨p, hplace, hget⟩ := Option.bind_eq_some_iff.mp he
  rw [hp.placeOfRef] at hplace
  cases hs : s.cc.calls.get p with
  | none => rw [hp.free p hs] at hget; cases hget
  | some a =>
    obtain ⟨b, hb, hab⟩ := hp.calls p a hs
    obtain rfl := Option.some.inj (hb.symm.trans hget)
    rw [hp.mayOverflow hab]
    exact h r (hp.queue.subset hr) a (by rw [State.callOfRef, hplace]; exact hs)

/-- A judgement and an examination leave a trunk eligible-idle, or not (R84, R140). -/
theorem State.judged_examined_trunk (s : State) (w : TrunkNo) :
    (s.judgeNoTrunk.examine.trunk w).eligible = (s.trunk w).eligible ∧
      (s.judgeNoTrunk.examine.trunk w).group = (s.trunk w).group := by
  rw [s.judgeNoTrunk.examine_trunk_frame w, State.judgeNoTrunk_trunk]
  exact ⟨rfl, rfl⟩

theorem State.inPlace.pass_queue (h : s.inPlace sc []) (hg : (s.pass.trunk w).group = .primary)
    (he : (s.pass.trunk w).eligible = true) : s.pass.cc.queue = [] := by
  rw [State.pass_eq] at hg he ⊢
  obtain ⟨hse, hsg⟩ := s.primaryStep.overflowStep.judged_examined_trunk w
  rw [hsg] at hg
  rw [hse] at he
  have hsame := s.primaryStep.overflowStep_offeredTo.eligible he
  rw [hsame] at hg he
  have hsub := (s.primaryStep.overflowStep_passedTo.trans
    ((State.judgeNoTrunk_passedTo _).trans (State.examine_passedTo _))).queue
  rw [h.primaryStep_done hg he] at hsub
  exact List.sublist_nil.mp hsub

theorem State.inPlace.pass_noneQualifies (h : s.inPlace sc []) (hg : (s.pass.trunk w).group = .overflow)
    (he : (s.pass.trunk w).eligible = true) : s.pass.noneQualifies := by
  rw [State.pass_eq] at hg he ⊢
  obtain ⟨hse, hsg⟩ := s.primaryStep.overflowStep.judged_examined_trunk w
  rw [hsg] at hg
  rw [hse] at he
  exact (State.inPlace.overflowStep_done h.primaryStep hg he).passed
    ((State.judgeNoTrunk_passedTo _).trans (State.examine_passedTo _))

/-! ### A trunk alone eligible-idle (R85, R86) -/

/-- An offer that follows a judgement can be told from the state before it (R121). -/
theorem State.offeredOn.of_judged (h : s.judgeNoTrunk.offeredOn t u p c i) : s.offeredOn t u p c i :=
  h.of_base (by rw [State.judgeNoTrunk_trunk])
    (show s.judgeNoTrunk.besidePass.ti.offerTime = s.besidePass.ti.offerTime by rw [s.judgeNoTrunk_passedTo.beside])
    (by simp) (by simp)

/-- The one primary trunk eligible-idle takes the head of the queue at a change (R85). -/
theorem State.inPlace.changed_primary (h : s.inPlace sc []) (hg : (s.trunk u).group = .primary)
    (he : (s.trunk u).eligible = true) (hothers : ∀ w, w ≠ u → (s.trunk w).group = .primary → (s.trunk w).eligible = false)
    (hh : s.cc.queue.head? = some c.ref) (hc : s.cc.calls.get p = some c) (hi : c.identity = some i) :
    s.offeredOn s.changed u p c i := by
  have hfirst : s.judgeNoTrunk.firstIdle .primary u := by
    refine ⟨by simpa using hg, by simpa using he, fun w hw hwg hwe => ?_⟩
    rw [State.judgeNoTrunk_trunk] at hwg hwe
    rw [hothers w hw hwg] at hwe
    cases hwe
  rw [State.changed]
  exact (hfirst.pass_primary h.judgeNoTrunk (by simpa using hh) (by simpa using hc) hi).of_judged

/-- With no primary trunk eligible-idle, the one overflow trunk that is takes the first call that qualifies (R86). -/
theorem State.inPlace.changed_overflow (h : s.inPlace sc []) (hg : (s.trunk u).group = .overflow)
    (he : (s.trunk u).eligible = true) (hothers : ∀ w, w ≠ u → (s.trunk w).eligible = false)
    (hq : s.cc.queue = before ++ c.ref :: rest) (hc : s.cc.calls.get p = some c) (hi : c.identity = some i)
    (hm : s.mayOverflow c) (hb : ∀ r ∈ before, ∀ e, s.callOfRef r = some e → ¬ s.mayOverflow e) :
    s.offeredOn s.changed u p c i := by
  have hpass := s.judgeNoTrunk_passedTo
  have hfirst : s.judgeNoTrunk.firstIdle .overflow u := by
    refine ⟨by simpa using hg, by simpa using he, fun w hw _ hwe => ?_⟩
    rw [State.judgeNoTrunk_trunk, hothers w hw] at hwe
    cases hwe
  have hmay (d : Call) : s.judgeNoTrunk.mayOverflow d ↔ s.mayOverflow d := hpass.mayOverflow (Call.passed_refl d)
  have hlook (r : CallRef) : s.judgeNoTrunk.callOfRef r = s.callOfRef r := by
    rw [State.callOfRef, State.callOfRef, hpass.placeOfRef, State.judgeNoTrunk_cc]
  rw [State.changed]
  refine (hfirst.pass_overflow h.judgeNoTrunk (fun w hwg => ?_) (by simpa using hq) (by simpa using hc) hi
    ((hmay c).mpr hm) fun r hr e he => ?_).of_judged
  · rw [State.judgeNoTrunk_trunk] at hwg ⊢
    refine hothers w fun e => ?_
    rw [e, hg] at hwg
    cases hwg
  · rw [hlook] at he
    rw [hmay]
    exact hb r hr e he

/-- With no primary trunk eligible-idle and no call that qualifies, a change is judged and examined only (R84). -/
theorem State.changed_of_noneQualifies (hnone : ∀ w, (s.trunk w).group = .primary → (s.trunk w).eligible = false)
    (h : s.noneQualifies) : s.changed = s.judgeNoTrunk.examine := by
  have hq : s.judgeNoTrunk.noneQualifies := h.passed s.judgeNoTrunk_passedTo
  have ho : s.judgeNoTrunk.overflowStep = s.judgeNoTrunk := by
    unfold State.overflowStep
    generalize s.judgeNoTrunk.eligibleTrunks .overflow = ws
    induction ws with
    | nil => rfl
    | cons w ws ih => rwa [List.foldl_cons, State.offerQualified_of_none hq]
  rw [State.changed, State.pass_eq, State.primaryStep_of_none fun w hw => ?_, ho, State.judgeNoTrunk_judgeNoTrunk]
  rw [State.judgeNoTrunk_trunk] at hw ⊢
  exact hnone w hw

/-! ### A trunk whose link is not UP (R106, R123) -/

theorem State.examine_trunk_of_down (h : (s.trunk w).link ≠ .up) : s.examine.trunk w = s.trunk w := by
  unfold State.examine
  split
  next p hp =>
    obtain ⟨c, hc, -⟩ := State.preemptionChoice_connected hp
    rw [State.startPreemption_eq hc]
    split
    next x hx =>
      by_cases hw : x = w
      · subst hw
        rw [State.sendDesk_eq_mapTrunk, State.trunk_mapTrunk_self, Trunk.delivered_eq, if_neg (by exact h)]
        rfl
      · rw [State.sendDesk_trunk_ne _ _ hw]
        rfl
    next => rfl
  next => rfl

/-- A trunk that no message reaches is left as it is by a change (R84, R106). -/
theorem State.changed_trunk_of_down (h : (s.trunk w).link ≠ .up) : s.changed.trunk w = s.trunk w := by
  have hsteps : s.judgeNoTrunk.primaryStep.overflowStep.trunk w = s.trunk w := by
    rcases s.judgeNoTrunk.steps_offeredTo.trunks w with hw | ⟨he, -⟩
    · rw [hw, State.judgeNoTrunk_trunk]
    · rw [State.judgeNoTrunk_trunk] at he
      exact absurd (Trunk.eligible_iff.mp he).2.1 h
  rw [State.changed, State.pass_eq, State.examine_trunk_of_down, State.judgeNoTrunk_trunk, hsteps]
  rw [State.judgeNoTrunk_trunk, hsteps]
  exact h

/-! ### The end of GUARD and of draining (R97, R115, R122, R123) -/

theorem exec_guardTimerExpiry (hs : s.held = false) (hg : (s.trunk u).state = .guard_) (ht : (s.trunk u).guardTimer = some 0) :
    exec (.guardTimerExpiry u) s = .next (s.setTrunk u ((s.trunk u).idling s.cc.now)).changed := by
  change execGuardTimerExpiry u s = _
  rw [execGuardTimerExpiry, State.running_of _ _ hs]
  dsimp only
  rw [if_pos ⟨hg, ht⟩, State.enterIdle_eq]

theorem exec_trunkResetAfterDrain (hs : s.held = false) (hd : (s.trunk u).draining = true) (ht : (s.trunk u).transmit = []) :
    exec (.trunkResetAfterDrain u) s = .next (s.resetDrained u).changed := by
  change execTrunkResetAfterDrain u s = _
  rw [execTrunkResetAfterDrain, State.running_of _ _ hs, if_pos ⟨hd, ht⟩]

/-- A trunk that drains and has sent out its list is reset, with its buffers (R122, R163). -/
theorem State.resetDrained_of_drained (hd : (s.trunk u).draining = true) (ht : (s.trunk u).transmit = []) :
    s.resetDrained u = { s with
      ap := { s.ap with
        receive := s.ap.receive.set u Buffer.empty
        send := s.ap.send.set u Buffer.empty
        slips := s.ap.slips.set u 0 } }.setTrunk u
      { Trunk.initial (if u.val < 6 then .primary else .overflow) with lastFrame := (s.trunk u).lastFrame } := by
  unfold State.resetDrained
  dsimp only
  rw [if_pos ⟨hd, ht⟩]
  rfl

theorem State.passedTo.ap (h : s.passedTo t) : t.ap = { s.ap with players := t.ap.players } :=
  congrArg State.ap (State.eq_of_besidePass h.beside)

/-- The reset of a drained trunk, after the judgement and the pass that follow it (R122, R123, R163). -/
theorem State.resetDrained_changed (hd : (s.trunk u).draining = true) (ht : (s.trunk u).transmit = []) :
    (s.resetDrained u).changed.trunk u =
        { Trunk.initial (if u.val < 6 then .primary else .overflow) with lastFrame := (s.trunk u).lastFrame } ∧
      (s.resetDrained u).changed.ap = { s.ap with
        receive := s.ap.receive.set u Buffer.empty
        send := s.ap.send.set u Buffer.empty
        slips := s.ap.slips.set u 0
        players := (s.resetDrained u).changed.ap.players } ∧
      (s.resetDrained u).changed.lines = s.lines ∧ (s.resetDrained u).changed.journal = s.journal := by
  rw [State.resetDrained_of_drained hd ht]
  set v := State.setTrunk _ u _ with hv
  have htrunk := State.changed_trunk_of_down (s := v) (w := u)
  have hpass := v.changed_passedTo
  have hap := hpass.ap
  have hbeside := hpass.beside
  have hvu : v.trunk u = _ := State.trunk_setTrunk_self _ u _
  have hlines : v.changed.besidePass.lines = v.besidePass.lines := congrArg State.lines hbeside
  have hjournal : v.changed.besidePass.journal = v.besidePass.journal := congrArg State.journal hbeside
  generalize v.changed = t at *
  refine ⟨?_, hap, hlines, hjournal⟩
  rw [htrunk (by rw [hvu]; nofun), hvu]

/-- A trunk that enters IDLE is IDLE after a change, or OFFERING, its guard timer cancelled (R97, R115). -/
theorem State.changed_idling {a : Trunk} {n : Word32} (h : s.trunk u = a.idling n) :
    ((s.changed.trunk u).state = .idle ∨ (s.changed.trunk u).state = .offering) ∧
    (s.changed.trunk u).guardTimer = none := by
  rcases s.changed_trunk_cases u with hf | ⟨-, ho, hg⟩
  · rw [hf, h]
    exact ⟨.inl rfl, rfl⟩
  · exact ⟨.inr ho, hg⟩

/-- The state in which trunk `u`, in GUARD, has entered IDLE (R97). -/
def State.guardEnded (s : State) (u : TrunkNo) : State := s.setTrunk u ((s.trunk u).idling s.cc.now)

theorem State.guardEnded_trunk_self (s : State) (u : TrunkNo) :
    (s.guardEnded u).trunk u = (s.trunk u).idling s.cc.now := State.trunk_setTrunk_self _ _ _

theorem State.guardEnded_trunk_ne (s : State) (h : w ≠ u) : (s.guardEnded u).trunk w = s.trunk w :=
  State.trunk_setTrunk_ne _ _ h.symm

theorem State.guardEnded_mayOverflow : (s.guardEnded u).mayOverflow c ↔ s.mayOverflow c := by
  have htrunk (w : TrunkNo) : ((s.guardEnded u).trunk w).group = (s.trunk w).group ∧
      ((s.guardEnded u).trunk w).reachable = (s.trunk w).reachable := by
    by_cases hw : w = u
    · rw [hw, State.guardEnded_trunk_self]
      exact ⟨rfl, rfl⟩
    · rw [State.guardEnded_trunk_ne s hw]
      exact ⟨rfl, rfl⟩
  exact State.mayOverflow_congr rfl rfl (fun w => (htrunk w).1) (fun w => (htrunk w).2) rfl

/-- With every call in its place, a trunk whose GUARD ends is eligible-idle unless it is being reset (R84, R123). -/
theorem State.guardEnded_eligible (h : s.inPlace sc []) (hg : (s.trunk u).state = .guard_)
    (hd : (s.trunk u).draining = false) : ((s.guardEnded u).trunk u).eligible = true := by
  obtain ⟨hs, hl⟩ := (h.shaped u).reachable (by simp [hg]) (by simp [hg])
  rw [State.guardEnded_trunk_self]
  exact Trunk.eligible_iff.mpr ⟨hs, hl, rfl, hd⟩

/-- An offer on a trunk just IDLE can be told from its GUARD (R97, R108). -/
theorem State.offeredOn.of_guardEnded (h : (s.guardEnded u).offeredOn t u p c i) : s.offeredOn t u p c i :=
  h.of_base (by rw [State.guardEnded_trunk_self]; rfl) rfl rfl rfl

end Allocation

/-- Settles O35: `changed` after the trunk has entered IDLE, the steps of a pass, the judgement, and the reset. -/
theorem guardEndsAndDrainedTrunkResets : Obligations.GuardEndsAndDrainedTrunkResets := by
  refine ⟨fun s u hs hg ht => ⟨(s.guardEnded u).changed, exec_guardTimerExpiry hs hg ht, ?_, ?_, fun hq => ?_,
      fun p c i h hd hp hothers hh hc hi => ?_,
      fun h hd ho hothers => ⟨fun p c i before rest hq hc hi hm hb => ?_, fun hm => ?_⟩⟩,
    fun s u p c i h hc hi => ?_, fun s t h ht => ?_, fun s t ht => ?_, fun s u hs hd ht => ?_⟩
  · exact (State.changed_idling (s.guardEnded_trunk_self u)).1
  · exact (State.changed_idling (s.guardEnded_trunk_self u)).2
  · rw [State.changed_of_nil (s := s.guardEnded u) hq, State.judgeNoTrunk_trunk, State.guardEnded_trunk_self]
    rfl
  · have hin := State.inPlace_of_callsPlaced (sc := ⟨False, True⟩) h nofun
    have heligible := State.guardEnded_eligible hin hg hd
    refine (State.inPlace.changed_primary (s := s.guardEnded u) (hin.guardEnds hg)
      (by rw [State.guardEnded_trunk_self]; exact hp) heligible (fun w hw => ?_) hh hc.1 hi).of_guardEnded
    rw [State.guardEnded_trunk_ne s hw]
    exact hothers w
  · have hin := State.inPlace_of_callsPlaced (sc := ⟨False, True⟩) h nofun
    have heligible := State.guardEnded_eligible hin hg hd
    refine (State.inPlace.changed_overflow (s := s.guardEnded u) (hin.guardEnds hg)
      (by rw [State.guardEnded_trunk_self]; exact ho) heligible (fun w hw => ?_) hq hc.1 hi
      (State.guardEnded_mayOverflow.mpr hm) fun r hr e he => ?_).of_guardEnded
    · rw [State.guardEnded_trunk_ne s hw]
      exact hothers w
    · rw [State.guardEnded_mayOverflow]
      exact hb r hr e he
  · have hnone (w : TrunkNo) (hw : ((s.guardEnded u).trunk w).group = .primary) :
        ((s.guardEnded u).trunk w).eligible = false := by
      by_cases hwu : w = u
      · rw [hwu, State.guardEnded_trunk_self] at hw
        rw [show (s.trunk u).group = .primary from hw] at ho
        cases ho
      · rw [State.guardEnded_trunk_ne s hwu]
        exact hothers w
    have hquiet : (s.guardEnded u).noneQualifies := fun r hr e he => by
      rw [State.guardEnded_mayOverflow]
      exact hm r hr e he
    rw [State.changed_of_noneQualifies hnone hquiet, State.examine_trunk_frame, State.judgeNoTrunk_trunk,
      State.guardEnded_trunk_self, State.examine_queue, State.judgeNoTrunk_cc]
    exact ⟨rfl, rfl, rfl⟩
  · have hin := State.inPlace_of_callsPlaced (sc := ⟨False, True⟩) h nofun
    obtain ⟨hget, -, -⟩ := hc
    exact ⟨fun hu hh => hu.pass_primary hin hh hget hi, fun before rest hnone hu hq hm hb =>
      hu.pass_overflow hin hnone hq hget hi hm hb⟩
  · have hin := State.inPlace_of_callsPlaced (sc := ⟨False, True⟩) h nofun
    subst ht
    exact ⟨fun ⟨v, hg, he⟩ => hin.pass_queue hg he, fun ⟨v, hg, he⟩ => hin.pass_noneQualifies hg he⟩
  · have hj : s.judgedTo t := by
      rcases ht with rfl | rfl
      · exact s.changed_judgedTo
      · exact s.pass_judgedTo
    refine ⟨hj.flag_iff, hj.same, fun hn hf hr => ?_, fun hn hf hr => ⟨t.anyReachable, State.anyReachable_iff, ?_⟩,
      fun hne hr => ?_⟩
    · rw [hj.link_of_set hn hf, State.report_link, if_pos hr]
    · rw [hj.link_of_cleared hn hf, State.report_link, if_pos hr]
    · rw [hj.turned hne, State.report_link, if_neg (Nat.not_lt.mpr hr)]
  · have hreset := State.resetDrained_of_drained hd ht
    obtain ⟨htrunk, hap, hlines, hjournal⟩ := State.resetDrained_changed hd ht
    have hx := exec_trunkResetAfterDrain hs hd ht
    generalize (s.resetDrained u).changed = t at *
    refine ⟨t, hx, htrunk, ?_, ?_, ?_, hlines, hjournal⟩
    all_goals
      rw [hap]
      exact Table.get_set_self _ _ _

end Sys2Proof.Machine
end

section
/-! PARAM SET of the eight parameters of one value each, and the aging that a new period brings (R83, R186). -/

namespace Sys2Proof.Machine

open Sys2Proof

/-! ### Values of two octets (R186) -/

section Values

variable {s : State} {id hi lo : Octet} {value : List Octet} {p : Nat → Bool}

theorem valueOf_of_length_ne (h : value.length ≠ 2) : valueOf p value = none := by
  unfold valueOf
  split
  · exact absurd rfl h
  · rfl

theorem chainValueOf_of_length_ne (h : value.length ≠ 2) : chainValueOf value = none := by
  unfold chainValueOf
  split
  · exact absurd rfl h
  · rfl

/-- A PARAM SET of two octets is applied or refused by the range of its value (R186). -/
theorem State.running_setParam_valueOf {apply : Nat → State → State} (h : s.ready 0x02 [id, hi, lo]) :
    s.running (fun v => v.setParam id [hi, lo] (valueOf p) apply) = .next (if p (be16 hi lo) = true
      then apply (be16 hi lo) (s.answered ⟨0x02, .done, none, .nothing⟩)
      else s.answered ⟨0x02, .range, none, .nothing⟩) := by
  rw [State.running_of _ _ h.1]
  by_cases hp : p (be16 hi lo) = true
  · rw [if_pos hp, State.setParam_of_some h (if_pos hp)]
  · rw [if_neg hp, State.setParam_of_none h (if_neg hp)]

theorem State.running_setParam_chainValueOf {apply : Fin 16 → State → State} (h : s.ready 0x02 [id, hi, lo]) :
    s.running (fun v => v.setParam id [hi, lo] chainValueOf apply) = .next (if hp : be16 hi lo < 16
      then apply ⟨be16 hi lo, hp⟩ (s.answered ⟨0x02, .done, none, .nothing⟩)
      else s.answered ⟨0x02, .range, none, .nothing⟩) := by
  rw [State.running_of _ _ h.1]
  by_cases hp : be16 hi lo < 16
  · rw [dif_pos hp, State.setParam_of_some h (dif_pos hp)]
  · rw [dif_neg hp, State.setParam_of_none h (dif_neg hp)]

/-- A value that its check finds of another form is refused (R186). -/
theorem State.running_setParam_of_none {α : Type} {check : List Octet → Option α} {apply : α → State → State}
    (h : s.ready 0x02 (id :: value)) (hv : check value = none) :
    s.running (fun v => v.setParam id value check apply) = .next (s.answered ⟨0x02, .range, none, .nothing⟩) := by
  rw [State.running_of _ _ h.1, State.setParam_of_none h hv]

end Values

/-! ### Aging by a new period (R83) -/

section Aging

variable {s t : State} {p : LineNo} {c d : Call} {a : State × Bool} {ps : List LineNo}

/-- A call aged if its mark lies one period in the past (R83). -/
def State.agedIfDue (s : State) (c : Call) : Call := if s.agingDue s.cc.agingPeriod c then c.aged s.cc.now else c

/-- `t` is `s` with calls aged and moved in the queue: all else is as it was. -/
def State.agedFrom (s t : State) : Prop := t = { s with cc := { s.cc with calls := t.cc.calls, queue := t.cc.queue } }

theorem State.agedFrom.agedIfDue (h : s.agedFrom t) : t.agedIfDue = s.agedIfDue := by
  rw [h]
  rfl

/-- The aging of one place (R82, R83). -/
theorem State.ageIfDue_agedFrom (a : State × Bool) (p : LineNo) : a.1.agedFrom (State.ageIfDue a p).1 ∧
    (State.ageIfDue a p).1.cc.calls.get p = (a.1.cc.calls.get p).map a.1.agedIfDue ∧
    ∀ q, p ≠ q → (State.ageIfDue a p).1.cc.calls.get q = a.1.cc.calls.get q := by
  unfold State.ageIfDue
  cases hc : a.1.cc.calls.get p with
  | none => exact ⟨rfl, hc, fun _ _ => rfl⟩
  | some c =>
    dsimp only
    rw [Option.map_some, State.agedIfDue]
    by_cases hd : a.1.agingDue a.1.cc.agingPeriod c = true
    · rw [if_pos hd, if_pos hd]
      dsimp only
      by_cases he : c.effective = 0
      · rw [State.ageCall_of_some hc, if_pos he]
        exact ⟨rfl, Table.get_set_self _ _ _, fun q hq => Table.get_set_ne _ _ hq⟩
      · obtain ⟨r, -, hr⟩ := State.ageCall_of_effective hc he
        rw [hr]
        exact ⟨rfl, Table.get_set_self _ _ _, fun q hq => Table.get_set_ne _ _ hq⟩
    · rw [if_neg hd, if_neg hd]
      exact ⟨rfl, hc, fun _ _ => rfl⟩

/-- The calls of a list of places age once each (R83). -/
theorem State.foldl_ageIfDue_agedFrom (hn : ps.Nodup) : a.1.agedFrom (ps.foldl State.ageIfDue a).1 ∧
    ∀ p, (ps.foldl State.ageIfDue a).1.cc.calls.get p =
      if p ∈ ps then (a.1.cc.calls.get p).map a.1.agedIfDue else a.1.cc.calls.get p := by
  induction ps generalizing a with
  | nil => exact ⟨rfl, fun p => (if_neg List.not_mem_nil).symm⟩
  | cons q ps ih =>
    obtain ⟨hq, hn⟩ := List.nodup_cons.mp hn
    obtain ⟨hframe, hself, hne⟩ := State.ageIfDue_agedFrom a q
    obtain ⟨hrest, hcalls⟩ := ih (a := State.ageIfDue a q) hn
    rw [List.foldl_cons]
    refine ⟨?_, fun p => ?_⟩
    · unfold State.agedFrom at hframe hrest ⊢
      rw [hframe] at hrest
      exact hrest
    · rw [hcalls p, hframe.agedIfDue]
      by_cases hp : q = p
      · subst hp
        rw [if_neg hq, if_pos List.mem_cons_self, hself]
      · rw [hne p hp]
        simp only [List.mem_cons, Ne.symm hp, false_or]

/-- Where no call is due nothing ages (R83). -/
theorem State.foldl_ageIfDue_of_none (h : ∀ p c, a.1.cc.calls.get p = some c → a.1.agingDue a.1.cc.agingPeriod c = false) :
    ps.foldl State.ageIfDue a = a := by
  induction ps with
  | nil => rfl
  | cons p ps ih =>
    have hp : State.ageIfDue a p = a := by
      unfold State.ageIfDue
      split
      next c hc => rw [h p c hc]; rfl
      next => rfl
    rwa [List.foldl_cons, hp]

/-- The calls due by a new aging period aged, and whether one has moved (R83). -/
def State.ageAll (s : State) (n : Nat) : State × Bool :=
  (List.finRange 48).foldl State.ageIfDue ({ s with cc := { s.cc with agingPeriod := n } }, false)

/-- The state that a new aging period comes to: a pass follows if a call has moved (R83, R84). -/
def State.reaged (s : State) (n : Nat) : State := if (s.ageAll n).2 then (s.ageAll n).1.changed else (s.ageAll n).1

theorem State.ageAll_spec (s : State) (n : Nat) :
    (s.ageAll n).1 = { s with cc := { s.cc with
      agingPeriod := n, calls := (s.ageAll n).1.cc.calls, queue := (s.ageAll n).1.cc.queue } } ∧
    ∀ p, (s.ageAll n).1.cc.calls.get p =
      (s.cc.calls.get p).map fun c => if s.agingDue n c then c.aged s.cc.now else c := by
  obtain ⟨hframe, hcalls⟩ := State.foldl_ageIfDue_agedFrom
    (a := ({ s with cc := { s.cc with agingPeriod := n } }, false)) (List.nodup_finRange 48)
  have hcalls (p : LineNo) := (hcalls p).trans (if_pos (List.mem_finRange p))
  unfold State.ageAll
  generalize List.foldl State.ageIfDue _ (List.finRange 48) = r at *
  exact ⟨hframe, hcalls⟩

theorem State.ageAll_of_none {n : Nat} (h : ∀ p c, s.cc.calls.get p = some c → s.agingDue n c = false) :
    s.ageAll n = ({ s with cc := { s.cc with agingPeriod := n } }, false) :=
  State.foldl_ageIfDue_of_none (by exact h)

/-- What aging and the pass after it leave as it was, and what they make of a call (R83). -/
theorem State.reaged_spec (s : State) (n : Nat) : (s.reaged n).cc.agingPeriod = n ∧ (s.reaged n).journal = s.journal ∧
    (s.reaged n).lines = s.lines ∧ ∀ p c, s.cc.calls.get p = some c → ∃ d, (s.reaged n).cc.calls.get p = some d ∧
      (if s.agingDue n c then c.aged s.cc.now else c).passed d := by
  obtain ⟨hframe, hcalls⟩ := s.ageAll_spec n
  have hpass : (s.ageAll n).1.passedTo (s.reaged n) := by
    unfold State.reaged
    split
    · exact (s.ageAll n).1.changed_passedTo
    · exact .refl _
  have hbeside := hpass.beside
  rw [hframe] at hbeside
  generalize s.reaged n = t at *
  have hperiod : t.besidePass.cc.agingPeriod = n := by rw [hbeside]; rfl
  have hjournal : t.besidePass.journal = s.journal := by rw [hbeside]; rfl
  have hlines : t.besidePass.lines = s.lines := by rw [hbeside]; rfl
  refine ⟨hperiod, hjournal, hlines, fun p c hc => ?_⟩
  have hp := hcalls p
  rw [hc, Option.map_some] at hp
  exact hpass.calls p _ hp

theorem State.reaged_of_none {n : Nat} (h : ∀ p c, s.cc.calls.get p = some c → s.agingDue n c = false) :
    s.reaged n = { s with cc := { s.cc with agingPeriod := n } } := by
  unfold State.reaged
  rw [State.ageAll_of_none h]
  rfl

/-- A call that is due, after aging and a pass (R82, R87). -/
theorem Call.passed_aged {now : Word32} (h : (c.aged now).passed d) (hw : c.state = .waiting) :
    d.effective = c.effective - 1 ∧ (d.state = .waiting ∧ d.agingMark = some now ∨ d.state = .offered) := by
  refine ⟨by rw [Call.effective, h.identity, ← Call.aged_effective c now]; rfl, ?_⟩
  rcases h with rfl | ⟨-, h⟩ | ⟨hcon, -⟩
  · exact .inl ⟨hw, rfl⟩
  · exact .inr (by rw [h])
  · rw [show (c.aged now).state = c.state from rfl, hw] at hcon
    cases hcon

/-- A call that is not due, after a pass (R87, R141). -/
theorem Call.passed_mark (h : c.passed d) : d.effective = c.effective ∧ (d.agingMark = c.agingMark ∨ d.state = .offered) := by
  refine ⟨by rw [Call.effective, h.identity]; rfl, ?_⟩
  rcases h with rfl | ⟨-, h⟩ | ⟨-, h⟩
  · exact .inl rfl
  · exact .inr (by rw [h])
  · exact .inl (by rw [h])

end Aging

/-! ### The eight parameters (R186) -/

section Parameters

variable {s : State} {hi lo : Octet} {value : List Octet}

/-- PARAM SET of the aging period by its range (R83). -/
theorem exec_paramSetAgingPeriod (h : s.ready 0x02 [3, hi, lo]) : exec (.paramSetAgingPeriod [hi, lo]) s = .next
    (if be16 hi lo = 0 ∨ 5 ≤ be16 hi lo ∧ be16 hi lo ≤ 120
      then (s.answered ⟨0x02, .done, none, .nothing⟩).reaged (be16 hi lo)
      else s.answered ⟨0x02, .range, none, .nothing⟩) := by
  change execParamSetAgingPeriod [hi, lo] s = _
  rw [execParamSetAgingPeriod, State.running_setParam_valueOf h]
  simp only [Bool.or_eq_true, Bool.and_eq_true, decide_eq_true_eq]
  rfl

/-- A value of another length than two octets is refused (section 10.2). -/
theorem exec_paramSet_of_length_ne {i : Instr} {id : Octet} (hi : (id, i) ∈
    [(3, Instr.paramSetAgingPeriod value), (4, .paramSetEscalationThreshold value),
      (5, .paramSetOfferTime value), (6, .paramSetGuardTime value), (7, .paramSetMinimumHold value),
      (8, .paramSetHoldChain value), (9, .paramSetWarningChain value), (10, .paramSetJournalThreshold value)])
    (h : s.ready 0x02 (id :: value)) (hl : value.length ≠ 2) :
    exec i s = .next (s.answered ⟨0x02, .range, none, .nothing⟩) := by
  simp only [List.mem_cons, Prod.mk.injEq, List.not_mem_nil, or_false] at hi
  rcases hi with ⟨rfl, rfl⟩ | ⟨rfl, rfl⟩ | ⟨rfl, rfl⟩ | ⟨rfl, rfl⟩ | ⟨rfl, rfl⟩ | ⟨rfl, rfl⟩ | ⟨rfl, rfl⟩ | ⟨rfl, rfl⟩
  · exact State.running_setParam_of_none h (valueOf_of_length_ne hl)
  · exact State.running_setParam_of_none h (valueOf_of_length_ne hl)
  · exact State.running_setParam_of_none h (valueOf_of_length_ne hl)
  · exact State.running_setParam_of_none h (valueOf_of_length_ne hl)
  · exact State.running_setParam_of_none h (valueOf_of_length_ne hl)
  · exact State.running_setParam_of_none h (chainValueOf_of_length_ne hl)
  · exact State.running_setParam_of_none h (chainValueOf_of_length_ne hl)
  · exact State.running_setParam_of_none h (valueOf_of_length_ne hl)

end Parameters

/-- Settles O47: each parameter by its range; the aging period by `reaged`. -/
theorem parametersTakeValuesInRange : Obligations.ParametersTakeValuesInRange := by
  refine ⟨?_, fun s i id value hi h hl => exec_paramSet_of_length_ne hi h hl⟩
  rintro s hi lo n rfl
  refine ⟨fun h => ⟨fun hn => ⟨?_, fun hd => ?_⟩, fun hn => ?_⟩, fun h => ?_, fun h => ?_, fun h => ?_, fun h => ?_,
    fun h => ?_, fun h => ?_, fun h => ?_⟩
  · have hx := exec_paramSetAgingPeriod h
    rw [if_pos hn] at hx
    have hexact (hp : s.callsPlaced) :=
      (exec_inPlace (sc := ⟨False, True⟩) _ (State.inPlace_of_callsPlaced hp nofun) trivial hx).queueExact
    obtain ⟨hperiod, hjournal, hlines, hcalls⟩ :=
      State.reaged_spec (s.answered ⟨0x02, .done, none, .nothing⟩) (be16 hi lo)
    generalize State.reaged _ (be16 hi lo) = t at *
    refine ⟨t, hx, hperiod, hexact, hjournal, hlines, fun p c hc => ?_⟩
    obtain ⟨d, hd, hcd⟩ := hcalls p c hc
    change (if s.agingDue (be16 hi lo) c then c.aged s.cc.now else c).passed d at hcd
    refine ⟨d, hd, ?_, fun hdue => ?_, fun hdue => ?_⟩
    · split at hcd
      · exact (Call.aged_sameCall c s.cc.now).passed hcd
      · exact hcd.sameCall
    · rw [if_pos hdue] at hcd
      exact Call.passed_aged hcd (State.agingDue_waiting hdue)
    · rw [hdue] at hcd
      exact Call.passed_mark hcd
  · rw [exec_paramSetAgingPeriod h, if_pos hn, State.reaged_of_none (by exact hd)]
    rfl
  · rw [exec_paramSetAgingPeriod h, if_neg hn]
  · change execParamSetEscalationThreshold [hi, lo] s = _
    rw [execParamSetEscalationThreshold, State.running_setParam_valueOf h]
    simp only [Bool.and_eq_true, decide_eq_true_eq]
    rfl
  · change execParamSetOfferTime [hi, lo] s = _
    rw [execParamSetOfferTime, State.running_setParam_valueOf h]
    simp only [Bool.and_eq_true, decide_eq_true_eq]
    rfl
  · change execParamSetGuardTime [hi, lo] s = _
    rw [execParamSetGuardTime, State.running_setParam_valueOf h]
    simp only [Bool.and_eq_true, decide_eq_true_eq]
    rfl
  · change execParamSetMinimumHold [hi, lo] s = _
    rw [execParamSetMinimumHold, State.running_setParam_valueOf h]
    simp only [decide_eq_true_eq]
    rfl
  · change execParamSetHoldChain [hi, lo] s = _
    rw [execParamSetHoldChain, State.running_setParam_chainValueOf h]
    rfl
  · change execParamSetWarningChain [hi, lo] s = _
    rw [execParamSetWarningChain, State.running_setParam_chainValueOf h]
    rfl
  · change execParamSetJournalThreshold [hi, lo] s = _
    rw [execParamSetJournalThreshold, State.running_setParam_valueOf h]
    simp only [Bool.and_eq_true, decide_eq_true_eq]
    rfl

end Sys2Proof.Machine
end

section
/-! TRUNK SET: what it makes of its trunk before the judgement and the pass that follow (R103, R112). -/

namespace Sys2Proof.Machine

open Sys2Proof

section Serving

variable {s a D : State} {u w : TrunkNo} {v : TrunkService} {g : TrunkGroup} {st : TrunkState} {p q : LineNo} {c : Call}
  {r : CallRef}

/-! ### The octets of a TRUNK SET (R103, R191) -/

theorem indexOf_trunk (u : TrunkNo) : indexOf 8 (BitVec.ofNat 8 u.val) = some u := by
  refine indexOf_eq_some.mpr ?_
  have := u.isLt
  simp only [BitVec.toNat_ofNat]
  omega

theorem trunkServiceOf_number (v : TrunkService) : trunkServiceOf (BitVec.ofNat 8 v.number) = some v := by
  cases v <;> rfl

theorem trunkGroupOf_number (g : TrunkGroup) : trunkGroupOf (BitVec.ofNat 8 g.number) = some g := by
  cases g <;> rfl

theorem trunkServiceOf_eq_none {o : Octet} (h : 2 ≤ o.toNat) : trunkServiceOf o = none := by
  unfold trunkServiceOf
  split
  · omega
  · omega
  · rfl

theorem trunkGroupOf_eq_none {o : Octet} (h : 2 ≤ o.toNat) : trunkGroupOf o = none := by
  unfold trunkGroupOf
  split
  · omega
  · omega
  · rfl

/-- The answer DONE to a TRUNK SET. -/
def State.trunkSetDone (s : State) : State := s.answered ⟨0x24, .done, none, .nothing⟩

/-- A trunk with a new service field and group (R103). -/
def Trunk.booked (x : Trunk) (v : TrunkService) (g : TrunkGroup) : Trunk := { x with service := v, group := g }

theorem exec_trunkSet_range {o1 o2 o3 : Octet} (h : s.ready 0x24 [o1, o2, o3])
    (ho : 8 ≤ o1.toNat ∨ 2 ≤ o2.toNat ∨ 2 ≤ o3.toNat) :
    exec (.trunkSet [o1, o2, o3]) s = .next (s.answered ⟨0x24, .range, none, .nothing⟩) := by
  change execTrunkSet [o1, o2, o3] s = _
  rw [execTrunkSet, State.running_of _ _ h.1, State.serveOnce_ready h (by rfl)]
  dsimp only
  split
  next h1 h2 h3 =>
    rcases ho with ho | ho | ho
    · rw [indexOf_eq_none ho] at h1
      cases h1
    · rw [trunkServiceOf_eq_none ho] at h2
      cases h2
    · rw [trunkGroupOf_eq_none ho] at h3
      cases h3
  next => rfl

/-- A TRUNK SET of octets in range, by its check (R103). -/
theorem exec_trunkSet_eq (h : s.ready 0x24 [BitVec.ofNat 8 u.val, BitVec.ofNat 8 v.number, BitVec.ofNat 8 g.number]) :
    exec (.trunkSet [BitVec.ofNat 8 u.val, BitVec.ofNat 8 v.number, BitVec.ofNat 8 g.number]) s = .next
      (if v = .outOfService ∧ ((s.trunk u).state = .connected ∨ (s.trunk u).stack ≠ [])
        then s.answered ⟨0x24, .inUse, none, .nothing⟩ else (s.mapLink Link.serving).applyTrunkSet u v g) := by
  change execTrunkSet _ s = _
  rw [execTrunkSet, State.running_of _ _ h.1, State.serveOnce_ready h (by rfl)]
  dsimp only
  rw [indexOf_trunk, trunkServiceOf_number, trunkGroupOf_number]
  rfl

theorem State.applyTrunkSet_eq (s : State) (u : TrunkNo) (v : TrunkService) (g : TrunkGroup) :
    (s.mapLink Link.serving).applyTrunkSet u v g =
      if (s.trunk u).changedBy v g
        then ((s.trunkSetDone.setTrunk u ((s.trunkSetDone.trunk u).booked v g)).applyService u v).changed
        else (s.trunkSetDone.setTrunk u ((s.trunkSetDone.trunk u).booked v g)).applyService u v := rfl

/-! ### The table (R103) -/

/-- A trunk as it enters the state that the table gives it (R97, R103). -/
def Trunk.entering (x : Trunk) (st : TrunkState) (now : Word32) : Trunk :=
  if st = .idle then x.idling now else if st = .outOfService then x.removed else { x with state := st }

/-- `D` is `a` after TRUNK SET has taken trunk `u` to state `st`, before its report: other trunks, the output list, the flag
and what no call has written are as they were, and every call is still live (R103). -/
structure State.servedTo (a D : State) (u : TrunkNo) (v : TrunkService) (g : TrunkGroup) (st : TrunkState) : Prop where
  beside : D.besidePass = a.besidePass
  link : D.link = a.link
  flag : D.ti.noTrunk = a.ti.noTrunk
  others : ∀ w, w ≠ u → D.trunk w = a.trunk w
  trunk : D.trunk u = { ((a.trunk u).booked v g).entering st a.cc.now with
    transmit := (D.trunk u).transmit, overruns := (D.trunk u).overruns }
  calls : ∀ p c, a.cc.calls.get p = some c → ∃ d, D.cc.calls.get p = some d ∧ c.sameCall d
  quiet : st ≠ .outOfService → D = a.setTrunk u (((a.trunk u).booked v g).entering st a.cc.now)

/-- A trunk record written to the state of the table. -/
theorem State.servedTo_entering (a : State) (u : TrunkNo) (v : TrunkService) (g : TrunkGroup) (st : TrunkState) :
    a.servedTo (a.setTrunk u (((a.trunk u).booked v g).entering st a.cc.now)) u v g st where
  beside := rfl
  link := rfl
  flag := rfl
  others w hw := State.trunk_setTrunk_ne _ _ hw.symm
  trunk := by rw [State.trunk_setTrunk_self]
  calls p c hc := ⟨c, hc, rfl, rfl, rfl, rfl, rfl, fun _ => rfl⟩
  quiet _ := rfl

/-- A call handed back keeps its identity, and the others are as they were (R81). -/
theorem State.handBack_call (hc : s.cc.calls.get p = some c) (b : Bool) :
    ∃ d, (s.handBack r b).cc.calls.get p = some d ∧ c.sameCall d := by
  have hself (x : Call) : x.sameCall x := ⟨rfl, rfl, rfl, rfl, rfl, fun _ => rfl⟩
  unfold State.handBack
  split
  next q hq =>
    by_cases hpq : q = p
    · subst hpq
      rw [State.mapCall_of_some hc]
      rcases State.enterWaiting_of_some (s := s.setCall q (some _)) (Table.get_set_self _ _ _) with ⟨he, -⟩ | ⟨i, -, -, he⟩
      · rw [he, State.enqueue_calls]
        exact ⟨_, Table.get_set_self _ _ _, rfl, rfl, rfl, rfl, rfl, fun _ => rfl⟩
      · rw [he, State.enqueue_calls]
        exact ⟨_, Table.get_set_self _ _ _, rfl, rfl, rfl, rfl, rfl, fun _ => rfl⟩
    · rw [(State.enterWaiting_ne _ hpq).1]
      refine ⟨c, ?_, hself c⟩
      obtain ⟨d, hd, -⟩ := State.placeOfRef_spec hq
      rw [State.mapCall_of_some hd]
      exact (Table.get_set_ne _ _ hpq).trans hc
  next => exact ⟨c, hc, hself c⟩

theorem State.enterWaiting_besidePass (s : State) (p : LineNo) : (s.enterWaiting p).besidePass = s.besidePass := by
  cases hc : s.cc.calls.get p with
  | none => rw [State.enterWaiting, hc]
  | some c =>
    rcases State.enterWaiting_of_some hc with ⟨he, -⟩ | ⟨i, -, -, he⟩ <;> rw [he]
    · rw [State.enqueue_of_some (c := c.toWaiting s.cc.now) (Table.get_set_self _ _ _)]
      rfl
    · rw [State.enqueue_of_some (c := c.toWaiting s.cc.now) (Table.get_set_self _ _ _)]
      rfl

theorem State.handBack_besidePass (s : State) (r : CallRef) (b : Bool) : (s.handBack r b).besidePass = s.besidePass := by
  unfold State.handBack
  split
  next q hq =>
    obtain ⟨d, hd, -⟩ := State.placeOfRef_spec hq
    rw [State.enterWaiting_besidePass, State.mapCall_of_some hd]
    rfl
  next => rfl

/-- The record of a trunk whose offer TRUNK SET withdraws (R112). -/
def Trunk.withdrawn (x : Trunk) (r : CallRef) : Trunk := (x.delivered [.withdraw r .outOfService]).removed

/-- TRUNK SET of an OFFERING trunk OUT OF SERVICE: WITHDRAW, the trunk out, its call handed back, the report (R103, R112). -/
theorem State.applyService_withdraw (hs : (a.trunk u).state = .offering) (hr : (a.trunk u).current = some r) :
    (a.setTrunk u ((a.trunk u).booked .outOfService g)).applyService u .outOfService =
      ((a.setTrunk u (((a.trunk u).booked .outOfService g).withdrawn r)).handBack r false).report
        (.trunkState u .outOfService .service) := by
  have hsend : ((a.setTrunk u ((a.trunk u).booked .outOfService g)).sendDesk u (.withdraw r .outOfService)).removeTrunk u =
      a.setTrunk u (((a.trunk u).booked .outOfService g).withdrawn r) := by
    rw [State.sendDesk_eq_mapTrunk, State.removeTrunk_eq, State.trunk_mapTrunk_self, State.trunk_setTrunk_self,
      State.mapTrunk, State.setTrunk_setTrunk, State.setTrunk_setTrunk]
    rfl
  have hstate : ((a.setTrunk u (((a.trunk u).booked .outOfService g).withdrawn r)).handBack r false).trunk u =
      ((a.trunk u).booked .outOfService g).withdrawn r := by
    rw [State.trunk, State.handBack_ti]
    exact State.trunk_setTrunk_self _ _ _
  unfold State.applyService
  dsimp only
  rw [State.trunk_setTrunk_self, show ((a.trunk u).booked .outOfService g).state = .offering from hs,
    show ((a.trunk u).booked .outOfService g).current = some r from hr]
  dsimp only
  rw [hsend, State.reportService, hstate]
  rfl

/-- Where the table says no change, none is made (R103). -/
theorem State.applyService_none (h : (a.trunk u).tableState v = none) :
    (a.setTrunk u ((a.trunk u).booked v g)).applyService u v = a.setTrunk u ((a.trunk u).booked v g) := by
  have hstate : ((a.trunk u).booked v g).state = (a.trunk u).state := rfl
  unfold Trunk.tableState at h
  unfold State.applyService
  dsimp only
  rw [State.trunk_setTrunk_self, hstate]
  cases v with
  | inService =>
    have hs : (a.trunk u).state ≠ .outOfService := fun hs => by simp [hs] at h
    generalize (a.trunk u).state = x at hs
    cases x with
    | outOfService => exact absurd rfl hs
    | linkDown | idle | guard_ | offering | connected => rfl
  | outOfService =>
    have hs : (a.trunk u).state = .outOfService := by
      by_contra hs
      simp [hs] at h
    rw [hs]

/-- A trunk taken OUT OF SERVICE, and the report (R103). -/
theorem State.remove_reportService (s : State) (u : TrunkNo) : (s.removeTrunk u).reportService u =
    (s.setTrunk u (s.trunk u).removed).report (.trunkState u .outOfService .service) := by
  rw [State.removeTrunk_eq, State.reportService, State.trunk_setTrunk_self]
  rfl

/-- A trunk not OFFERING a call is taken OUT OF SERVICE as it is (R103). -/
theorem State.applyService_remove (h : (a.trunk u).state ≠ .outOfService)
    (hn : (a.trunk u).state = .offering → (a.trunk u).current = none) :
    (a.setTrunk u ((a.trunk u).booked .outOfService g)).applyService u .outOfService =
      (a.setTrunk u ((a.trunk u).booked .outOfService g).removed).report (.trunkState u .outOfService .service) := by
  have hremove := (a.setTrunk u ((a.trunk u).booked .outOfService g)).remove_reportService u
  rw [State.trunk_setTrunk_self, State.setTrunk_setTrunk] at hremove
  have hstate : ((a.trunk u).booked .outOfService g).state = (a.trunk u).state := rfl
  have hcurrent : ((a.trunk u).booked .outOfService g).current = (a.trunk u).current := rfl
  rw [← hremove]
  unfold State.applyService
  dsimp only
  rw [State.trunk_setTrunk_self, hstate, hcurrent]
  generalize (a.trunk u).state = x at h hn
  cases x with
  | outOfService => exact absurd rfl h
  | offering => rw [hn rfl]
  | linkDown | idle | guard_ | connected => rfl

/-- A trunk taken IN SERVICE enters IDLE, or LINK DOWN while its link is not UP, and the report (R97, R103). -/
theorem State.applyService_restore (h : (a.trunk u).state = .outOfService) :
    (a.setTrunk u ((a.trunk u).booked .inService g)).applyService u .inService =
      (a.setTrunk u (((a.trunk u).booked .inService g).entering
          (if (a.trunk u).link = .up then .idle else .linkDown) a.cc.now)).report
        (.trunkState u (if (a.trunk u).link = .up then .idle else .linkDown) .service) := by
  have hstate : ((a.trunk u).booked .inService g).state = (a.trunk u).state := rfl
  have hlink : ((a.trunk u).booked .inService g).link = (a.trunk u).link := rfl
  unfold State.applyService
  dsimp only
  rw [State.trunk_setTrunk_self, hstate, h, hlink]
  dsimp only
  by_cases hl : (a.trunk u).link = .up
  · rw [if_pos hl, if_pos hl, State.reportService, State.enterIdle_eq, State.trunk_setTrunk_self, State.setTrunk_setTrunk,
      State.trunk_setTrunk_self]
    rfl
  · rw [if_neg hl, if_neg hl, State.reportService, State.mapTrunk, State.trunk_setTrunk_self, State.setTrunk_setTrunk,
      State.trunk_setTrunk_self]
    rfl

/-- A withdrawn offer leaves its trunk OUT OF SERVICE, and every call live (R103, R112). -/
theorem State.servedTo_withdrawn (a : State) (u : TrunkNo) (g : TrunkGroup) (r : CallRef) :
    a.servedTo ((a.setTrunk u (((a.trunk u).booked .outOfService g).withdrawn r)).handBack r false) u .outOfService g
      .outOfService := by
  have htrunk (w : TrunkNo) : ((a.setTrunk u (((a.trunk u).booked .outOfService g).withdrawn r)).handBack r false).trunk w =
      (a.setTrunk u (((a.trunk u).booked .outOfService g).withdrawn r)).trunk w := by
    rw [State.trunk, State.handBack_ti]
    rfl
  refine ⟨State.handBack_besidePass _ _ _, State.handBack_link _ _ _, ?_, fun w hw => ?_, ?_, fun p c hc =>
    State.handBack_call (s := a.setTrunk u _) hc false, fun h => absurd rfl h⟩
  · rw [State.handBack_ti]
    rfl
  · rw [htrunk]
    exact State.trunk_setTrunk_ne _ _ hw.symm
  · rw [htrunk, State.trunk_setTrunk_self, Trunk.withdrawn, Trunk.delivered_frame]
    rfl

/-- Where the table gives a state, the trunk enters it, and the report is made (R103). -/
theorem State.applyService_some (h : (a.trunk u).tableState v = some st) :
    ∃ D, (a.setTrunk u ((a.trunk u).booked v g)).applyService u v = D.report (.trunkState u st .service) ∧
      a.servedTo D u v g st := by
  unfold Trunk.tableState at h
  cases v with
  | inService =>
    dsimp only at h
    split at h
    next hs =>
      obtain rfl := Option.some.inj h
      exact ⟨_, State.applyService_restore hs, State.servedTo_entering _ _ _ _ _⟩
    next => cases h
  | outOfService =>
    dsimp only at h
    split at h
    next => cases h
    next hs =>
      obtain rfl := Option.some.inj h
      by_cases hw : (a.trunk u).state = .offering ∧ (a.trunk u).current ≠ none
      · obtain ⟨ho, hr⟩ := hw
        obtain ⟨r, hr⟩ := Option.ne_none_iff_exists'.mp hr
        exact ⟨_, State.applyService_withdraw ho hr, State.servedTo_withdrawn a u g r⟩
      · refine ⟨_, State.applyService_remove hs fun ho => ?_, State.servedTo_entering a u .outOfService g .outOfService⟩
        exact not_not.mp fun hn => hw ⟨ho, hn⟩

end Serving

end Sys2Proof.Machine
end

section
/-! TRUNK SET, with the judgement and the pass that follow a change (R84 to R86, R103, R112, R121). -/

namespace Sys2Proof.Machine

open Sys2Proof

section Served

variable {s t a D w : State} {u : TrunkNo} {v : TrunkService} {g : TrunkGroup} {st : TrunkState} {p : LineNo} {c : Call}
  {i : CallIdentity} {more : List OutputItem} {r : Report}

/-! ### What every TRUNK SET that passes its checks leaves (R103) -/

/-- `t` is `s` after a TRUNK SET of `u` answered DONE: its service and group written, and no call ended (R103). -/
structure State.trunkSetTo (s t : State) (u : TrunkNo) (v : TrunkService) (g : TrunkGroup) : Prop where
  beside : t.besidePass = s.trunkSetDone.besidePass
  output : s.trunkSetDone.link.output <+: t.link.output
  own : (t.trunk u).service = v ∧ (t.trunk u).group = g ∧ (t.trunk u).link = (s.trunk u).link ∧
    (t.trunk u).stack = (s.trunk u).stack
  others : ∀ w, w ≠ u → (t.trunk w).service = (s.trunk w).service ∧ (t.trunk w).group = (s.trunk w).group ∧
    (t.trunk w).link = (s.trunk w).link ∧ (t.trunk w).stack = (s.trunk w).stack
  calls : ∀ p c, s.cc.calls.get p = some c → ∃ d, t.cc.calls.get p = some d ∧ c.sameCall d

/-- A pass goes on from there (R84, R121). -/
theorem State.trunkSetTo.passed (h : s.trunkSetTo w u v g) (hp : w.passedTo t) : s.trunkSetTo t u v g := by
  have hsame (x : TrunkNo) : (t.trunk x).service = (w.trunk x).service ∧ (t.trunk x).group = (w.trunk x).group ∧
      (t.trunk x).link = (w.trunk x).link ∧ (t.trunk x).stack = (w.trunk x).stack := by
    obtain ⟨hframe, -⟩ := hp.trunks x
    rw [hframe]
    exact ⟨rfl, rfl, rfl, rfl⟩
  refine ⟨hp.beside.trans h.beside, h.output.trans hp.output, ?_, fun x hx => ?_, fun p c hc => ?_⟩
  · obtain ⟨h1, h2, h3, h4⟩ := hsame u
    rw [h1, h2, h3, h4]
    exact h.own
  · obtain ⟨h1, h2, h3, h4⟩ := hsame x
    rw [h1, h2, h3, h4]
    exact h.others x hx
  · obtain ⟨b, hb, hcb⟩ := h.calls p c hc
    obtain ⟨d, hd, hbd⟩ := hp.calls p b hb
    exact ⟨d, hd, hcb.passed hbd⟩

/-- The group and service alone written (R103). -/
theorem State.trunkSetTo_booked (s : State) (u : TrunkNo) (v : TrunkService) (g : TrunkGroup) :
    s.trunkSetTo (s.trunkSetDone.setTrunk u ((s.trunk u).booked v g)) u v g where
  beside := rfl
  output := List.prefix_rfl
  own := by
    rw [State.trunk_setTrunk_self]
    exact ⟨rfl, rfl, rfl, rfl⟩
  others w hw := by
    rw [State.trunk_setTrunk_ne _ _ hw.symm]
    exact ⟨rfl, rfl, rfl, rfl⟩
  calls p c hc := ⟨c, hc, rfl, rfl, rfl, rfl, rfl, fun _ => rfl⟩

theorem Trunk.entering_fields (x : Trunk) (st : TrunkState) (now : Word32) : (x.entering st now).state = st ∧
    (x.entering st now).service = x.service ∧ (x.entering st now).group = x.group ∧
    (x.entering st now).link = x.link ∧ (x.entering st now).stack = x.stack ∧ (x.entering st now).draining = x.draining := by
  unfold Trunk.entering
  split
  next h => exact ⟨h.symm, rfl, rfl, rfl, rfl, rfl⟩
  next =>
    split
    next h => exact ⟨h.symm, rfl, rfl, rfl, rfl, rfl⟩
    next => exact ⟨rfl, rfl, rfl, rfl, rfl, rfl⟩

namespace State.servedTo

/-- A trunk taken to the state of the table, and its report (R103). -/
theorem trunkSetTo (h : s.trunkSetDone.servedTo D u v g st) (r : Report) : s.trunkSetTo (D.report r) u v g := by
  have htrunk (x : TrunkNo) : (D.report r).trunk x = D.trunk x := by rw [State.trunk, State.report_ti]; rfl
  refine ⟨(State.report_besidePass D r).trans h.beside, ?_, ?_, fun x hx => ?_, fun p c hc => ?_⟩
  · rw [← h.link]
    exact State.output_prefix_report D r
  · obtain ⟨-, h1, h2, h3, h4, -⟩ := ((s.trunk u).booked v g).entering_fields st s.cc.now
    rw [htrunk, h.trunk]
    exact ⟨h1, h2, h3, h4⟩
  · rw [htrunk, h.others x hx]
    exact ⟨rfl, rfl, rfl, rfl⟩
  · rw [State.report_cc]
    exact h.calls p c hc

/-- The state that the table gives, or OFFERING where that is IDLE (R84, R103). -/
theorem changed_state (h : a.servedTo D u v g st) (r : Report) :
    (((D.report r).changed.trunk u).state = st ∨ st = .idle ∧ ((D.report r).changed.trunk u).state = .offering) ∧
      (st = .outOfService → ((D.report r).changed.trunk u).current = none ∧
        ((D.report r).changed.trunk u).offerTimer = none ∧ ((D.report r).changed.trunk u).guardTimer = none ∧
        ((D.report r).changed.trunk u).idleSince = none) := by
  have htrunk : (D.report r).trunk u = D.trunk u := by rw [State.trunk, State.report_ti]; rfl
  obtain ⟨hstate, -⟩ := ((a.trunk u).booked v g).entering_fields st a.cc.now
  rcases (D.report r).changed_trunk_cases u with hf | ⟨he, ho, -⟩
  · rw [hf, htrunk, h.trunk]
    refine ⟨.inl hstate, ?_⟩
    rintro rfl
    exact ⟨rfl, rfl, rfl, rfl⟩
  · rw [htrunk, h.trunk] at he
    obtain ⟨-, -, hi, -⟩ := Trunk.eligible_iff.mp he
    have hst : st = .idle := hstate.symm.trans hi
    refine ⟨.inr ⟨hst, ho⟩, ?_⟩
    rw [hst]
    nofun

/-! ### The reports of a change (R103, R121, R181) -/

/-- A change of state is reported (R103), and the flag then stands as the condition does (R121). -/
theorem changed_reports {r : Report} (h : a.servedTo D u v g st)
    (ho : (D.report r).changed.link.output = a.link.output ++ more) :
    (a.link.reports < 16 → .report r ∈ more) ∧
      (16 ≤ a.link.reports → (D.report r).changed.link.reportLoss = true) ∧
      ((D.report r).changed.ti.noTrunk = true ↔ (D.report r).changed.cc.queue ≠ [] ∧
        ∀ w, ¬ (((D.report r).changed.trunk w).service = .inService ∧ ((D.report r).changed.trunk w).link = .up)) ∧
      (a.ti.noTrunk = false → (D.report r).changed.ti.noTrunk = true → a.link.reports < 15 →
        .report (.noTrunk (D.report r).changed.cc.queue.length) ∈ more) ∧
      (a.ti.noTrunk = true → (D.report r).changed.ti.noTrunk = false → a.link.reports < 15 → ∃ available : Bool,
        (available = true ↔ ∃ w, ((D.report r).changed.trunk w).service = .inService ∧
          ((D.report r).changed.trunk w).link = .up) ∧ .report (.trunksRestored available) ∈ more) := by
  have hfirst (hr : a.link.reports < 16) : (D.report r).link.output = a.link.output ++ [.report r] := by
    rw [State.report_output (by rw [h.link]; exact hr), h.link]
  have hreports (hr : a.link.reports < 15) : (D.report r).link.reports < 16 := by
    rw [State.report_reports (by rw [h.link]; omega), h.link]
    omega
  have hflag : (D.report r).ti.noTrunk = a.ti.noTrunk := by rw [State.report_ti, h.flag]
  have hprefix := (D.report r).changed_passedTo.output
  have hjudged := (D.report r).changed_judgedTo
  have hlost := State.changed_keeps_loss (s := D.report r)
  have hsecond {q : Report} (hr : a.link.reports < 15) (hl : (D.report r).changed.link = ((D.report r).report q).link) :
      .report q ∈ more := by
    rw [hl, State.report_output (hreports hr), hfirst (by omega), List.append_assoc] at ho
    rw [← List.append_cancel_left ho]
    simp
  generalize (D.report r).changed = t at *
  refine ⟨fun hr => ?_, fun hr => hlost (State.report_lost (by rw [h.link]; exact hr)), hjudged.flag_iff, fun hn ht hr => ?_,
    fun hn ht hr => ⟨t.anyReachable, State.anyReachable_iff, ?_⟩⟩
  · rw [hfirst hr, ho, List.prefix_append_right_inj] at hprefix
    exact hprefix.subset (List.mem_singleton_self _)
  · exact hsecond hr (hjudged.link_of_set (hflag.trans hn) ht)
  · exact hsecond hr (hjudged.link_of_cleared (hflag.trans hn) ht)

/-! ### A trunk that enters IDLE (R84 to R86, R97) -/

section Idle

variable (h : a.servedTo D u v g .idle) (r : Report)

include h

theorem trunk_idle : (D.report r).trunk u = ((a.trunk u).booked v g).idling a.cc.now := by
  have htrunk : (D.report r).trunk u = D.trunk u := by rw [State.trunk, State.report_ti]; rfl
  rw [htrunk, h.quiet (by nofun), State.trunk_setTrunk_self]
  rfl

theorem cc_idle : (D.report r).cc = a.cc := by
  rw [State.report_cc, h.quiet (by nofun)]
  rfl

theorem trunk_other {x : TrunkNo} (hx : x ≠ u) : (D.report r).trunk x = a.trunk x := by
  have htrunk : (D.report r).trunk x = D.trunk x := by rw [State.trunk, State.report_ti]; rfl
  rw [htrunk, h.others x hx]

/-- With no call waiting, or while it is being reset, a trunk that enters IDLE stays so (R97, R123). -/
theorem changed_idle (hq : a.cc.queue = [] ∨ (a.trunk u).draining = true) :
    ((D.report r).changed.trunk u).state = .idle ∧ ((D.report r).changed.trunk u).idleSince = some a.cc.now := by
  have htrunk := h.trunk_idle r
  rcases hq with hq | hd
  · have hempty : (D.report r).cc.queue = [] := by rw [h.cc_idle r, hq]
    rw [State.changed_of_nil hempty, State.judgeNoTrunk_trunk, htrunk]
    exact ⟨rfl, rfl⟩
  · rcases (D.report r).changed_trunk_cases u with hf | ⟨he, -⟩
    · rw [hf, htrunk]
      exact ⟨rfl, rfl⟩
    · rw [htrunk] at he
      obtain ⟨-, -, -, hn⟩ := Trunk.eligible_iff.mp he
      cases hd.symm.trans hn

/-- A trunk that enters IDLE, alone eligible-idle, takes the head of the queue, if that may go to its group (R85, R86). -/
theorem changed_offeredOn {sc : Scope} (hin : (D.report r).inPlace sc []) (hv : v = .inService) (hl : (a.trunk u).link = .up)
    (hd : (a.trunk u).draining = false)
    (hothers : ∀ w, w ≠ u → (a.trunk w).group = .primary ∨ g = .overflow → (a.trunk w).eligible = false)
    (hh : a.cc.queue.head? = some c.ref) (hc : a.cc.calls.get p = some c) (hi : c.identity = some i)
    (hm : g = .primary ∨ (a.setTrunk u ((a.trunk u).booked v g)).mayOverflow c) :
    (a.setTrunk u ((a.trunk u).booked v g)).offeredOn (D.report r).changed u p c i := by
  have htrunk := h.trunk_idle r
  have hcc := h.cc_idle r
  have hgroup : ((D.report r).trunk u).group = g := by rw [htrunk]; rfl
  have heligible : ((D.report r).trunk u).eligible = true := by
    rw [htrunk]
    exact Trunk.eligible_iff.mpr ⟨hv, hl, rfl, hd⟩
  have hoffered : (D.report r).offeredOn (D.report r).changed u p c i := by
    cases g with
    | primary =>
      refine State.inPlace.changed_primary hin hgroup heligible (fun w hw hg => ?_) (by rw [hcc]; exact hh)
        (by rw [hcc]; exact hc) hi
      rw [h.trunk_other r hw] at hg ⊢
      exact hothers w hw (.inl hg)
    | overflow =>
      obtain ⟨rest, hq⟩ := List.head?_eq_some_iff.mp hh
      have hmay : (D.report r).mayOverflow c := by
        refine (State.mayOverflow_congr rfl rfl (fun w => ?_) (fun w => ?_) (by rw [hcc]; rfl)).mpr
          (hm.resolve_left (by nofun))
        all_goals
          by_cases hw : w = u
          · rw [hw, htrunk, State.trunk_setTrunk_self]
            rfl
          · rw [h.trunk_other r hw, State.trunk_setTrunk_ne _ _ (Ne.symm hw)]
      refine State.inPlace.changed_overflow (before := []) (rest := rest) hin hgroup heligible (fun w hw => ?_)
        (by rw [hcc]; exact hq) (by rw [hcc]; exact hc) hi hmay (by nofun)
      rw [h.trunk_other r hw]
      exact hothers w hw (.inr rfl)
  have hbase : (D.report r).ti.offerTime = a.ti.offerTime ∧ (D.report r).ap = a.ap := by
    rw [State.report_ti, State.report_ap, h.quiet (by nofun)]
    exact ⟨rfl, rfl⟩
  refine hoffered.of_base ?_ hbase.1 (by rw [hcc]; rfl) (by rw [hbase.2]; rfl)
  rw [htrunk, State.trunk_setTrunk_self]
  rfl

end Idle

end State.servedTo

/-! ### An offer withdrawn (R80, R81, R112) -/

/-- The withdrawn call in the queue again or offered elsewhere, its desk told (R112). -/
theorem State.withdrawn_changed (hc : a.cc.calls.get p = some c) (hp : a.placeOfRef c.ref = some p)
    (ho : c.state = .offered)
    (hw : w = ((a.setTrunk u (((a.trunk u).booked .outOfService g).withdrawn c.ref)).handBack c.ref false).report r) :
    ∃ d, w.changed.cc.calls.get p = some d ∧ c.sameCall d ∧ d.offerCount = c.offerCount ∧
      d.effective = c.effective ∧ d.rescued = c.rescued ∧
      (d.state = .waiting ∧ d.trunk = none ∧ c.ref ∈ w.changed.cc.queue ∧ d.queueEntry = some a.cc.now ∧
          d.agingMark = some a.cc.now ∨ d.state = .offered ∧ d.trunk ≠ some u) ∧
      w.changed.ap.players.get p = a.ap.players.get p ∧
      ((a.trunk u).link = .up → (a.trunk u).transmit.length < 8 → ∃ after,
        (w.changed.trunk u).transmit = (a.trunk u).transmit ++ .withdraw c.ref .outOfService :: after) := by
  let y := ((a.trunk u).booked .outOfService g).withdrawn c.ref
  obtain ⟨q, hq, hback⟩ := State.handBack_offered (s := a.setTrunk u y) (counted := false) hp hc ho
  rw [hback] at hw
  have hcc : w.cc = { a.cc with calls := a.cc.calls.set p (some (c.returned false a.cc.now)), queue := q } := by
    rw [hw, State.report_cc]
    rfl
  have hap : w.ap = a.ap := by
    rw [hw, State.report_ap]
    rfl
  have hwu : w.trunk u = y := by
    rw [hw, State.trunk, State.report_ti]
    exact State.trunk_setTrunk_self _ _ _
  have hget : w.cc.calls.get p = some (c.returned false a.cc.now) := by
    rw [hcc]
    exact Table.get_set_self _ _ _
  have hplace : w.placeOfRef c.ref = some p := by
    rw [← hp]
    refine State.placeOfRef_congr (fun k => ?_) _
    by_cases hk : p = k
    · subst hk
      rw [hget, hc]
      rfl
    · rw [hcc, Table.get_set_ne _ _ hk]
  have hout : (w.trunk u).eligible = false := by
    rw [hwu, Bool.eq_false_iff]
    intro he
    obtain ⟨-, -, hi, -⟩ := Trunk.eligible_iff.mp he
    cases hi
  obtain ⟨d, hd, hcall, hcount, heff, hres, hwhere, hplayer⟩ :=
    State.changed_returned (u := u) hget hplace (by rw [hcc]; exact hq) hout
  obtain ⟨-, ⟨after, hafter⟩, -⟩ := w.changed_passedTo.trunks u
  refine ⟨d, hd, hcall, hcount, heff, hres, hwhere, hplayer.trans (by rw [hap]), fun hl hr => ⟨after, ?_⟩⟩
  have hy : y.transmit = (a.trunk u).transmit ++ [.withdraw c.ref .outOfService] := by
    change (((a.trunk u).booked .outOfService g).delivered _).transmit = _
    rw [Trunk.delivered_one (by exact hl) (by exact hr)]
    rfl
  rw [← hafter, hwu, hy, List.append_assoc]
  rfl

/-! ### Where the table says no change (R103) -/

/-- The trunk goes on; an IDLE one may take an offer, if its group or service field has changed (R84, R103). -/
theorem State.booked_goes_on (b : Bool)
    (hw : w = a.setTrunk u ((a.trunk u).booked v g)) (ht : t = if b then w.changed else w) :
    w.passedTo t ∧
      ((a.trunk u).state ≠ .idle → (t.trunk u).state = (a.trunk u).state ∧ (t.trunk u).current = (a.trunk u).current ∧
        (t.trunk u).offerTimer = (a.trunk u).offerTimer ∧ (t.trunk u).guardTimer = (a.trunk u).guardTimer) ∧
      ((a.trunk u).state = .idle → (t.trunk u).state = .idle ∨ (t.trunk u).state = .offering) := by
  have hwu : w.trunk u = (a.trunk u).booked v g := by rw [hw, State.trunk_setTrunk_self]
  have hcases : (t.trunk u).state = (a.trunk u).state ∨ (t.trunk u).state = .offering := by
    rw [ht]
    split
    · rcases w.changed_trunk_cases u with hf | ⟨-, ho, -⟩
      · rw [hf, hwu]
        exact .inl rfl
      · exact .inr ho
    · rw [hwu]
      exact .inl rfl
  have hpass : w.passedTo t := by
    rw [ht]
    split
    · exact w.changed_passedTo
    · exact .refl w
  refine ⟨hpass, fun hi => ?_, fun hi => hi ▸ hcases⟩
  obtain ⟨-, -, hkeep⟩ := hpass.trunks u
  rw [hkeep (by rw [hwu]; exact hi), hwu]
  exact ⟨rfl, rfl, rfl, rfl⟩

end Served

/-! ### TRUNK SET in the terms of the statement -/

section Assembled

variable {s t w D : State} {u : TrunkNo} {v : TrunkService} {g : TrunkGroup} {st : TrunkState}

theorem State.trunkSetDone_reports (s : State) : s.trunkSetDone.link.reports = s.link.reports := by
  have houtput : s.trunkSetDone.link.output = s.link.output ++ [.reply ⟨0x24, .done, none, .nothing⟩] := rfl
  rw [Link.reports, houtput, List.filter_append, List.length_append]
  rfl

theorem Trunk.changedBy_of_tableState {x : Trunk} (h : x.tableState v = some st) : x.changedBy v g = true := by
  unfold Trunk.tableState at h
  unfold Trunk.changedBy
  cases v with
  | inService =>
    by_cases hs : x.state = .outOfService
    · simp [hs]
    · simp [hs] at h
  | outOfService =>
    by_cases hs : x.state = .outOfService
    · simp [hs] at h
    · simp [hs]

/-- What every TRUNK SET answered DONE leaves, as the statement has it (R103). -/
theorem State.trunkSetTo.frame (h : s.trunkSetTo t u v g) : ∃ more,
    t.link.output = s.link.output ++ .reply ⟨0x24, .done, none, .nothing⟩ :: more ∧
      t.link.output = s.trunkSetDone.link.output ++ more ∧
      t = { s.answered ⟨0x24, .done, none, .nothing⟩ with
        link := { (s.answered ⟨0x24, .done, none, .nothing⟩).link with
          output := t.link.output, reportLoss := t.link.reportLoss }
        cc := { s.cc with calls := t.cc.calls, queue := t.cc.queue }
        ti := { s.ti with trunks := t.ti.trunks, noTrunk := t.ti.noTrunk }
        ap := { s.ap with players := t.ap.players } } := by
  obtain ⟨more, hmore⟩ := h.output
  refine ⟨more, ?_, hmore.symm, State.eq_of_besidePass h.beside⟩
  rw [← hmore]
  exact List.append_assoc _ _ _

/-- A TRUNK SET that asks for what stands is answered, and no more (R103). -/
theorem State.booked_same (h : (s.trunk u).tableState v = none) (hv : (s.trunk u).service = v) (hg : (s.trunk u).group = g) :
    (if (s.trunk u).changedBy v g then (s.trunkSetDone.setTrunk u ((s.trunkSetDone.trunk u).booked v g)).changed
      else s.trunkSetDone.setTrunk u ((s.trunkSetDone.trunk u).booked v g)) = s.trunkSetDone := by
  have hno : (s.trunk u).changedBy v g = false := by
    unfold Trunk.tableState at h
    unfold Trunk.changedBy
    rw [hv, hg]
    cases v with
    | inService =>
      by_cases hs : (s.trunk u).state = .outOfService
      · simp [hs] at h
      · simp [hs]
    | outOfService =>
      by_cases hs : (s.trunk u).state = .outOfService
      · simp [hs]
      · simp [hs] at h
  have hbooked : (s.trunkSetDone.trunk u).booked v g = s.trunkSetDone.trunk u := by
    rw [← hv, ← hg]
    rfl
  rw [hno, hbooked]
  simp [State.setTrunk, State.trunk]

theorem Trunk.tableState_idle {x : Trunk} (h : x.tableState v = some .idle) : v = .inService ∧ x.link = .up := by
  unfold Trunk.tableState at h
  cases v with
  | inService =>
    refine ⟨rfl, ?_⟩
    by_contra hl
    simp [hl] at h
  | outOfService => simp at h

/-- With every call in its place, it is so when the service of a TRUNK SET has taken effect (R103). -/
theorem State.inPlace.trunkSetServed {sc : Scope} (h : s.inPlace sc []) (v : TrunkService) (g : TrunkGroup)
    (hok : v = .outOfService → (s.trunk u).state ≠ .connected ∧ (s.trunk u).stack = []) :
    ((s.trunkSetDone.setTrunk u ((s.trunkSetDone.trunk u).booked v g)).applyService u v).inPlace sc [] :=
  State.inPlace.applyService (s := s.trunkSetDone) (h.side rfl) v g hok

end Assembled

/-- Settles O58: the refusals by `exec_trunkSet_range` and `exec_trunkSet_eq`; a TRUNK SET that passes by the table. -/
theorem trunkSetFollowsItsTable : Obligations.TrunkSetFollowsItsTable := by
  refine ⟨fun s o v g h ho => exec_trunkSet_range h ho, ?_⟩
  rintro s u v g body x rfl h rfl
  have hexec := exec_trunkSet_eq h
  refine ⟨fun hv hx => by rw [hexec, if_pos ⟨hv, hx⟩], fun hok => ?_⟩
  have hfree : v = .outOfService → (s.trunk u).state ≠ .connected ∧ (s.trunk u).stack = [] := fun hv =>
    hok.resolve_left (by rw [hv]; nofun)
  rw [if_neg fun ⟨hv, hx⟩ => hx.elim (hfree hv).1 fun hn => hn (hfree hv).2, State.applyTrunkSet_eq] at hexec
  have hexact {t : State} (hx : exec (.trunkSet [BitVec.ofNat 8 u.val, BitVec.ofNat 8 v.number, BitVec.ofNat 8 g.number]) s
      = .next t) (hp : s.callsPlaced) : t.queueExact :=
    (exec_inPlace (sc := ⟨False, True⟩) _ (State.inPlace_of_callsPlaced hp nofun) trivial hx).queueExact
  cases htable : (s.trunk u).tableState v with
  | none =>
    rw [State.applyService_none (a := s.trunkSetDone) (g := g) htable] at hexec
    obtain ⟨hpass, hother, hidle⟩ := State.booked_goes_on ((s.trunk u).changedBy v g) rfl (t := _) rfl
    have hto := (s.trunkSetTo_booked u v g).passed hpass
    have hsame : (s.trunk u).service = v → (s.trunk u).group = g → _ := fun hv hg => State.booked_same htable hv hg
    generalize (if (s.trunk u).changedBy v g = true then _ else _ : State) = t at *
    obtain ⟨more, hout, -, hframe⟩ := hto.frame
    obtain ⟨hv, hg, hl, hstack⟩ := hto.own
    refine ⟨t, more, hexec, hout, hframe, hv, hg, hl, hstack, nofun, fun _ => ⟨hother, hidle, hsame⟩, fun p c hv ho => ?_,
      hexact hexec, hto.calls, hto.others⟩
    rw [hv] at htable
    simp [Trunk.tableState, ho] at htable
  | some st =>
    obtain ⟨D, hX, hD⟩ := State.applyService_some (a := s.trunkSetDone) (g := g) htable
    rw [hX, if_pos (Trunk.changedBy_of_tableState htable)] at hexec
    set r := Report.trunkState u st .service with hr
    have hto := (hD.trunkSetTo r).passed (D.report r).changed_passedTo
    obtain ⟨more, hout, hmore, hframe⟩ := hto.frame
    obtain ⟨hstate, hremoved⟩ := hD.changed_state r
    obtain ⟨hreport, hlost, hflag, hset, hcleared⟩ := hD.changed_reports hmore
    rw [s.trunkSetDone_reports] at hreport hlost hset hcleared
    have hidle (hst : st = .idle) := State.servedTo.changed_idle (hst ▸ hD) r
    have hoffer (hst : st = .idle) (hp : s.callsPlaced) {p : LineNo} {c : Call} {i : CallIdentity} :=
      State.servedTo.changed_offeredOn (p := p) (c := c) (i := i) (hst ▸ hD) r (sc := ⟨False, True⟩)
        (hX ▸ (State.inPlace_of_callsPlaced hp nofun : s.inPlace ⟨False, True⟩ []).trunkSetServed v g hfree)
        (Trunk.tableState_idle (hst ▸ htable)).1 (Trunk.tableState_idle (hst ▸ htable)).2
    have hwithdrawn (hv : v = .outOfService) (ho : (s.trunk u).state = .offering) {p : LineNo} {c : Call}
        (hcur : (s.trunk u).current = some c.ref) (hc : s.callAt p c) (hs : c.state = .offered) :=
      State.withdrawn_changed (a := s.trunkSetDone) (w := D.report r) (g := g) hc.1 hc.2.1 hs
        (hX.symm.trans (by subst hv; exact State.applyService_withdraw (a := s.trunkSetDone) (g := g) ho hcur))
    generalize (D.report r).changed = t at *
    obtain ⟨hv, hg, hl, hstack⟩ := hto.own
    refine ⟨t, more, hexec, hout, hframe, hv, hg, hl, hstack, fun st' hst' => ?_, nofun, fun p c hv ho hcur hc hs => ?_,
      hexact hexec, hto.calls, hto.others⟩
    · obtain rfl := Option.some.inj hst'
      refine ⟨hstate, hremoved, hreport, hlost, hflag, hset, hcleared, fun hst => ⟨hidle hst, ?_⟩⟩
      rintro p c i _ rfl hp hd hothers hh hc hi hm
      exact hoffer hst hp hd hothers hh hc.1 hi hm
    · exact hwithdrawn hv ho hcur hc hs

end Sys2Proof.Machine
end

section
/-! Trunk records and elastic buffers within their bounds (R96, R106, R124, R159): what a trunk record may take without
leaving them, and the operations on calls and trunks that keep every record in them. -/

namespace Sys2Proof.Machine

open Sys2Proof

/-! ### One trunk record -/

/-- What of a trunk record has a bound. -/
def Trunk.bounded (x : Trunk) : List DeskMessage × List CallRef × LinkStatus × Nat × Nat × Nat × Nat × Nat :=
  (x.transmit, x.stack, x.link, x.badRun, x.goodRun, x.frameErrors, x.messageErrors, x.overruns)

namespace Trunk.sound

variable {x y : Trunk}

theorem stack_of_outOfService (h : x.sound) (hs : x.state = .outOfService) : x.stack = [] := by
  obtain ⟨-, -, -, -, -, -, -, -, ho⟩ := h
  exact ho hs

/-- Nothing else of a record matters, but that a trunk with calls on its stack is not taken out of service (R103). -/
theorem of_bounded (h : x.sound) (hb : y.bounded = x.bounded)
    (hs : y.state = .outOfService → x.state = .outOfService ∨ x.stack = []) : y.sound := by
  simp only [Trunk.bounded, Prod.mk.injEq] at hb
  obtain ⟨htransmit, hstack, hlink, hbad, hgood, hframes, hmessages, hoverruns⟩ := hb
  have ho : y.state = .outOfService → x.stack = [] := fun e => (hs e).elim h.stack_of_outOfService id
  obtain ⟨h1, h2, h3, h4, h5, h6, h7, h8, -⟩ := h
  unfold Trunk.sound
  rw [htransmit, hstack, hlink, hbad, hgood, hframes, hmessages, hoverruns]
  exact ⟨h1, h2, h3, h4, h5, h6, h7, h8, ho⟩

/-- A record that keeps its state and all that is bounded. -/
theorem same (h : x.sound) (hb : y.bounded = x.bounded) (hs : y.state = x.state) : y.sound :=
  h.of_bounded hb fun e => .inl (hs ▸ e)

/-- Messages made for the desk stay within the list, the rest being counted up to 255 (R106). -/
theorem delivered (h : x.sound) (ms : List DeskMessage) : (x.delivered ms).sound := by
  obtain ⟨h1, h2, h3, h4, h5, h6, h7, h8, h9⟩ := h
  change x.transmit.length ≤ 8 at h1
  rw [Trunk.delivered_eq]
  split
  next hl =>
    refine ⟨?_, h2, h3, h4, h5, h6, ?_, fun hd => ?_, h9⟩
    · change (x.transmit ++ ms.take (8 - x.transmit.length)).length ≤ 8
      rw [List.length_append, List.length_take]
      omega
    · dsimp only
      split
      · exact h7
      · exact Nat.min_le_right _ _
    · rw [hl] at hd
      cases hd
  · exact ⟨h1, h2, h3, h4, h5, h6, h7, h8, h9⟩

/-- Fewer messages to send (R106). -/
theorem unsent (h : x.sound) {ms : List DeskMessage} (hm : ms <:+ x.transmit) (n : Nat) (f : Option TrunkFrame) :
    { x with transmit := ms, sentOctets := n, lastFrame := f }.sound := by
  obtain ⟨h1, h2, h3, h4, h5, h6, h7, h8, h9⟩ := h
  refine ⟨hm.length_le.trans h1, h2, h3, h4, h5, h6, h7, fun hd => ⟨?_, (h8 hd).2⟩, h9⟩
  rw [(h8 hd).1] at hm
  exact List.suffix_nil.mp hm

/-- Fewer calls on the hold stack (R124). -/
theorem unstacked (h : x.sound) {rs : List CallRef} (hr : rs.Sublist x.stack) : { x with stack := rs }.sound := by
  obtain ⟨h1, h2, h3, h4, h5, h6, h7, h8, h9⟩ := h
  refine ⟨h1, hr.length_le.trans h2, h3, h4, h5, h6, h7, fun hd => ⟨(h8 hd).1, ?_⟩, fun ho => ?_⟩
  · rw [(h8 hd).2] at hr
    exact List.sublist_nil.mp hr
  · rw [h9 ho] at hr
    exact List.sublist_nil.mp hr

/-- A call put on a hold stack that has room, on a trunk whose link is UP (R125, R126). -/
theorem stacked (h : x.sound) (r : CallRef) (hl : x.link = .up) (hs : x.state ≠ .outOfService) (hr : x.stack.length < 3) :
    { x with stack := r :: x.stack }.sound := by
  obtain ⟨h1, -, h3, h4, h5, h6, h7, -⟩ := h
  refine ⟨h1, hr, h3, h4, h5, h6, h7, fun hd => ?_, fun ho => absurd ho hs⟩
  exact absurd (hl.symm.trans hd) (by decide)

/-- The state of the message receiver, and messages discarded, counted up to 255 (R105). -/
theorem received (h : x.sound) (r : MessageReceiver) (qs : List DeskRequest) {n : Nat} (hn : n ≤ 255) :
    { x with receiver := r, requests := qs, messageErrors := n }.sound := by
  obtain ⟨h1, h2, h3, h4, h5, -, h7⟩ := h
  exact ⟨h1, h2, h3, h4, h5, hn, h7⟩

theorem messageErrors_le (h : x.sound) : x.messageErrors ≤ 255 := by
  obtain ⟨-, -, -, -, -, h6, -⟩ := h
  exact h6

theorem discard (h : x.sound) (r : MessageReceiver) : (x.discard r).sound :=
  h.received r x.requests (Nat.min_le_right _ _)

theorem complete (h : x.sound) (len code : Octet) (rest : List Octet) : (x.complete len code rest).sound := by
  unfold Trunk.complete
  dsimp only
  split
  · split
    · exact h.received _ _ h.messageErrors_le
    · exact h.discard _
  · exact h.discard _

theorem takeOctet (h : x.sound) (o : Octet) : (x.takeOctet o).sound := by
  have hgoes (r : MessageReceiver) : { x with receiver := r }.sound := h.received r x.requests h.messageErrors_le
  unfold Trunk.takeOctet
  split
  · split
    · exact hgoes _
    · exact h
  · exact hgoes _
  · split
    · exact h.discard _
    · exact hgoes _
  · split
    · exact hgoes _
    · exact h.discard _
  · split
    · exact hgoes _
    · exact h.complete _ _ _

theorem foldl_takeOctet (h : x.sound) (os : List Octet) : (os.foldl Trunk.takeOctet x).sound := by
  induction os generalizing x with
  | nil => exact h
  | cons o os ih => exact ih (h.takeOctet o)

theorem cutShort (h : x.sound) : x.cutShort.sound := by
  unfold Trunk.cutShort
  split
  · exact h.discard _
  · exact h.received _ x.requests h.messageErrors_le

/-- Frames judged: the runs and the error count, each up to its bound (R96, R99). -/
theorem judged (h : x.sound) {e g b : Nat} (he : e ≤ 65535) (hg : g ≤ 10) (hb : b ≤ 3) :
    { x with frameErrors := e, goodRun := g, badRun := b }.sound := by
  obtain ⟨h1, h2, -, -, -, h6⟩ := h
  exact ⟨h1, h2, hb, hg, he, h6⟩

theorem frameErrors_le (h : x.sound) : x.frameErrors ≤ 65535 := by
  obtain ⟨-, -, -, -, h5, -⟩ := h
  exact h5

/-- A link that comes UP (R102). -/
theorem linked (h : x.sound) (r : MessageReceiver) : { x with link := .up, receiver := r }.sound := by
  obtain ⟨h1, h2, h3, h4, h5, h6, h7, -, h9⟩ := h
  exact ⟨h1, h2, h3, h4, h5, h6, h7, nofun, h9⟩

/-- A record with nothing to send and no call on its stack, whatever its link and state (R100, R122). -/
theorem emptied (h : x.sound) (ht : y.transmit = []) (hs : y.stack = [])
    (hb : { y with transmit := x.transmit, stack := x.stack, link := x.link }.bounded = x.bounded) : y.sound := by
  simp only [Trunk.bounded, Prod.mk.injEq] at hb
  obtain ⟨-, -, -, hbad, hgood, hframes, hmessages, hoverruns⟩ := hb
  obtain ⟨-, -, h3, h4, h5, h6, h7, -, -⟩ := h
  unfold Trunk.sound
  rw [ht, hs, hbad, hgood, hframes, hmessages, hoverruns]
  exact ⟨Nat.zero_le _, Nat.zero_le _, h3, h4, h5, h6, h7, fun _ => ⟨rfl, rfl⟩, fun _ => rfl⟩

/-- The counts of a trunk set to 0 (R104). -/
theorem cleared (h : x.sound) : { x with frameErrors := 0, messageErrors := 0, overruns := 0 }.sound := by
  obtain ⟨h1, h2, h3, h4, -, -, -, h8⟩ := h
  exact ⟨h1, h2, h3, h4, Nat.zero_le _, Nat.zero_le _, Nat.zero_le _, h8⟩

theorem guarding (h : x.sound) (n : Nat) : (x.guarding n).sound := h.of_bounded rfl nofun

theorem lets (h : x.sound) (c : Call) (n : Nat) : (x.lets c n).sound := by
  unfold Trunk.lets
  split
  · exact h.unstacked List.erase_sublist
  · split
    · exact h.guarding n
    · exact h

end Trunk.sound

/-- The values of a power-on reset, and of a trunk that has been drained (R122, R123). -/
theorem Trunk.sound_initial (g : TrunkGroup) (f : Option TrunkFrame) : { Trunk.initial g with lastFrame := f }.sound := by
  simp [Trunk.sound, Trunk.initial]

/-! ### One elastic buffer -/

theorem Buffer.append_length_le {b : Buffer} (h : b.blocks.length ≤ Config.bufferBlocks) (x : Block) :
    (b.append x).1.blocks.length ≤ Config.bufferBlocks := by
  unfold Buffer.append
  split
  next hr =>
    rw [List.length_append]
    exact hr
  next =>
    rw [List.length_append, List.length_tail, List.length_singleton]
    change b.blocks.length ≤ 4 at h
    change _ ≤ 4
    omega

theorem Buffer.take_length_le {b : Buffer} (h : b.blocks.length ≤ Config.bufferBlocks) :
    b.take.2.1.blocks.length ≤ Config.bufferBlocks := by
  unfold Buffer.take
  split
  next x rest hb =>
    rw [hb, List.length_cons] at h
    exact Nat.le_of_succ_le h
  next hb =>
    split
    · exact h
    · split <;> exact h

/-! ### What leaves the trunk records and the buffers alone -/

/-- The trunk records and the elastic buffers. -/
def State.trunkSide (s : State) : Table 8 Trunk × Table 8 Buffer × Table 8 Buffer := (s.ti.trunks, s.ap.receive, s.ap.send)

section Sides

variable (s : State)

@[simp] theorem State.report_trunkSide (r : Report) : (s.report r).trunkSide = s.trunkSide := by simp [State.trunkSide]

@[simp] theorem State.record_trunkSide (k : RecordKind) : (s.record k).trunkSide = s.trunkSide := by simp [State.trunkSide]

@[simp] theorem State.judgeNoTrunk_trunkSide : s.judgeNoTrunk.trunkSide = s.trunkSide := by
  simp [State.trunkSide, State.judgeNoTrunk_trunks]

@[simp] theorem State.makeReady_trunkSide (r : Report) : (s.makeReady r).trunkSide = s.trunkSide := by
  unfold State.makeReady
  split <;> rfl

@[simp] theorem State.recordAndReady_trunkSide (k : ResetKind) : (s.recordAndReady k).trunkSide = s.trunkSide :=
  (State.makeReady_trunkSide _ _).trans (s.record_trunkSide _)

theorem State.defaults_loadAndPlace_trunkSide : s.defaults.loadAndPlace.trunkSide = s.trunkSide := rfl

theorem State.endCallsForReset_trunkSide : s.endCallsForReset.trunkSide = (s.endAll 48).trunkSide :=
  State.judgeNoTrunk_trunkSide ((s.endAll 48).setQueue [])

@[simp] theorem State.enqueue_trunkSide (p : LineNo) : (s.enqueue p).trunkSide = s.trunkSide := by simp [State.trunkSide]

@[simp] theorem State.identify_trunkSide (p : LineNo) (code : ReceivedCode) (b : Bool) :
    (s.identify p code b).trunkSide = s.trunkSide := by simp [State.trunkSide]

/-- A call that enters WAITING changes its record, its channel and the queue alone (R80). -/
@[simp] theorem State.enterWaiting_trunkSide (p : LineNo) : (s.enterWaiting p).trunkSide = s.trunkSide := by
  cases hc : s.cc.calls.get p with
  | none => simp [State.enterWaiting, hc]
  | some c =>
    rcases State.enterWaiting_of_some hc with ⟨h, -⟩ | ⟨i, -, -, h⟩
    · rw [h, State.enqueue_trunkSide]
      rfl
    · rw [h, State.enqueue_trunkSide]
      rfl

@[simp] theorem State.handBack_trunkSide (r : CallRef) (b : Bool) : (s.handBack r b).trunkSide = s.trunkSide := by
  unfold State.handBack
  split
  · rw [State.enterWaiting_trunkSide]
    rfl
  · rfl

@[simp] theorem State.ageCall_trunkSide (p : LineNo) : (s.ageCall p).trunkSide = s.trunkSide := by
  unfold State.ageCall
  split
  · rfl
  · dsimp only
    split
    · rfl
    · rw [State.enqueue_trunkSide]
      rfl

theorem State.foldl_ageIfDue_trunkSide (b : Bool) (ps : List LineNo) :
    (ps.foldl State.ageIfDue (s, b)).1.trunkSide = s.trunkSide := by
  induction ps generalizing s b with
  | nil => rfl
  | cons p ps ih =>
    have hone : (State.ageIfDue (s, b) p).1.trunkSide = s.trunkSide := by
      unfold State.ageIfDue
      split
      · split
        · exact s.ageCall_trunkSide p
        · rfl
      · rfl
    exact (ih (State.ageIfDue (s, b) p).1 _).trans hone

end Sides

/-! ### Operations on calls and trunks -/

namespace State.trunksSound

variable {s t : State} {u : TrunkNo} {x : Trunk} {p : LineNo} {c : Call}

theorem side (h : s.trunksSound) (ht : t.trunkSide = s.trunkSide) : t.trunksSound := by
  simp only [State.trunkSide, Prod.mk.injEq] at ht
  obtain ⟨htrunks, hreceive, hsend⟩ := ht
  unfold State.trunksSound State.trunk
  rw [htrunks, hreceive, hsend]
  exact h

theorem setTrunk (h : s.trunksSound) (hx : x.sound) : (s.setTrunk u x).trunksSound :=
  ⟨fun w => Table.forall_set (P := Trunk.sound) h.1 u hx w, h.2⟩

theorem mapTrunk {f : Trunk → Trunk} (h : s.trunksSound) (hf : (s.trunk u).sound → (f (s.trunk u)).sound) :
    (s.mapTrunk u f).trunksSound := h.setTrunk (hf (h.1 u))

theorem sendDesk (h : s.trunksSound) (u : TrunkNo) (m : DeskMessage) : (s.sendDesk u m).trunksSound := by
  rw [State.sendDesk_eq_mapTrunk]
  exact h.mapTrunk fun hx => hx.delivered [m]

theorem sendIdent (h : s.trunksSound) (u : TrunkNo) (p : LineNo) : (s.sendIdent u p).trunksSound := by
  unfold State.sendIdent
  split
  · exact h.sendDesk u _
  · exact h

theorem confirm (h : s.trunksSound) (u : TrunkNo) (q : DeskRequest) : (s.confirm u q).trunksSound := h.sendDesk u _

theorem refuse (h : s.trunksSound) (u : TrunkNo) (q : DeskRequest) (r : Reason) : (s.refuse u q r).trunksSound :=
  h.sendDesk u _

theorem enterIdle (h : s.trunksSound) (u : TrunkNo) : (s.enterIdle u).trunksSound :=
  h.mapTrunk fun hx => hx.of_bounded rfl nofun

theorem enterGuard (h : s.trunksSound) (u : TrunkNo) : (s.enterGuard u).trunksSound :=
  h.mapTrunk fun hx => hx.of_bounded rfl nofun

theorem connectTrunk (h : s.trunksSound) (u : TrunkNo) (r : CallRef) : (s.connectTrunk u r).trunksSound :=
  h.mapTrunk fun hx => hx.of_bounded rfl nofun

theorem offer (h : s.trunksSound) (u : TrunkNo) (p : LineNo) : (s.offer u p).trunksSound := by
  have hcall (c : Call) : (s.offerCall u p c).trunksSound :=
    (h.side (t := (s.setQueue (s.cc.queue.erase c.ref)).setCall p (some (c.offeredOn u))) rfl).setTrunk
      ((h.1 u).of_bounded rfl nofun)
  rcases s.offer_cases u p with ho | ⟨c, -, -, ho | ⟨m, ho⟩⟩ <;> rw [ho]
  · exact h
  · exact hcall c
  · exact (hcall c).sendDesk u m

theorem foldl {α : Type} {f : State → α → State} (hf : ∀ (v : State) a, v.trunksSound → (f v a).trunksSound) (as : List α)
    (h : s.trunksSound) : (as.foldl f s).trunksSound := by
  induction as generalizing s with
  | nil => exact h
  | cons a as ih => exact ih (hf s a h)

theorem offersOn (h : s.trunksSound) (ho : s.offersOn u t) : t.trunksSound := by
  rcases ho with rfl | ⟨r, p, -, rfl⟩
  · exact h
  · exact h.offer u p

theorem judgeNoTrunk (h : s.trunksSound) : s.judgeNoTrunk.trunksSound := h.side s.judgeNoTrunk_trunkSide

theorem examine (h : s.trunksSound) : s.examine.trunksSound := by
  unfold State.examine
  split
  next p hp =>
    obtain ⟨c, hc, -⟩ := State.preemptionChoice_connected hp
    rw [State.startPreemption_eq hc]
    have hcall : (s.preemptCall p c).trunksSound := h.side rfl
    split
    · exact hcall.sendDesk _ _
    · exact hcall
  · exact h

/-- An allocation pass (R84 to R86, R106, R140). -/
theorem pass (h : s.trunksSound) : s.pass.trunksSound := by
  have hprimary := foldl (fun v w hv => hv.offersOn (v.offerHead_offersOn w)) (s.eligibleTrunks .primary) h
  exact (foldl (fun v w hv => hv.offersOn (v.offerQualified_offersOn w)) _ hprimary).judgeNoTrunk.examine

theorem changed (h : s.trunksSound) : s.changed.trunksSound := h.judgeNoTrunk.pass

theorem enterWaiting (h : s.trunksSound) (p : LineNo) : (s.enterWaiting p).trunksSound := h.side (s.enterWaiting_trunkSide p)

/-- The end of a call (R90, R91, R115). -/
theorem endCall (h : s.trunksSound) (p : LineNo) (k : Cause) : (s.endCall p k).trunksSound := by
  cases hc : s.cc.calls.get p with
  | none =>
    unfold State.endCall
    rw [hc]
    exact h
  | some c =>
    have hleft : (s.leave c k).trunksSound := by
      cases hu : c.trunk with
      | none =>
        rw [s.leave_of_none k hu]
        exact h.side rfl
      | some u =>
        rw [s.leave_of_some k hu]
        refine (h.side (t := s.setQueue _) rfl).mapTrunk (f := fun x => (x.delivered _).lets c _) fun hx => ?_
        exact (hx.delivered _).lets c _
    have hended : (s.ended p c k).trunksSound := hleft.side (by simp [State.ended, State.trunkSide, State.stopPlayer])
    rw [State.endCall_of_some hc]
    unfold State.after
    split
    · exact hended.changed
    · exact hended.examine
    · exact hended

theorem endOffer (h : s.trunksSound) (u : TrunkNo) (r : CallRef) (k : Cause) : (s.endOffer u r k).trunksSound :=
  (((h.sendDesk u _).enterGuard u).side (State.handBack_trunkSide _ r true)).changed

theorem connect (h : s.trunksSound) (p : LineNo) (u : TrunkNo) : (s.connect p u).trunksSound := h.side rfl

/-- The top call of a hold stack taken off it and connected (R127). -/
theorem retrieveTop (h : s.trunksSound) (u : TrunkNo) (r : CallRef) : (s.retrieveTop u r).trunksSound := by
  unfold State.retrieveTop
  split
  next p _ =>
    have hpopped : (s.mapTrunk u fun x => { x with stack := x.stack.tail }).trunksSound :=
      h.mapTrunk fun hx => hx.unstacked (List.tail_sublist _)
    exact ((hpopped.connectTrunk u r).connect p u).sendIdent u p
  · exact h

theorem takeCall (h : s.trunksSound) (u : TrunkNo) (p : LineNo) (r : CallRef) : (s.takeCall u p r).trunksSound :=
  ((h.connectTrunk u r).connect p u).sendIdent u p

theorem ringPost (h : s.trunksSound) (u : TrunkNo) (l : LineNo) : (s.ringPost u l).trunksSound := by
  unfold State.ringPost
  split
  · exact h
  next p _ =>
    dsimp only
    refine State.trunksSound.sendIdent (.connectTrunk (h.side ?_) u _) u p
    rw [State.identify_trunkSide]
    rfl

theorem callBack (h : s.trunksSound) (u : TrunkNo) (l : LineNo) (q : DeskRequest) : (s.callBack u l q).trunksSound := by
  rcases s.callBack_cases u l q with ⟨r, hb⟩ | ⟨-, hb⟩ | ⟨p, c, -, -, -, hb⟩ | ⟨p, c, o, -, -, -, -, hb⟩ <;> rw [hb]
  · exact h.refuse u q r
  · exact h.ringPost u l
  · exact ((h.side (t := s.setQueue (s.cc.queue.erase c.ref)) rfl).takeCall u p c.ref).changed
  · exact ((h.sendDesk o _).enterGuard o).takeCall u p c.ref

theorem openWaiting (h : s.trunksSound) (l : LineNo) : (s.openWaiting l).trunksSound := by
  unfold State.openWaiting
  split
  · refine .changed (h.side ?_)
    rw [State.enterWaiting_trunkSide, State.identify_trunkSide]
    rfl
  · exact h

theorem rescue (h : s.trunksSound) (r : CallRef) : (s.rescue r).trunksSound := by
  have hback (p : LineNo) (f : Call → Call) : (((s.mapCall p f).enterWaiting p).changed).trunksSound :=
    .changed (.enterWaiting (h.side (t := s.mapCall p f) rfl) p)
  unfold State.rescue
  split
  · exact h
  · split
    · exact hback _ _
    · exact hback _ _
    · exact hback _ _
    · exact hback _ _
    · exact h.endCall _ _
    · exact h

/-- A link that goes DOWN leaves nothing to send and no call on the stack (R100). -/
theorem linkLoss (h : s.trunksSound) (u : TrunkNo) : (s.linkLoss u).trunksSound := by
  unfold State.linkLoss
  dsimp only
  split
  next ho => exact .changed (h.setTrunk ((h.1 u).emptied rfl ((h.1 u).stack_of_outOfService ho) rfl))
  next =>
    refine .changed (foldl (fun _ r hv => hv.rescue r) _ (side ?_ ((State.judgeNoTrunk_trunkSide _).trans
      ((State.report_trunkSide _ _).trans (State.record_trunkSide _ _)))))
    exact h.setTrunk ((h.1 u).emptied rfl rfl rfl)

theorem linkUp (h : s.trunksSound) (u : TrunkNo) : (s.linkUp u).trunksSound := by
  have hup : (s.mapTrunk u fun x => { x with link := .up, receiver := .between }).trunksSound :=
    h.mapTrunk fun hx => hx.linked _
  unfold State.linkUp
  dsimp only
  split
  · exact .changed ((hup.enterIdle u).side (by rw [State.report_trunkSide, State.record_trunkSide]))
  · exact hup.changed

theorem badFrame (h : s.trunksSound) (u : TrunkNo) : (s.badFrame u).trunksSound := by
  have hjudged : (s.setTrunk u { (s.trunk u).cutShort with
      frameErrors := cap16 ((s.trunk u).cutShort.frameErrors + 1), goodRun := 0
      badRun := min ((s.trunk u).cutShort.badRun + 1) 3 }).trunksSound :=
    h.setTrunk ((h.1 u).cutShort.judged (cap16_le _) (Nat.zero_le _) (Nat.min_le_right _ _))
  unfold State.badFrame
  dsimp only
  split
  · exact hjudged.linkLoss u
  · exact hjudged

/-- The block of a valid frame joins the receive buffer (R159). -/
theorem pushReceive (h : s.trunksSound) (u : TrunkNo) (b : Block) : (s.pushReceive u b).trunksSound := by
  obtain ⟨htrunks, hbuffers⟩ := h
  refine ⟨htrunks, fun w => ⟨?_, (hbuffers w).2⟩⟩
  exact Table.forall_set (P := fun b : Buffer => b.blocks.length ≤ Config.bufferBlocks) (fun v => (hbuffers v).1) u
    (Buffer.append_length_le (hbuffers u).1 b) w

theorem goodFrame (h : s.trunksSound) (u : TrunkNo) (f : TrunkFrame) : (s.goodFrame u f).trunksSound := by
  have hpushed := h.pushReceive u f.audio
  have hx := hpushed.1 u
  have hrun := hx.judged (b := 0) hx.frameErrors_le (Nat.min_le_right (((s.pushReceive u f.audio).trunk u).goodRun + 1) 10)
    (Nat.zero_le _)
  unfold State.goodFrame
  dsimp only
  split
  · refine hpushed.setTrunk ?_
    split
    · exact hrun
    · exact hrun.foldl_takeOctet _
  · split
    · exact (hpushed.setTrunk hrun).linkUp u
    · exact hpushed.setTrunk hrun

/-- A trunk that has been drained takes its reset values, its buffers emptied (R122, R123, R163). -/
theorem resetDrained (h : s.trunksSound) (u : TrunkNo) : (s.resetDrained u).trunksSound := by
  unfold State.resetDrained
  dsimp only
  split
  · refine setTrunk ⟨h.1, fun w => ⟨?_, ?_⟩⟩ (Trunk.sound_initial _ _)
    · exact Table.forall_set (P := fun b : Buffer => b.blocks.length ≤ Config.bufferBlocks) (fun v => (h.2 v).1) u
        (Nat.zero_le _) w
    · exact Table.forall_set (P := fun b : Buffer => b.blocks.length ≤ Config.bufferBlocks) (fun v => (h.2 v).2) u
        (Nat.zero_le _) w
  · exact h

theorem endAll (h : s.trunksSound) (n : Nat) : (s.endAll n).trunksSound := by
  induction n generalizing s with
  | zero => exact h
  | succ n ih =>
    unfold State.endAll
    split
    · exact ih (h.endCall _ _)
    · exact h

/-- A soft reset (R123, R188). -/
theorem softReset (h : s.trunksSound) : s.softReset.trunksSound := by
  have hbegun : s.beginSoftReset.trunksSound := by
    refine ⟨fun w => ?_, h.2⟩
    have hw : s.beginSoftReset.trunk w = (s.trunk w).beginDrain := Table.get_map _ _ w
    rw [hw]
    exact (h.1 w).same rfl rfl
  have hended : s.beginSoftReset.endCallsForReset.trunksSound :=
    (hbegun.endAll 48).side (State.endCallsForReset_trunkSide _)
  have hdrained := foldl (fun v u hv => hv.resetDrained u) (List.finRange 8) hended
  exact hdrained.side ((State.recordAndReady_trunkSide _ _).trans (State.defaults_loadAndPlace_trunkSide _))

/-- A TRUNK SET that takes a trunk out of service finds no call on its stack (R103). -/
theorem applyService (h : s.trunksSound) {v : TrunkService} (hv : v = .outOfService → (s.trunk u).stack = []) :
    (s.applyService u v).trunksSound := by
  have hremoved {a : State} (ha : a.trunksSound) (hs : (a.trunk u).stack = []) : (a.removeTrunk u).trunksSound :=
    ha.mapTrunk fun hx => hx.of_bounded rfl fun _ => .inr hs
  have hreported {a : State} (ha : a.trunksSound) : (a.reportService u).trunksSound := ha.side (State.report_trunkSide _ _)
  unfold State.applyService
  dsimp only
  split
  · split
    · exact hreported (h.enterIdle u)
    · exact hreported (h.mapTrunk fun hx => hx.of_bounded rfl nofun)
  · exact h
  · exact h
  · split
    · refine hreported (side (hremoved (h.sendDesk u _) ?_) (State.handBack_trunkSide _ _ _))
      rw [State.sendDesk_eq_mapTrunk, State.trunk_mapTrunk_self, Trunk.delivered_frame]
      exact hv rfl
    · exact hreported (hremoved h (hv rfl))
  · exact hreported (hremoved h (hv rfl))

theorem applyTrunkSet (h : s.trunksSound) {v : TrunkService} (g : TrunkGroup)
    (hv : v = .outOfService → (s.trunk u).stack = []) : (s.applyTrunkSet u v g).trunksSound := by
  have hset : ((s.answer 0x24 .done).mapTrunk u fun x => { x with service := v, group := g }).trunksSound :=
    (h.side (t := s.answer 0x24 .done) rfl).mapTrunk fun hx => hx.same rfl rfl
  have happlied := hset.applyService (u := u) (v := v) fun e => by
    rw [State.trunk_mapTrunk_self]
    exact hv e
  unfold State.applyTrunkSet
  dsimp only
  split
  · exact happlied.changed
  · exact happlied

theorem clearCall (h : s.trunksSound) (armed : Option CallRef) (r : CallRef) : (s.clearCall armed r).trunksSound := by
  unfold State.clearCall
  split
  · split
    · exact endCall (h.side (t := s.answer 0x23 .done) rfl) _ _
    · exact h.side rfl
  · exact h.side rfl

end State.trunksSound

end Sys2Proof.Machine
end

section
/-! Every command, and the millisecond, keeps the trunk records and the elastic buffers within their bounds. -/

namespace Sys2Proof.Machine

open Sys2Proof

/-! ### Services and the time base leave trunk records and buffers alone -/

section Sides

variable (s : State)

@[simp] theorem State.setTime_trunkSide (b : TimeBase) : (s.setTime b).trunkSide = s.trunkSide := by
  unfold State.setTime
  dsimp only
  split
  · rfl
  · exact State.report_trunkSide _ _

@[simp] theorem State.takeResult_trunkSide (l : LineNo) (r : EvalResult) : (s.takeResult l r).trunkSide = s.trunkSide := by
  change (s.takeResult l r).besideLsc.trunkSide = s.besideLsc.trunkSide
  rw [State.takeResult_besideLsc]

@[simp] theorem State.evaluateWhere_trunkSide (e : LineSample) (due : LineRecord → EvalResult → Bool) :
    (s.evaluateWhere e due).trunkSide = s.trunkSide := by
  obtain h | ⟨m, r, -, -, h⟩ := s.evaluateWhere_cases e due
  · rw [h]
  · rw [h, State.takeResult_trunkSide]
    rfl

@[simp] theorem State.takeCallEnded_trunkSide (l : LineNo) : (s.takeCallEnded l).trunkSide = s.trunkSide := by
  unfold State.takeCallEnded
  dsimp only
  split
  · split <;> rfl
  · split <;> rfl
  · split <;> rfl
  · rfl

@[simp] theorem State.requestStore_trunkSide (code : Octet) (kind : StoreKind) (body : List Octet) :
    (s.requestStore code kind body).trunkSide = s.trunkSide := by
  unfold State.requestStore
  dsimp only
  split <;> rfl

@[simp] theorem State.applyLineSet_trunkSide (l : LineNo) (v : LineService) :
    (s.applyLineSet l v).trunkSide = s.trunkSide := by
  unfold State.applyLineSet
  dsimp only
  split <;> rfl

@[simp] theorem State.runLineQuery_trunkSide (body : List Octet) : (s.runLineQuery body).trunkSide = s.trunkSide := by
  unfold State.runLineQuery
  split
  · split
    · rfl
    · dsimp only
      split <;> rfl
  · rfl

@[simp] theorem State.runLineSet_trunkSide (body : List Octet) : (s.runLineSet body).trunkSide = s.trunkSide := by
  unfold State.runLineSet
  split
  · split
    · split
      · rfl
      · exact State.applyLineSet_trunkSide _ _ _
    · rfl
  · rfl

@[simp] theorem State.runLineTest_trunkSide (body : List Octet) : (s.runLineTest body).trunkSide = s.trunkSide := by
  unfold State.runLineTest
  split
  · split <;> rfl
  · rfl

@[simp] theorem State.runCalSet_trunkSide (body : List Octet) : (s.runCalSet body).trunkSide = s.trunkSide := by
  unfold State.runCalSet
  split
  · split
    · split <;> rfl
    · rfl
  · rfl

@[simp] theorem State.runDirRead_trunkSide (body : List Octet) : (s.runDirRead body).trunkSide = s.trunkSide := by
  unfold State.runDirRead
  split
  · split <;> rfl
  · rfl

@[simp] theorem State.runAgain_trunkSide (code : Octet) (body : List Octet) :
    (s.runAgain code body).trunkSide = s.trunkSide := by
  unfold State.runAgain
  split <;> simp

@[simp] theorem State.afterReply_trunkSide (r : Reply) : (s.afterReply r).trunkSide = s.trunkSide := by
  unfold State.afterReply
  split
  · rfl
  · split
    · rfl
    · split
      · exact State.runAgain_trunkSide _ _ _
      · rfl

end Sides

/-! ### What the frames of commands keep -/

namespace State.trunksSound

variable {s t : State} {u : TrunkNo}

theorem running {f : State → State} (h : s.trunksSound) (hx : s.running f = .next t)
    (hf : ∀ v, v.trunksSound → (f v).trunksSound) : t.trunksSound := State.running_keeps hf h hx

theorem serveOnce {code : Octet} {allowed : Nat → Bool} {body : List Octet} {g : State → State} (h : s.trunksSound)
    (hg : ∀ v, v.trunksSound → (g v).trunksSound) : (s.serveOnce code allowed body g).trunksSound :=
  State.serveOnce_keeps (fun _ _ hv => hv.side rfl) hg h

theorem serveRuns {code : Octet} {len : Nat} {body : List Octet} {run : List Octet → State → State} (h : s.trunksSound)
    (hr : ∀ v, (run body v).trunkSide = v.trunkSide) : (s.serveRuns code len body run).trunksSound :=
  State.serveRuns_keeps (fun _ _ hv => hv.side rfl) (fun v hv => hv.side (hr v)) h

theorem setParam {α : Type} {id : Octet} {value : List Octet} {check : List Octet → Option α} {apply : α → State → State}
    (h : s.trunksSound) (ha : ∀ a v, v.trunksSound → (apply a v).trunksSound) :
    (s.setParam id value check apply).trunksSound := State.setParam_keeps (fun _ _ hv => hv.side rfl) ha h

theorem takeEvent {e : LineEvent} {f : State → State} (h : s.trunksSound) (hf : ∀ v, v.trunksSound → (f v).trunksSound) :
    (s.takeEvent e f).trunksSound := State.takeEvent_keeps (fun _ _ hv => hv.side rfl) hf h

/-- A desk request is taken on a trunk whose link is UP (R107). -/
theorem takeDesk {q : DeskRequest} {f : State → State} (h : s.trunksSound)
    (hf : ∀ v, (v.trunk u).link = .up → v.trunksSound → (f v).trunksSound) : (s.takeDesk u q f).trunksSound := by
  unfold State.takeDesk
  dsimp only
  split
  next hup =>
    split
    · exact hf s hup.1 h
    · split
      · refine hf _ ?_ (h.setTrunk ((h.1 u).same rfl rfl))
        rw [State.trunk_setTrunk_self]
        exact hup.1
      · exact h
  · exact h

/-! ### The operations of single commands -/

/-- The call put on the stack by a HOLD that was not refused, on a CONNECTED trunk with room (R125, R126). -/
theorem pushed (h : s.trunksSound) (r : CallRef) (hl : (s.trunk u).link = .up) (hr : (s.trunk u).stack.length < 3) :
    ((s.enterIdle u).mapTrunk u fun x => { x with stack := r :: x.stack }).trunksSound := by
  refine (h.enterIdle u).mapTrunk fun hx => hx.stacked r ?_ ?_ ?_ <;> rw [State.enterIdle_eq, State.trunk_setTrunk_self]
  · exact hl
  · nofun
  · exact hr

/-- A frame sent takes messages from the front of the list and a block from the send buffer (R106, R160). -/
theorem frameSent (h : s.trunksSound) (u : TrunkNo) (n : Nat) (f : Option TrunkFrame) (slips : Table 8 Nat)
    {left : List DeskMessage} (hl : left <:+ (s.trunk u).transmit) :
    ({ s with ap := { s.ap with send := s.ap.send.set u (s.ap.send.get u).take.2.1, slips := slips } }.setTrunk u
      { s.trunk u with transmit := left, sentOctets := n, lastFrame := f }).trunksSound := by
  refine setTrunk ⟨h.1, fun w => ⟨(h.2 w).1, ?_⟩⟩ ((h.1 u).unsent hl n f)
  exact Table.forall_set (P := fun b : Buffer => b.blocks.length ≤ Config.bufferBlocks) (fun v => (h.2 v).2) u
    (Buffer.take_length_le (h.2 u).2) w

/-- An audio tick takes a block from each receive buffer and places one in each send buffer (R157 to R159). -/
theorem audioTick (h : s.trunksSound) (bs : TrunkNo → Block) (toLines : Table 48 (Option Block)) (slips : Table 8 Nat)
    (players : Table 48 Player) :
    { s with ap := { s.ap with
      toLines := toLines
      receive := Table.ofFn fun t => (s.ap.receive.get t).take.2.1
      send := Table.ofFn fun t => ((s.ap.send.get t).append (bs t)).1
      slips := slips, players := players } }.trunksSound := by
  refine ⟨h.1, fun w => ⟨?_, ?_⟩⟩
  · simpa using Buffer.take_length_le (h.2 w).1
  · simpa using Buffer.append_length_le (h.2 w).2 (bs w)

end State.trunksSound

/-- What is left of a transmit list after a frame is its last messages (R106). -/
theorem drain_left_suffix (ms : List DeskMessage) (sent room : Nat) : (drain ms sent room).2.1 <:+ ms := by
  induction ms generalizing sent room with
  | nil => exact List.suffix_refl _
  | cons m ms ih =>
    unfold drain
    dsimp only
    split
    · exact (ih 0 _).trans (List.suffix_cons m ms)
    · exact List.suffix_refl _

/-- A HOLD that is not refused finds a CONNECTED trunk with room on its stack (R125, R126). -/
theorem State.stack_lt_of_not_refused (s : State) {u : TrunkNo} {r : CallRef} (h : s.holdRefusal u r = none) :
    (s.trunk u).stack.length < 3 := by
  unfold State.holdRefusal at h
  dsimp only at h
  split at h
  · cases h
  · split at h
    · split at h
      · cases h
      next hroom => exact Nat.lt_of_not_le hroom
    · cases h
    · cases h

/-! ### Commands -/

/-- The commands that move no call keep trunk records and buffers in their bounds. -/
theorem exec_trunksSound_of_not_movesCalls {s t : State} (c : Instr) (hm : movesCalls c = false) (h : s.trunksSound)
    (hx : exec c s = .next t) : t.trunksSound := by
  unfold exec at hx
  cases c with
  | powerOnReset | seizure | codeResult | offHookAtStart | lockoutExpiry | hangUp | lineLost | lineFault | answered
  | aging | trunkFrameReceived | accept | decline | release | hold | retrieve | callback | offerTimerExpiry
  | guardTimerExpiry | minimumHoldServed | preemptionTimerExpiry | ringingTimeout | paramSetAgingPeriod
  | paramSetEscalationThreshold | paramSetMinimumHold | clearCall | trunkSet | reset | trunkResetAfterDrain =>
    exact absurd hm (by nofun)
  | powerOnResetRelease =>
    cases hx
    split
    · exact h.side (State.recordAndReady_trunkSide _ _)
    · exact h
  | samplePair l x y =>
    refine h.running hx fun u hu => hu.side ?_
    split
    · rfl
    · split
      · rfl
      · exact State.takeResult_trunkSide _ _ _
  | codeTimerExpiry e => exact h.running hx fun u hu => hu.side (u.evaluateWhere_trunkSide _ _)
  | lockoutCountExpiry e => exact h.running hx fun u hu => hu.side (u.evaluateWhere_trunkSide _ _)
  | ringPhaseChange e => exact h.running hx fun u hu => hu.side (u.evaluateWhere_trunkSide _ _)
  | callEnded l => exact h.running hx fun u hu => hu.side (State.takeCallEnded_trunkSide _ l)
  | trunkFrameSent w =>
    exact h.running hx fun u hu => hu.frameSent w _ _ _ (drain_left_suffix _ (u.trunk w).sentOctets 16)
  | identRequest w r =>
    refine h.running hx fun u hu => hu.takeDesk fun v _ hv => ?_
    dsimp only
    split
    · split
      · exact hv.sendIdent _ _
      · exact hv.refuse _ _ _
    · exact hv.refuse _ _ _
  | holdReminder r =>
    refine h.running hx fun u hu => ?_
    split
    next p _ =>
      have hset (c : Call) : (u.setCall p (some c)).trunksSound := hu.side rfl
      split
      · split
        · split
          · exact (hset _).sendDesk _ _
          · exact hu
        · exact hu
      · exact hu
    · exact hu
  | audioBlockTick bs => exact h.running hx fun u hu => hu.audioTick _ _ _ _
  | secondPulse => exact h.running hx fun u hu => hu.side (u.setTime_trunkSide _)
  | pulseWatchdogExpiry =>
    refine h.running hx fun u hu => hu.side ?_
    split
    · split
      · exact State.setTime_trunkSide _ _
      · rfl
    · rfl
  | storeCompletionDone =>
    refine h.running hx fun u hu => hu.side ?_
    split
    · split
      · rw [State.record_trunkSide, State.report_trunkSide]
        rfl
      · rfl
    · rfl
  | storeCompletionFault =>
    refine h.running hx fun u hu => hu.side ?_
    split
    · split
      · rw [State.record_trunkSide, State.report_trunkSide]
        rfl
      · rfl
    · rfl
  | frameReceived os => exact h.running hx fun u hu => hu.side rfl
  | interOctetTimeout => exact h.running hx fun u hu => hu.side rfl
  | replySent =>
    refine h.running hx fun u hu => hu.side ?_
    split
    · exact State.afterReply_trunkSide _ _
    · rfl
  | unknownRequest code body =>
    refine h.running hx fun u hu => ?_
    split
    · exact State.serve_keeps (fun _ _ hv => hv.side rfl) (fun _ hv => hv.side rfl) hu
    · exact hu
  | status body => exact h.running hx fun u hu => hu.serveOnce fun v hv => hv.side rfl
  | paramSetThresholdSet setB value => exact h.running hx fun u hu => hu.setParam fun a v hv => hv.side rfl
  | paramSetOfferTime value => exact h.running hx fun u hu => hu.setParam fun n v hv => hv.side rfl
  | paramSetGuardTime value => exact h.running hx fun u hu => hu.setParam fun n v hv => hv.side rfl
  | paramSetHoldChain value => exact h.running hx fun u hu => hu.setParam fun a v hv => hv.side rfl
  | paramSetWarningChain value => exact h.running hx fun u hu => hu.setParam fun a v hv => hv.side rfl
  | paramSetJournalThreshold value => exact h.running hx fun u hu => hu.setParam fun a v hv => hv.side rfl
  | paramQuery body => exact h.running hx fun u hu => hu.serveOnce fun v hv => hv.side rfl
  | lineQuery body => exact h.running hx fun u hu => hu.serveRuns fun v => v.runLineQuery_trunkSide body
  | lineSet body => exact h.running hx fun u hu => hu.serveRuns fun v => v.runLineSet_trunkSide body
  | lineTest body => exact h.running hx fun u hu => hu.serveRuns fun v => v.runLineTest_trunkSide body
  | calSet body => exact h.running hx fun u hu => hu.serveRuns fun v => v.runCalSet_trunkSide body
  | dirRead body => exact h.running hx fun u hu => hu.serveRuns fun v => v.runDirRead_trunkSide body
  | dirWrite body =>
    refine h.running hx fun u hu => hu.serveOnce fun v hv => hv.side ?_
    split
    · split
      · rfl
      · split
        · rfl
        · split <;> rfl
    · rfl
  | dirEnable body =>
    refine h.running hx fun u hu => hu.serveOnce fun v hv => hv.side ?_
    split <;> rfl
  | dirCommit body => exact h.running hx fun u hu => hu.serveOnce fun v hv => hv.side (v.requestStore_trunkSide _ _ _)
  | dirLock body => exact h.running hx fun u hu => hu.serveOnce fun v hv => hv.side (v.requestStore_trunkSide _ _ _)
  | dirErase body => exact h.running hx fun u hu => hu.serveOnce fun v hv => hv.side (v.requestStore_trunkSide _ _ _)
  | callList body =>
    refine h.running hx fun u hu => hu.serveOnce fun v hv => hv.side ?_
    split
    · split <;> rfl
    · rfl
  | callQuery body =>
    refine h.running hx fun u hu => hu.serveOnce fun v hv => hv.side ?_
    split
    · split
      · rfl
      · split <;> rfl
    · rfl
  | clearArm body =>
    refine h.running hx fun u hu => hu.serveOnce fun v hv => hv.side ?_
    split
    · split
      · rfl
      · split <;> rfl
    · rfl
  | trunkQuery body =>
    refine h.running hx fun u hu => hu.serveOnce fun v hv => ?_
    split
    · split
      next w _ =>
        refine .mapTrunk (s := { v.answer 0x25 .done (.trunk (v.trunk w) (v.ap.slips.get w)) with
          ap := { v.ap with slips := v.ap.slips.set w 0 } }) (hv.side rfl) fun hx => hx.cleared
      · exact hv.side rfl
    · exact hv.side rfl
  | promptWrite body =>
    refine h.running hx fun u hu => hu.serveOnce fun v hv => hv.side ?_
    split
    · split <;> rfl
    · rfl
  | clipSet body =>
    refine h.running hx fun u hu => hu.serveOnce fun v hv => hv.side ?_
    split
    · split
      · split <;> rfl
      · rfl
    · rfl
  | chainSet body =>
    refine h.running hx fun u hu => hu.serveOnce fun v hv => hv.side ?_
    split
    · split
      · split <;> rfl
      · rfl
    · rfl
  | journalRead body =>
    refine h.running hx fun u hu => hu.serveOnce fun v hv => hv.side ?_
    split
    · split <;> rfl
    · rfl
  | timeSet body =>
    refine h.running hx fun u hu => hu.serveOnce fun v hv => hv.side ?_
    split
    · exact State.setTime_trunkSide _ _
    · rfl
  | timeQuery body => exact h.running hx fun u hu => hu.serveOnce fun v hv => hv.side rfl
  | repeatPrefix body =>
    refine h.running hx fun u hu => hu.serveOnce fun v hv => hv.side ?_
    split
    · split <;> rfl
    · rfl
  | reportSent =>
    refine h.running hx fun u hu => hu.side ?_
    split <;> rfl
  | startOctetReceived => exact h.running hx fun u hu => hu.side rfl
  | internalSecondBoundary =>
    refine h.running hx fun u hu => hu.side ?_
    split <;> rfl

/-- The state of a power-on reset is within bounds (R122, R163). -/
theorem State.powerOn_trunksSound (s : State) : s.powerOn.trunksSound := by
  refine ⟨fun w => ?_, fun w => ?_⟩
  · have hw : s.powerOn.trunk w = { Trunk.initial (Trunk.defaultGroup w) with lastFrame := none } := by
      simp [State.powerOn, State.heldInReset, State.trunk, TrunkInterface.initial, Trunk.initial]
    rw [hw]
    exact Trunk.sound_initial _ _
  · simp [State.powerOn, State.heldInReset, AudioPlayer.initial, Buffer.empty]

/-- The commands that move calls keep trunk records and buffers in their bounds. -/
theorem exec_trunksSound {s t : State} (c : Instr) (h : s.trunksSound) (hx : exec c s = .next t) : t.trunksSound := by
  cases hm : movesCalls c with
  | false => exact exec_trunksSound_of_not_movesCalls c hm h hx
  | true =>
  unfold exec at hx
  cases c with
  | powerOnReset =>
    cases hx
    exact s.powerOn_trunksSound
  | seizure l =>
    refine h.running hx fun u hu => hu.takeEvent fun v hv => hv.side ?_
    split <;> rfl
  | codeResult l code =>
    refine h.running hx fun u hu => hu.takeEvent fun v hv => ?_
    split
    · split
      · exact .changed (.enterWaiting (hv.side (v.identify_trunkSide _ _ _)) _)
      · exact hv
    · exact hv
  | offHookAtStart l => exact h.running hx fun u hu => hu.takeEvent fun v hv => hv.openWaiting l
  | lockoutExpiry l => exact h.running hx fun u hu => hu.takeEvent fun v hv => hv.openWaiting l
  | hangUp l =>
    refine h.running hx fun u hu => hu.takeEvent fun v hv => ?_
    split
    · split
      · exact hv.endCall _ _
      · exact hv
    · exact hv
  | lineLost l =>
    refine h.running hx fun u hu => hu.takeEvent fun v hv => ?_
    split
    · exact hv.endCall _ _
    · exact hv
  | lineFault l kind =>
    refine h.running hx fun u hu => hu.takeEvent fun v hv => ?_
    split
    · exact hv.endCall _ _
    · exact hv
  | answered l =>
    refine h.running hx fun u hu => hu.takeEvent fun v hv => hv.side ?_
    split
    · split
      · split <;> rfl
      · rfl
    · rfl
  | aging r =>
    refine h.running hx fun u hu => ?_
    split
    · split
      · split
        · split
          · exact hu.side (u.ageCall_trunkSide _)
          · exact .changed (hu.side (u.ageCall_trunkSide _))
        · exact hu
      · exact hu
    · exact hu
  | trunkFrameReceived w f =>
    refine h.running hx fun u hu => ?_
    split
    · split
      · exact hu.goodFrame w _
      · exact hu.badFrame w
    · exact hu.badFrame w
  | accept w r =>
    refine h.running hx fun u hu => hu.takeDesk fun v _ hv => ?_
    dsimp only
    split
    · split
      · exact ((hv.connectTrunk w r).connect _ w).confirm w _
      · exact hv.refuse _ _ _
    · exact hv.refuse _ _ _
  | decline w r =>
    refine h.running hx fun u hu => hu.takeDesk fun v _ hv => ?_
    dsimp only
    split
    · exact hv.endOffer w r _
    · exact hv.refuse _ _ _
  | release w r =>
    refine h.running hx fun u hu => hu.takeDesk fun v _ hv => ?_
    dsimp only
    split
    · split
      · exact (hv.confirm w _).endCall _ _
      · exact hv.refuse _ _ _
    · exact hv.refuse _ _ _
  | hold w r =>
    refine h.running hx fun u hu => hu.takeDesk fun v hl hv => ?_
    split
    · exact hv.refuse _ _ _
    · exact hv.refuse _ _ _
    next p hr _ =>
      have hheld : ((v.mapCall p fun c => c.onHold v.cc.now).selectChain p v.ap.holdChain).trunksSound := hv.side rfl
      exact ((hheld.pushed r hl (v.stack_lt_of_not_refused hr)).confirm w _).changed
  | retrieve w =>
    refine h.running hx fun u hu => hu.takeDesk fun v _ hv => ?_
    dsimp only
    split
    · exact hv.refuse _ _ _
    · exact hv.retrieveTop w _
    · exact hv.retrieveTop w _
    · split
      next r _ => exact (State.trunksSound.retrieveTop ((hv.sendDesk w _).side (State.handBack_trunkSide _ r false)) w _).changed
      · exact hv.retrieveTop w _
    · exact hv.refuse _ _ _
  | callback w line =>
    refine h.running hx fun u hu => hu.takeDesk fun v _ hv => ?_
    split
    · exact hv.refuse _ _ _
    · split
      · exact hv.callBack w _ _
      · exact hv.refuse _ _ _
  | offerTimerExpiry w =>
    refine h.running hx fun u hu => ?_
    dsimp only
    split
    · split
      · exact hu.endOffer w _ _
      · exact hu
    · exact hu
  | guardTimerExpiry w =>
    refine h.running hx fun u hu => ?_
    dsimp only
    split
    · exact (hu.enterIdle w).changed
    · exact hu
  | minimumHoldServed r =>
    refine h.running hx fun u hu => ?_
    split
    · split
      · split
        · exact hu.examine
        · exact hu
      · exact hu
    · exact hu
  | preemptionTimerExpiry r =>
    refine h.running hx fun u hu => ?_
    split
    · split
      · exact hu.endCall _ _
      · exact hu
    · exact hu
  | ringingTimeout r =>
    refine h.running hx fun u hu => ?_
    split
    · split
      · exact hu.endCall _ _
      · exact hu
    · exact hu
  | paramSetAgingPeriod value =>
    refine h.running hx fun u hu => hu.setParam fun n v hv => ?_
    have haged := State.trunksSound.side (s := { v with cc := { v.cc with agingPeriod := n } }) (hv.side rfl)
      (State.foldl_ageIfDue_trunkSide _ false (List.finRange 48))
    dsimp only
    split
    · exact haged.changed
    · exact haged
  | paramSetEscalationThreshold value => exact h.running hx fun u hu => hu.setParam fun n v hv => .pass (hv.side rfl)
  | paramSetMinimumHold value => exact h.running hx fun u hu => hu.setParam fun n v hv => .examine (hv.side rfl)
  | clearCall body =>
    refine h.running hx fun u hu => hu.serveOnce fun v hv => ?_
    split
    · exact hv.clearCall _ _
    · exact hv.side rfl
  | trunkSet body =>
    refine h.running hx fun u hu => hu.serveOnce fun v hv => ?_
    split
    · split
      · split
        · exact hv.side rfl
        next hfree => exact hv.applyTrunkSet _ fun e => by_contra fun hs => hfree ⟨e, .inr hs⟩
      · exact hv.side rfl
    · exact hv.side rfl
  | reset body =>
    refine h.running hx fun u hu => hu.serveOnce fun v hv => ?_
    split
    · exact hv.softReset
    · exact hv.side rfl
  | trunkResetAfterDrain w =>
    refine h.running hx fun u hu => ?_
    split
    · exact (hu.resetDrained w).changed
    · exact hu
  | _ => exact absurd hm (by nofun)

/-- A millisecond changes no more of a trunk record than its timers. -/
theorem State.trunksSound.idle {s : State} (h : s.trunksSound) : s.idle.trunksSound := by
  unfold State.idle
  split
  · exact h
  · refine ⟨fun w => ?_, h.2⟩
    have hw : s.tick.trunk w = (s.trunk w).tick := Table.get_map _ _ w
    rw [hw]
    exact (h.1 w).same rfl rfl

/-- Settles O7: every command keeps trunk records and buffers within their bounds, and so does the millisecond. -/
theorem stepKeepsTrunkBounds : Obligations.StepKeepsTrunkBounds := fun _ _ h ht =>
  step_keeps (P := State.trunksSound) (fun _ _ hu => hu.side rfl) (fun _ hu => hu.idle)
    (fun c _ _ hu hx => exec_trunksSound c hu hx) h ht

end Sys2Proof.Machine
end

section
/-! TRUNK QUERY (R104). -/

namespace Sys2Proof.Machine

open Sys2Proof

/-- Settles O59: the trunk named is the one that is read and cleared. -/
theorem trunkQueryReturnsAndClearsCounts : Obligations.TrunkQueryReturnsAndClearsCounts := by
  refine fun s u o => ⟨fun ho hr => ?_, fun ho hr => ?_⟩ <;> change execTrunkQuery [o] s = _ <;>
    rw [execTrunkQuery, State.running_of _ _ hr.1, State.serveOnce_ready hr (by rfl)]
  · rw [ho]
    simp only [indexOf_trunk]
    rfl
  · simp only [indexOf_eq_none ho]
    rfl

end Sys2Proof.Machine
end

section
/-! The message receiver of a trunk (R105, R193), octet by octet and then message by message. -/

namespace Sys2Proof.Machine

open Sys2Proof

/-! ### Codes, lengths and requests -/

/-- The codes from the desk and the lengths they come with (R193). -/
theorem deskLength_iff {code : Octet} {n : Nat} : deskLength code = some n ↔
    (code.toNat, n) ∈ [(1, 3), (2, 3), (3, 3), (4, 3), (5, 1), (6, 3), (7, 2)] := by
  unfold deskLength
  generalize code.toNat = k
  split <;> simp_all [eq_comm]

/-- A code of a request with the body that its length asks for is a request (R193). -/
theorem deskLength_iff_request {code : Octet} {body : List Octet} :
    deskLength code = some (body.length + 1) ↔ ∃ q, deskRequestOf code body = some q := by
  rw [deskLength_iff]
  unfold deskRequestOf
  generalize code.toNat = k
  refine ⟨fun h => ?_, fun ⟨q, hq⟩ => ?_⟩
  · rcases k with _ | _ | _ | _ | _ | _ | _ | _ | k <;> rcases body with _ | ⟨a, _ | ⟨b, _ | ⟨c, os⟩⟩⟩ <;> simp at h
    all_goals exact ⟨_, rfl⟩
  · rcases k with _ | _ | _ | _ | _ | _ | _ | _ | k <;> rcases body with _ | ⟨a, _ | ⟨b, _ | ⟨c, os⟩⟩⟩ <;> cases hq
    all_goals simp

/-! ### One octet -/

namespace Trunk

variable {x : Trunk} {len code o : Octet} {rest : List Octet}

theorem with_receiver_self {r : MessageReceiver} (h : x.receiver = r) : { x with receiver := r } = x := by
  cases x
  cases h
  rfl

/-- Fill between messages is passed over (R105). -/
theorem takeOctet_fill (h : x.receiver = .between) : x.takeOctet 0 = x := by
  simp [Trunk.takeOctet, h, Config.messageStart]

theorem takeOctet_start (h : x.receiver = .between) : x.takeOctet 0xA5 = { x with receiver := .inside [] } := by
  simp [Trunk.takeOctet, h, Config.messageStart]

theorem takeOctet_length (h : x.receiver = .inside []) : x.takeOctet len =
    if len = 0 then x.discard .between else { x with receiver := .inside [len] } := by
  simp [Trunk.takeOctet, h]

theorem takeOctet_code (h : x.receiver = .inside [len]) : x.takeOctet code =
    if deskLength code = some len.toNat then { x with receiver := .inside [len, code] }
    else x.discard (.passing (len.toNat + 1)) := by
  simp [Trunk.takeOctet, h]

theorem takeOctet_rest (h : x.receiver = .inside (len :: code :: rest)) : x.takeOctet o =
    if rest.length < len.toNat then { x with receiver := .inside (len :: code :: (rest ++ [o])) }
    else x.complete len code (rest ++ [o]) := by
  simp [Trunk.takeOctet, h]

theorem takeOctet_passing {n : Nat} (h : x.receiver = .passing n) : x.takeOctet o =
    { x with receiver := if n ≤ 1 then .between else .passing (n - 1) } := by
  simp [Trunk.takeOctet, h]

/-! ### Octets that make a message -/

/-- Fill leaves a receiver between messages as it is (R105). -/
theorem foldl_takeOctet_fill (h : x.receiver = .between) (k : Nat) : (List.replicate k 0).foldl takeOctet x = x := by
  induction k with
  | zero => rfl
  | succ k ih => rw [List.replicate_succ, List.foldl_cons, takeOctet_fill h, ih]

/-- Of a message discarded for its code or length the rest is passed over, whatever it is (R105). -/
theorem foldl_takeOctet_passing {n : Nat} (h : x.receiver = .passing n) (hn : 0 < n) (os : List Octet)
    (hl : os.length ≤ n) : os.foldl takeOctet x =
      { x with receiver := if os.length = n then .between else .passing (n - os.length) } := by
  induction os generalizing x n with
  | nil =>
    rw [List.length_nil, if_neg hn.ne, Nat.sub_zero]
    exact (with_receiver_self h).symm
  | cons o os ih =>
    rw [List.length_cons] at hl
    rw [List.foldl_cons, takeOctet_passing h, List.length_cons]
    by_cases h1 : n ≤ 1
    · obtain rfl : os = [] := List.eq_nil_of_length_eq_zero (by omega)
      rw [if_pos h1, if_pos (by simp; omega)]
      rfl
    · rw [if_neg h1, ih (n := n - 1) rfl (by omega) (by omega)]
      simp only [show os.length = n - 1 ↔ os.length + 1 = n by omega, show n - 1 - os.length = n - (os.length + 1) by omega]

/-- The octets of a message up to the last of its check are collected (R105). -/
theorem foldl_takeOctet_rest (h : x.receiver = .inside (len :: code :: rest)) (os : List Octet)
    (hl : rest.length + os.length ≤ len.toNat) :
    os.foldl takeOctet x = { x with receiver := .inside (len :: code :: (rest ++ os)) } := by
  induction os generalizing x rest with
  | nil =>
    rw [List.append_nil]
    exact (with_receiver_self h).symm
  | cons o os ih =>
    rw [List.length_cons] at hl
    rw [List.foldl_cons, takeOctet_rest h, if_pos (by omega), ih rfl (by simp; omega), List.append_assoc]
    rfl

/-- A whole message with the length of its code is judged when its last octet has come (R105). -/
theorem foldl_takeOctet_message (h : x.receiver = .between) (hi lo : Octet) {body : List Octet}
    (hlen : deskLength code = some len.toNat) (hb : body.length + 1 = len.toNat) :
    (0xA5 :: len :: code :: (body ++ [hi, lo])).foldl takeOctet x =
      { x with receiver := .inside (len :: code :: (body ++ [hi])) }.complete len code (body ++ [hi, lo]) := by
  have hne : len ≠ 0 := by
    rintro rfl
    cases hb
  rw [List.foldl_cons, takeOctet_start h, List.foldl_cons, takeOctet_length rfl, if_neg hne, List.foldl_cons,
    takeOctet_code rfl, if_pos hlen, show body ++ [hi, lo] = (body ++ [hi]) ++ [lo] by simp, List.foldl_append,
    foldl_takeOctet_rest rfl (body ++ [hi]) (by simp; omega), List.foldl_cons, takeOctet_rest rfl,
    if_neg (by simp; omega)]
  rfl

/-- The judgement of a whole message: its check against the sum of its octets (R105). -/
theorem complete_message (hi lo : Octet) {body : List Octet} {q : DeskRequest} (hb : body.length + 1 = len.toNat)
    (hq : deskRequestOf code body = some q) : x.complete len code (body ++ [hi, lo]) =
      if sumCheck (len :: code :: body) = be16 hi lo then
        { x with receiver := .between, requests := x.requests ++ [q] }
      else x.discard .between := by
  have hlen : len.toNat - 1 = body.length := by omega
  simp [Trunk.complete, hlen, hq]

/-- A message whose code does not go with its length is discarded at its code, and passed over (R105). -/
theorem foldl_takeOctet_unknown (h : x.receiver = .between) (hne : len ≠ 0) (hlen : deskLength code ≠ some len.toNat)
    {body : List Octet} (hb : body.length ≤ len.toNat + 1) :
    (0xA5 :: len :: code :: body).foldl takeOctet x =
      { x with
        receiver := if body.length = len.toNat + 1 then .between else .passing (len.toNat + 1 - body.length)
        messageErrors := min (x.messageErrors + 1) 255 } := by
  rw [List.foldl_cons, takeOctet_start h, List.foldl_cons, takeOctet_length rfl, if_neg hne, List.foldl_cons,
    takeOctet_code rfl, if_neg hlen, foldl_takeOctet_passing rfl (Nat.succ_pos _) body hb]
  rfl

/-- A desk request sent as a message is completed and joins the requests waiting (R105, R193). -/
theorem foldl_takeOctet_enclose {q : DeskRequest} {body : List Octet} (h : x.receiver = .between)
    (hq : deskRequestOf code body = some q) :
    (enclose Config.messageStart code body).foldl takeOctet x = { x with requests := x.requests ++ [q] } := by
  have hlen := deskLength_iff_request.mpr ⟨q, hq⟩
  have hshort : body.length + 1 ≤ 3 := by
    have hmem := deskLength_iff.mp hlen
    simp only [List.mem_cons, Prod.mk.injEq, List.not_mem_nil, or_false] at hmem
    omega
  have hb : body.length + 1 = (BitVec.ofNat 8 (body.length + 1)).toNat := by
    rw [BitVec.toNat_ofNat]
    omega
  have hsum (os : List Octet) : sumCheck os < 65536 := Nat.mod_lt _ (by decide)
  refine (foldl_takeOctet_message h _ _ (hb ▸ hlen) hb).trans ?_
  rw [complete_message _ _ hb hq, if_pos (be16_octets (hsum _)).symm]
  exact with_receiver_self (x := { x with requests := x.requests ++ [q] }) h

end Trunk

/-- Settles O12: the receiver, followed octet by octet through a message. -/
theorem deskMessageIsReceived : Obligations.DeskMessageIsReceived := by
  refine ⟨fun q code body x hq hx => Trunk.foldl_takeOctet_enclose hx hq, fun x len code hi lo body hx =>
    ⟨Trunk.takeOctet_fill hx, ?_, fun hne hlen hb => ?_, fun hlen hb hsum => ?_⟩⟩
  · rw [List.foldl_cons, Trunk.takeOctet_start hx, List.foldl_cons, Trunk.takeOctet_length rfl, if_pos rfl]
    exact Trunk.with_receiver_self (x := { x with messageErrors := _ }) hx
  · exact Trunk.foldl_takeOctet_unknown hx hne (fun h => hlen (deskLength_iff.mp h)) hb
  · have hknown := deskLength_iff.mpr hlen
    obtain ⟨q, hq⟩ := deskLength_iff_request.mp (hb ▸ hknown)
    rw [Trunk.foldl_takeOctet_message hx hi lo hknown hb, Trunk.complete_message hi lo hb hq, if_neg fun h => hsum h.symm]
    exact Trunk.with_receiver_self (x := { x with messageErrors := _ }) hx

end Sys2Proof.Machine
end

section
/-! What a sent frame carries (R98, R106, R160): the next octets of the transmit list, and a block of the send buffer. -/

namespace Sys2Proof.Machine

open Sys2Proof

/-! ### The transmit list, octet by octet -/

/-- The octets still to be sent: those that the messages spell one after another, without those that have gone (R106). -/
def unsentOctets (ms : List DeskMessage) (sent : Nat) : List Octet := (ms.flatMap DeskMessage.octets).drop sent

theorem unsentOctets_cons {m : DeskMessage} {sent : Nat} (ms : List DeskMessage) (h : sent ≤ m.octets.length) :
    unsentOctets (m :: ms) sent = m.octets.drop sent ++ unsentOctets ms 0 := by
  rw [unsentOctets, unsentOctets, List.flatMap_cons, List.drop_append_of_le_length h, List.drop_zero]

section Drain

variable {ms : List DeskMessage} {sent room : Nat}

/-- A message that fits goes whole, and the next ones after it; one that does not fit goes in part (R106). -/
theorem drain_cons (m : DeskMessage) : drain (m :: ms) sent room =
    if m.octets.length - sent ≤ room then
      (m.octets.drop sent ++ (drain ms 0 (room - (m.octets.length - sent))).1,
        (drain ms 0 (room - (m.octets.length - sent))).2)
    else ((m.octets.drop sent).take room, m :: ms, sent + room) := by
  rw [drain, List.length_drop]

/-- The octets of a frame are the next ones to be sent (R106). -/
theorem drain_octets (h : ∀ m, ms.head? = some m → sent ≤ m.octets.length) :
    (drain ms sent room).1 = (unsentOctets ms sent).take room := by
  induction ms generalizing sent room with
  | nil => simp [drain, unsentOctets]
  | cons m ms ih =>
    rw [drain_cons, unsentOctets_cons ms (h m rfl)]
    split
    next hfits =>
      have hall : (m.octets.drop sent).length ≤ room := List.length_drop ▸ hfits
      rw [ih fun _ _ => Nat.zero_le _, List.take_append, List.length_drop, List.take_of_length_le hall]
    next hlong =>
      rw [List.take_append_of_le_length]
      rw [List.length_drop]
      omega

/-- What is left are the octets after them (R106). -/
theorem drain_left (h : ∀ m, ms.head? = some m → sent ≤ m.octets.length) :
    unsentOctets (drain ms sent room).2.1 (drain ms sent room).2.2 = (unsentOctets ms sent).drop room := by
  induction ms generalizing sent room with
  | nil => simp [drain, unsentOctets]
  | cons m ms ih =>
    rw [drain_cons, unsentOctets_cons ms (h m rfl)]
    split
    next hfits =>
      have hall : (m.octets.drop sent).length ≤ room := List.length_drop ▸ hfits
      rw [ih fun _ _ => Nat.zero_le _, List.drop_append, List.length_drop,
        List.drop_eq_nil_of_le hall, List.nil_append]
    next hlong =>
      have hmore : sent + room < m.octets.length := by omega
      rw [List.drop_append_of_le_length (by rw [List.length_drop]; omega), unsentOctets_cons ms hmore.le, List.drop_drop]

/-- The oldest message left has not gone whole (R106). -/
theorem drain_gone (m : DeskMessage) (h : (drain ms sent room).2.1.head? = some m) :
    (drain ms sent room).2.2 < m.octets.length := by
  induction ms generalizing sent room with
  | nil => cases h
  | cons m' ms ih =>
    rw [drain_cons] at h ⊢
    split at h
    next hfits =>
      rw [if_pos hfits]
      exact ih h
    next hlong =>
      rw [if_neg hlong]
      cases h
      dsimp only
      omega

end Drain

/-- Of the first `n` octets of a list the ones below `n` are those of the list. -/
theorem getD_take {os : List Octet} {n i : Nat} (h : i < n) : (os.take n).getD i 0 = os.getD i 0 := by
  rw [List.getD_eq_getElem?_getD, List.getD_eq_getElem?_getD, List.getElem?_take_of_lt h]

/-! ### The send buffer -/

/-- An empty buffer gives silence where no block was taken or the last one has been given again (R160). -/
theorem Buffer.take_silence {b : Buffer} (h : b.blocks = []) (hl : b.last = none ∨ b.last ≠ none ∧ b.repeated = true) :
    b.take = (Config.silenceBlock, b, false) := by
  unfold Buffer.take
  rw [h]
  rcases hl with hl | ⟨hl, hr⟩
  · simp [hl]
  · obtain ⟨x, hx⟩ := Option.ne_none_iff_exists'.mp hl
    simp [hx, hr]

/-- An empty buffer gives its last block again once, with a slip (R160). -/
theorem Buffer.take_repeat {b : Buffer} {x : Block} (h : b.blocks = []) (hl : b.last = some x) (hr : b.repeated = false) :
    b.take = (x, { b with repeated := true }, true) := by
  unfold Buffer.take
  rw [h]
  simp [hl, hr]

theorem Buffer.take_block {b : Buffer} {x : Block} {xs : List Block} (h : b.blocks = x :: xs) :
    b.take = (x, ⟨xs, false, some x⟩, false) := by
  unfold Buffer.take
  rw [h]

/-! ### TRUNK_FRAME_SENT -/

/-- The frame that trunk `u` sends next (R98). -/
def State.nextFrame (s : State) (u : TrunkNo) : TrunkFrame :=
  ⟨0x3CC3, (s.ap.send.get u).take.1, Table.ofFn fun i => (unsentOctets (s.trunk u).transmit (s.trunk u).sentOctets).getD i.val 0⟩

/-- The state in which trunk `u` has sent its next frame (R98, R106, R160). -/
def State.frameSent (s : State) (u : TrunkNo) : State :=
  { s with ap := { s.ap with
      send := s.ap.send.set u (s.ap.send.get u).take.2.1
      slips := s.ap.slips.set u (slipped (s.ap.slips.get u) (s.ap.send.get u).take.2.2) } }.setTrunk u
    { s.trunk u with
      transmit := (drain (s.trunk u).transmit (s.trunk u).sentOctets 16).2.1
      sentOctets := (drain (s.trunk u).transmit (s.trunk u).sentOctets 16).2.2
      lastFrame := some (s.nextFrame u) }

theorem exec_trunkFrameSent {s : State} {u : TrunkNo} (hs : s.held = false)
    (h : ∀ m, (s.trunk u).transmit.head? = some m → (s.trunk u).sentOctets ≤ m.octets.length) :
    exec (.trunkFrameSent u) s = .next (s.frameSent u) := by
  have hos : (fun i : Fin 16 => (drain (s.trunk u).transmit (s.trunk u).sentOctets 16).1.getD i.val 0) =
      fun i => (unsentOctets (s.trunk u).transmit (s.trunk u).sentOctets).getD i.val 0 := by
    funext i
    rw [drain_octets h, getD_take i.isLt]
  change execTrunkFrameSent u s = _
  rw [execTrunkFrameSent, State.running_of _ _ hs, State.frameSent, State.nextFrame, ← hos]
  rfl

section FrameSent

variable (s : State) (u : TrunkNo)

theorem State.frameSent_trunk : (s.frameSent u).trunk u =
    { s.trunk u with
      transmit := (drain (s.trunk u).transmit (s.trunk u).sentOctets 16).2.1
      sentOctets := (drain (s.trunk u).transmit (s.trunk u).sentOctets 16).2.2
      lastFrame := some (s.nextFrame u) } := State.trunk_setTrunk_self _ _ _

theorem State.frameSent_send : (s.frameSent u).ap.send.get u = (s.ap.send.get u).take.2.1 := by
  simp [State.frameSent]

theorem State.frameSent_slips : (s.frameSent u).ap.slips.get u =
    slipped (s.ap.slips.get u) (s.ap.send.get u).take.2.2 := by
  simp [State.frameSent]

end FrameSent

/-- Settles O33: the octets are the next of those to be sent, and the block is the one that the buffer gives. -/
theorem trunkFrameCarriesMessageAndFill : Obligations.TrunkFrameCarriesMessageAndFill := by
  refine ⟨fun s u m x xs hs h0 hb => ⟨fun hm => ?_, fun hm hlen => ?_⟩, fun s u os b hs hsent hos hb => ?_⟩
  · refine ⟨s.frameSent u, exec_trunkFrameSent hs (by rw [hm]; nofun), ?_, ?_, ?_⟩
    · rw [State.frameSent_trunk]
      simp [State.nextFrame, Buffer.take_block hb, hm, unsentOctets]
      rfl
    · rw [State.frameSent_send, Buffer.take_block hb]
    · rw [State.frameSent_trunk]
      simp [hm, drain]
  · refine ⟨s.frameSent u, exec_trunkFrameSent hs (by rw [h0]; exact fun _ _ => Nat.zero_le _), ?_, ?_, ?_⟩
    · rw [State.frameSent_trunk]
      simp [State.nextFrame, Buffer.take_block hb, hm, h0, unsentOctets]
    · rw [State.frameSent_send, Buffer.take_block hb]
    · rw [State.frameSent_trunk, hm, h0]
      simp [drain, hlen]
  · subst hb
    have hle (m : DeskMessage) (hm : (s.trunk u).transmit.head? = some m) : (s.trunk u).sentOctets ≤ m.octets.length :=
      (hsent m hm).le
    refine ⟨s.frameSent u, (s.ap.send.get u).take.1, exec_trunkFrameSent hs hle, ?_, ?_, ?_, ?_, ?_, ?_, ?_, ?_⟩
    · rw [State.frameSent_trunk, State.frameSent_send, State.frameSent_slips, hos]
      rfl
    · rw [State.frameSent_trunk, hos]
      exact drain_left hle
    · rw [State.frameSent_trunk]
      exact drain_left_suffix _ _ _
    · rw [State.frameSent_trunk]
      exact fun m hm => drain_gone m hm
    · intro x xs hx
      rw [State.frameSent_send, State.frameSent_slips, Buffer.take_block hx]
      exact ⟨rfl, rfl, rfl⟩
    · intro hx hl
      rw [State.frameSent_send, State.frameSent_slips, Buffer.take_silence hx (.inl hl)]
      exact ⟨rfl, rfl, rfl⟩
    · intro x hx hl hr
      rw [State.frameSent_send, State.frameSent_slips, Buffer.take_repeat hx hl hr]
      exact ⟨rfl, rfl, rfl⟩
    · intro hx hl hr
      rw [State.frameSent_send, State.frameSent_slips, Buffer.take_silence hx (.inr ⟨hl, hr⟩)]
      exact ⟨rfl, rfl, rfl⟩

end Sys2Proof.Machine
end

section
/-! What a received frame does (R98, R99, R102, R105): a good one to its buffer and its receiver, a bad one to the counts,
and the tenth good one to the link. -/

namespace Sys2Proof.Machine

open Sys2Proof

@[simp] theorem State.report_trunk (s : State) (r : Report) (u : TrunkNo) : (s.report r).trunk u = s.trunk u := by
  rw [State.trunk, State.report_ti]
  rfl

@[simp] theorem State.record_trunk (s : State) (k : RecordKind) (u : TrunkNo) : (s.record k).trunk u = s.trunk u := by
  rw [State.trunk, State.record_ti]
  rfl

/-! ### Frames, by what they are -/

/-- A trunk that has received a valid frame, its signalling apart (R99). -/
def Trunk.wellFramed (x : Trunk) : Trunk := { x with goodRun := min (x.goodRun + 1) 10, badRun := 0 }

/-- A trunk that has received a bad frame (R99, R105). -/
def Trunk.badlyFramed (x : Trunk) : Trunk :=
  { x with
    frameErrors := min (x.frameErrors + 1) 65535
    goodRun := 0
    badRun := min (x.badRun + 1) 3
    receiver := .between
    messageErrors := match x.receiver with
      | .inside _ => min (x.messageErrors + 1) 255
      | _ => x.messageErrors }

/-- A message cut short by a bad frame is counted (R105). -/
theorem Trunk.cutShort_badlyFramed (x : Trunk) : { x.cutShort with
    frameErrors := cap16 (x.cutShort.frameErrors + 1), goodRun := 0, badRun := min (x.cutShort.badRun + 1) 3 } =
      x.badlyFramed := by
  unfold Trunk.cutShort Trunk.badlyFramed
  cases h : x.receiver <;> rfl

/-- A desk request that is sent as a message with fill after it joins the requests waiting (R105, R106). -/
theorem Trunk.foldl_takeOctet_enclose_fill {x : Trunk} {q : DeskRequest} {code : Octet} {body : List Octet}
    (h : x.receiver = .between) (hq : deskRequestOf code body = some q) (k : Nat) :
    (enclose Config.messageStart code body ++ List.replicate k 0).foldl Trunk.takeOctet x =
      { x with requests := x.requests ++ [q] } := by
  rw [List.foldl_append, Trunk.foldl_takeOctet_enclose h hq]
  exact Trunk.foldl_takeOctet_fill (x := { x with requests := x.requests ++ [q] }) h k

section Frames

variable {s t v : State} {u : TrunkNo} {f : TrunkFrame} {frame : Option TrunkFrame} {b : Block}

theorem exec_goodFrame (hs : s.held = false) (hf : f.marker = 0x3CC3) :
    exec (.trunkFrameReceived u (some f)) s = .next (s.goodFrame u f) := by
  change execTrunkFrameReceived u (some f) s = _
  rw [execTrunkFrameReceived, State.running_of _ _ hs]
  exact congrArg _ (if_pos hf)

theorem exec_badFrame (hs : s.held = false) (hf : ∀ f, frame = some f → f.marker ≠ 0x3CC3) :
    exec (.trunkFrameReceived u frame) s = .next (s.badFrame u) := by
  change execTrunkFrameReceived u frame s = _
  rw [execTrunkFrameReceived, State.running_of _ _ hs]
  cases frame with
  | none => rfl
  | some f => exact congrArg _ (if_neg (hf f rfl))

/-! ### A good frame (R98, R99, R159, R161) -/

/-- Handing over audio is told by the buffers and the slip counts alone (R159, R161). -/
theorem State.audioHanded.congr (h : s.audioHanded t u b) (hr : v.ap.receive = t.ap.receive) (hs : v.ap.send = t.ap.send)
    (hn : v.ap.slips = t.ap.slips) : s.audioHanded v u b := by
  unfold State.audioHanded at h ⊢
  rwa [hr, hs, hn]

theorem State.pushReceive_audioHanded (s : State) (u : TrunkNo) (b : Block) : s.audioHanded (s.pushReceive u b) u b := by
  have hap : (s.pushReceive u b).ap = { s.ap with
      receive := s.ap.receive.set u ((s.ap.receive.get u).append b).1
      slips := s.ap.slips.set u (slipped (s.ap.slips.get u) ((s.ap.receive.get u).append b).2) } := rfl
  rw [State.audioHanded, hap]
  refine ⟨rfl, by simp, by simp, fun hroom => ?_, fun hfull => ?_⟩
  · have happend : (s.ap.receive.get u).append b = _ := if_pos hroom
    simp [happend, slipped]
  · have happend : (s.ap.receive.get u).append b = _ := if_neg (Nat.not_lt.mpr hfull)
    simp [happend, slipped, cap16]

/-- A good frame by the link of its trunk (R98, R102, R123). -/
theorem State.goodFrame_eq (s : State) (u : TrunkNo) (f : TrunkFrame) : s.goodFrame u f =
    if (s.trunk u).link = .up then (s.pushReceive u f.audio).setTrunk u
      (if (s.trunk u).draining then (s.trunk u).wellFramed
        else f.signalling.cells.foldl Trunk.takeOctet (s.trunk u).wellFramed)
    else if min ((s.trunk u).goodRun + 1) 10 = 10 then
      ((s.pushReceive u f.audio).setTrunk u (s.trunk u).wellFramed).linkUp u
    else (s.pushReceive u f.audio).setTrunk u (s.trunk u).wellFramed := rfl

/-- A valid frame that does not bring the link UP changes its trunk and the receive buffer (R98, R99). -/
theorem State.goodFrame_of_not_tenth (h : (s.trunk u).link = .up ∨ (s.trunk u).goodRun < 9) :
    s.goodFrame u f = (s.pushReceive u f.audio).setTrunk u
      (if (s.trunk u).link = .up ∧ (s.trunk u).draining = false then
        f.signalling.cells.foldl Trunk.takeOctet (s.trunk u).wellFramed
      else (s.trunk u).wellFramed) := by
  rw [State.goodFrame_eq]
  by_cases hl : (s.trunk u).link = .up
  · cases hd : (s.trunk u).draining <;> simp [hl]
  · have hg := h.resolve_left hl
    rw [if_neg hl, if_neg (by omega), if_neg fun hup => hl hup.1]

/-- The tenth valid frame in a row brings a DOWN link UP (R102). -/
theorem State.goodFrame_of_tenth (hl : (s.trunk u).link = .down) (hg : (s.trunk u).goodRun = 9) :
    s.goodFrame u f = ((s.pushReceive u f.audio).setTrunk u (s.trunk u).wellFramed).linkUp u := by
  have hdown : (s.trunk u).link ≠ .up := by rw [hl]; nofun
  rw [State.goodFrame_eq, if_neg hdown, if_pos (by rw [hg]; rfl)]

/-- A bad frame, the third in a row taking an UP link DOWN (R99, R100). -/
theorem State.badFrame_eq (s : State) (u : TrunkNo) : s.badFrame u =
    if (s.trunk u).link = .up ∧ 2 ≤ (s.trunk u).badRun then (s.setTrunk u (s.trunk u).badlyFramed).linkLoss u
    else s.setTrunk u (s.trunk u).badlyFramed := by
  have hrun : min ((s.trunk u).badRun + 1) 3 = 3 ↔ 2 ≤ (s.trunk u).badRun := by omega
  have heq : s.badFrame u = (fun x : Trunk => if x.link = .up ∧ x.badRun = 3 then (s.setTrunk u x).linkLoss u
      else s.setTrunk u x) { (s.trunk u).cutShort with
        frameErrors := cap16 ((s.trunk u).cutShort.frameErrors + 1), goodRun := 0
        badRun := min ((s.trunk u).cutShort.badRun + 1) 3 } := rfl
  rw [heq, Trunk.cutShort_badlyFramed]
  exact if_congr (and_congr Iff.rfl hrun) rfl rfl

/-! ### The link coming up (R102) -/

/-- Trunk states are reported by frames, services and links, not by judgements (R103, R121). -/
theorem State.trunkState_of_changed {w : TrunkNo} {st : TrunkState} {k : TrunkReportCause}
    (h : .report (.trunkState w st k) ∈ s.changed.link.output) : .report (.trunkState w st k) ∈ s.link.output := by
  have hj := s.changed_judgedTo
  by_cases hn : s.changed.ti.noTrunk = s.ti.noTrunk
  · rwa [hj.same hn] at h
  · rw [hj.turned hn, State.report_link] at h
    split at h
    · refine (List.mem_append.mp h).resolve_right fun hlast => ?_
      unfold State.noTrunkReport at hlast
      split at hlast <;> simp at hlast
    · exact h

/-- A trunk whose link has come UP (R102). -/
def Trunk.linkedUp (x : Trunk) : Trunk := { x with link := .up, receiver := .between }

/-- A link that comes UP with the trunk LINK DOWN (R102). -/
theorem State.linkUp_of_linkDown (h : (s.trunk u).state = .linkDown) : s.linkUp u =
    (((s.setTrunk u ((s.trunk u).linkedUp.idling s.cc.now)).record
      (.trunk u false)).report (.trunkState u .idle .restore)).changed := by
  unfold State.linkUp
  dsimp only
  rw [State.trunk_mapTrunk_self, if_pos h, State.enterIdle_eq, State.trunk_mapTrunk_self, State.mapTrunk,
    State.setTrunk_setTrunk]
  rfl

/-- A link that comes UP with the trunk in another state (R102). -/
theorem State.linkUp_of_not_linkDown (h : (s.trunk u).state ≠ .linkDown) : s.linkUp u =
    (s.setTrunk u (s.trunk u).linkedUp).changed := by
  unfold State.linkUp
  dsimp only
  rw [State.trunk_mapTrunk_self, if_neg h]
  rfl

/-- A pass leaves the link, the receiver and the runs of a trunk alone (R84). -/
theorem State.passedTo.trunk_link {x : Trunk} (h : s.passedTo t) (hx : s.trunk u = x) : (t.trunk u).link = x.link ∧
    (t.trunk u).receiver = x.receiver ∧ (t.trunk u).goodRun = x.goodRun ∧
    (t.trunk u).badRun = x.badRun ∧ (t.trunk u).requests = x.requests := by
  obtain ⟨hframe, -⟩ := h.trunks u
  rw [hframe, hx]
  exact ⟨rfl, rfl, rfl, rfl, rfl⟩

/-- A trunk whose link has come UP, after the pass that follows (R84, R102). -/
theorem State.linkUp_trunk (s : State) (u : TrunkNo) : ((s.linkUp u).trunk u).link = .up ∧
    ((s.linkUp u).trunk u).receiver = .between ∧ ((s.linkUp u).trunk u).goodRun = (s.trunk u).goodRun ∧
    ((s.linkUp u).trunk u).badRun = (s.trunk u).badRun ∧ ((s.linkUp u).trunk u).requests = (s.trunk u).requests := by
  by_cases hs : (s.trunk u).state = .linkDown
  · rw [State.linkUp_of_linkDown hs]
    exact State.passedTo.trunk_link (State.changed_passedTo _)
      ((State.report_trunk _ _ _).trans ((State.record_trunk _ _ _).trans (State.trunk_setTrunk_self _ _ _)))
  · rw [State.linkUp_of_not_linkDown hs]
    exact State.passedTo.trunk_link (State.changed_passedTo _) (State.trunk_setTrunk_self _ _ _)

/-- A trunk that leaves LINK DOWN: IDLE or offered a call, reported and recorded (R102). -/
theorem State.linkUp_restores (h : (s.trunk u).state = .linkDown) :
    (((s.linkUp u).trunk u).state = .idle ∧ ((s.linkUp u).trunk u).idleSince = some s.cc.now ∨
      ((s.linkUp u).trunk u).state = .offering) ∧
    (s.link.reports + (if s.journal.levelDue then 1 else 0) < 16 →
      .report (.trunkState u .idle .restore) ∈ (s.linkUp u).link.output) ∧
    (s.journal.exhausted = false → (s.linkUp u).journal.records =
      Journal.append s.journal.records ⟨s.journal.nextSequence, s.stamp, .trunk u false⟩) := by
  rw [State.linkUp_of_linkDown h]
  refine ⟨?_, fun hroom => ?_, fun he => ?_⟩
  · rcases State.changed_trunk_cases (State.report _ _) u with hx | ⟨-, ho, -⟩
    · rw [hx]
      exact .inl ⟨by simp [Trunk.idling], by simp [Trunk.idling]⟩
    · exact .inr ho
  · exact (State.changed_passedTo _).output.subset (State.mem_record_report hroom)
  · rw [(State.changed_passedTo _).journal, State.report_journal]
    exact congrArg Journal.records (State.record_journal (s := s.setTrunk u ((s.trunk u).linkedUp.idling s.cc.now)) he)

/-- A trunk OUT OF SERVICE whose link comes UP stays so, with no record and no report of a trunk's state (R102). -/
theorem State.linkUp_of_outOfService (h : (s.trunk u).state = .outOfService) :
    ((s.linkUp u).trunk u).state = .outOfService ∧ (s.linkUp u).journal = s.journal ∧
    ∀ v st k, .report (.trunkState v st k) ∈ (s.linkUp u).link.output → .report (.trunkState v st k) ∈ s.link.output := by
  rw [State.linkUp_of_not_linkDown (by rw [h]; nofun)]
  have hpass := State.changed_passedTo (s.setTrunk u (s.trunk u).linkedUp)
  obtain ⟨-, -, hframe⟩ := hpass.trunks u
  rw [State.trunk_setTrunk_self] at hframe
  refine ⟨?_, hpass.journal, fun v st k hm =>
    State.trunkState_of_changed (s := s.setTrunk u (s.trunk u).linkedUp) hm⟩
  have hx : (s.trunk u).linkedUp.state = .outOfService := h
  rw [hframe (by rw [hx]; nofun)]
  exact hx

theorem State.linkUp_ap (s : State) (u : TrunkNo) : (s.linkUp u).ap = { s.ap with players := (s.linkUp u).ap.players } := by
  by_cases hs : (s.trunk u).state = .linkDown
  · rw [State.linkUp_of_linkDown hs]
    refine (State.changed_passedTo _).ap.trans ?_
    rw [State.report_ap, State.record_ap]
    rfl
  · rw [State.linkUp_of_not_linkDown hs]
    exact (State.changed_passedTo (s.setTrunk u (s.trunk u).linkedUp)).ap

end Frames

/-- Settles O31: a frame by what it is, and the tenth good one by the state of its trunk. -/
theorem trunkFramesAreJudged : Obligations.TrunkFramesAreJudged := by
  refine ⟨fun s u f x hs hf hrun hx => ?_, fun s u frame hs hf hrun => ?_, fun s u f hs hf hl hg => ?_⟩
  · subst hx
    refine ⟨_, (exec_goodFrame hs hf).trans (congrArg _ (State.goodFrame_of_not_tenth hrun)),
      (s.pushReceive_audioHanded u f.audio).congr rfl rfl rfl, ?_, fun hoff => ?_, fun hl hd => ?_⟩
    · rw [State.trunk_setTrunk_self]
      rfl
    · rw [State.trunk_setTrunk_self, if_neg]
      · rfl
      · rintro ⟨hl, hd⟩
        rcases hoff with h | h
        · exact absurd (hl.symm.trans h) (by decide)
        · exact absurd (hd.symm.trans h) (by decide)
    · rw [State.trunk_setTrunk_self, if_pos ⟨hl, hd⟩]
      refine ⟨rfl, fun hb hfill => ?_, fun q code body k hb hq hcells => ?_⟩
      · rw [hfill]
        exact Trunk.foldl_takeOctet_fill hb 16
      · rw [hcells]
        exact Trunk.foldl_takeOctet_enclose_fill hb hq k
  · rw [exec_badFrame hs hf, State.badFrame_eq, if_neg]
    · rfl
    · rintro ⟨hl, hb⟩
      rcases hrun with h | h
      · exact absurd (hl.symm.trans h) (by decide)
      · omega
  · have hx : ((s.pushReceive u f.audio).setTrunk u (s.trunk u).wellFramed).trunk u = (s.trunk u).wellFramed :=
      State.trunk_setTrunk_self _ _ _
    obtain ⟨hup, hreceiver, hgood, hbad, hrequests⟩ :=
      State.linkUp_trunk ((s.pushReceive u f.audio).setTrunk u (s.trunk u).wellFramed) u
    rw [hx] at hgood hbad hrequests
    have hap := State.linkUp_ap ((s.pushReceive u f.audio).setTrunk u (s.trunk u).wellFramed) u
    refine ⟨_, (exec_goodFrame hs hf).trans (congrArg _ (State.goodFrame_of_tenth hl hg)),
      (s.pushReceive_audioHanded u f.audio).congr (by rw [hap]; rfl) (by rw [hap]; rfl) (by rw [hap]; rfl), hup, hreceiver,
      hgood.trans ?_, hbad, hrequests, fun hst => ?_, fun hst => ?_⟩
    · rw [Trunk.wellFramed, hg]
      rfl
    · exact State.linkUp_restores (s := (s.pushReceive u f.audio).setTrunk u (s.trunk u).wellFramed) (by rw [hx]; exact hst)
    · exact State.linkUp_of_outOfService (s := (s.pushReceive u f.audio).setTrunk u (s.trunk u).wellFramed)
        (by rw [hx]; exact hst)

end Sys2Proof.Machine
end

section
/-! The rescue of the calls of a lost trunk (R81, R101), one by one: what each rescue writes, and what a row of rescues
leaves alone. -/

namespace Sys2Proof.Machine

open Sys2Proof

section Rescues

variable {s t v : State} {p q : LineNo} {a b c : Call} {r : CallRef} {u : TrunkNo} {k : Cause}

/-! ### One call back to the queue (R80, R81) -/

/-- The call in place `p` goes back to the queue, rescued (R81, R101). -/
def State.requeued (s : State) (p : LineNo) (a : Call) : State :=
  (s.setCall p (some (a.rescuedAs a.state))).enterWaiting p

theorem Call.rescuedAs_frame (a : Call) (st : CallState) : a.rescuedAs st =
    { a with rescued := true, identity := (a.rescuedAs st).identity } := by
  unfold Call.rescuedAs
  split <;> rfl

/-- The chain that a rescued call is on: the one it has if it comes from OFFERED, else its waiting chain from step 1 (R154). -/
def State.channelFor (s : State) (p : LineNo) (c : Call) (y : Player) : Prop :=
  (c.state = .offered → y = s.ap.players.get p) ∧
    ∀ i, c.state ≠ .offered → c.identity = some i →
      y = .active i.snapshot.waitingChain (startStep (s.ap.chains.get i.snapshot.waitingChain) 1)

theorem CallIdentity.rescuedClass_snapshot (i : CallIdentity) : i.rescuedClass.snapshot = i.snapshot := by
  unfold CallIdentity.rescuedClass
  split <;> rfl

/-- A rescued call keeps its snapshot (R70, R81). -/
theorem Call.rescuedAs_snapshot (a : Call) (st : CallState) :
    (a.rescuedAs st).identity.map CallIdentity.snapshot = a.identity.map CallIdentity.snapshot := by
  unfold Call.rescuedAs
  split
  · rfl
  · simp [Function.comp_def, CallIdentity.rescuedClass_snapshot]

/-- A call rescued enters WAITING: its record, its channel and the queue are written (R80, R81, R154). -/
theorem State.requeued_eq (s : State) (p : LineNo) (a : Call) : ∃ q y, a.ref ∈ q ∧ (∀ r ∈ s.cc.queue, r ∈ q) ∧
    s.channelFor p a y ∧ s.requeued p a =
      ((s.setCall p (some ((a.rescuedAs a.state).toWaiting s.cc.now))).setQueue q).setPlayer p y := by
  set d := a.rescuedAs a.state with hd
  have href : d.ref = a.ref := by rw [hd, a.rescuedAs_frame]
  have hstate : d.state = a.state := by rw [hd, a.rescuedAs_frame]
  have hget : (s.setCall p (some d)).cc.calls.get p = some d := Table.get_set_self _ _ _
  have hqueue (look : CallRef → Option Call) (r : CallRef) :
      r ∈ insertByKey look (d.toWaiting s.cc.now) s.cc.queue ↔ r = a.ref ∨ r ∈ s.cc.queue := by
    rw [(insertByKey_perm look (d.toWaiting s.cc.now) s.cc.queue).mem_iff, List.mem_cons, ← href]
    rfl
  have hset : (s.setCall p (some d)).setCall p (some (d.toWaiting s.cc.now)) = s.setCall p (some (d.toWaiting s.cc.now)) := by
    simp [State.setCall]
  rcases State.enterWaiting_of_some hget with ⟨he, hor⟩ | ⟨i, hi, ho, he⟩
  · refine ⟨insertByKey (s.setCall p (some (d.toWaiting s.cc.now))).callOfRef (d.toWaiting s.cc.now) s.cc.queue,
      s.ap.players.get p, (hqueue _ _).mpr (.inl rfl), fun r hr => (hqueue _ _).mpr (.inr hr),
      ⟨fun _ => rfl, fun i hn hi => ?_⟩, he.trans ?_⟩
    · have hsnap := a.rescuedAs_snapshot a.state
      rw [← hd, hor.resolve_left (hstate ▸ hn), hi] at hsnap
      cases hsnap
    · rw [State.setCall_cc, hset, State.enqueue_of_some (c := d.toWaiting s.cc.now) (Table.get_set_self _ _ _)]
      exact (State.setPlayer_same _ p).symm
  · refine ⟨insertByKey (s.setCall p (some (d.toWaiting s.cc.now))).callOfRef (d.toWaiting s.cc.now) s.cc.queue,
      .active i.snapshot.waitingChain (startStep (s.ap.chains.get i.snapshot.waitingChain) 1), (hqueue _ _).mpr (.inl rfl),
      fun r hr => (hqueue _ _).mpr (.inr hr), ⟨fun e => absurd (hstate.trans e) ho, fun j _ hj => ?_⟩, he.trans ?_⟩
    · have hsnap := a.rescuedAs_snapshot a.state
      rw [← hd, hi, hj] at hsnap
      rw [show j.snapshot = i.snapshot from (Option.some.inj hsnap).symm]
    · rw [State.setCall_cc, hset, ← State.enqueue_selectChain, State.enqueue_of_some (c := d.toWaiting s.cc.now)
        (Table.get_set_self _ _ _)]
      rfl

/-- A call put back in the queue leaves the other places as they are. -/
theorem State.requeued_ne (s : State) (a : Call) (h : p ≠ q) :
    (s.requeued p a).cc.calls.get q = s.cc.calls.get q ∧ (s.requeued p a).ap.players.get q = s.ap.players.get q := by
  obtain ⟨w, y, -, -, -, heq⟩ := s.requeued_eq p a
  rw [heq]
  exact ⟨Table.get_set_ne _ _ h, Table.get_set_ne _ _ h⟩

/-! ### One rescue (R101) -/

/-- A call that is not on a trunk is not rescued (R101). -/
theorem State.rescue_of_idle (hp : s.placeOfRef r = some p) (ha : s.cc.calls.get p = some a)
    (h : a.state = .originating ∨ a.state = .waiting) : s.rescue r = s := by
  unfold State.rescue
  rw [hp]
  dsimp only
  rw [ha, Option.map_some]
  rcases h with h | h <;> rw [h]

/-- A rescue ends a RINGING call, puts any other that a trunk can have back in the queue, and leaves the rest (R101). -/
theorem State.rescue_cases (s : State) (r : CallRef) : s.rescue r = s ∨
    ∃ p a, s.placeOfRef r = some p ∧ s.cc.calls.get p = some a ∧ a.ref = r ∧
      (a.state = .ringing ∧ s.rescue r = s.ended p a .trunkLost ∨
        a.state ≠ .ringing ∧ s.rescue r = (s.requeued p a).changed) := by
  cases hp : s.placeOfRef r with
  | none =>
    unfold State.rescue
    rw [hp]
    exact .inl rfl
  | some p =>
    obtain ⟨a, ha, rfl⟩ := State.placeOfRef_spec hp
    by_cases hidle : a.state = .originating ∨ a.state = .waiting
    · exact .inl (State.rescue_of_idle hp ha hidle)
    · obtain ⟨ho, hw⟩ := not_or.mp hidle
      refine .inr ⟨p, a, rfl, ha, rfl, ?_⟩
      rw [State.rescue_of_some hp ha ho hw]
      by_cases hr : a.state = .ringing
      · rw [if_pos hr, State.endCall_of_some ha, hr]
        exact .inl ⟨rfl, rfl⟩
      · rw [if_neg hr]
        exact .inr ⟨hr, rfl⟩

/-! ### What rescues leave alone -/

/-- A trunk whose link is DOWN and that has let go of its calls (R100). -/
def Trunk.lost (x : Trunk) : Prop := x.link = .down ∧ x.current = none ∧ x.stack = []

/-- `t` is `s` after rescues, ends and passes, the link of trunk `u` being lost: what is said of the state beside them, of
trunk `u`, of free places, of references and of calls that are not RINGING. -/
structure State.rescuing (u : TrunkNo) (s t : State) : Prop where
  beside : t.besideEnds = s.besideEnds
  output : s.link.output <+: t.link.output
  ends : s.callEnds <+: t.callEnds
  trunk : (s.trunk u).lost → t.trunk u = s.trunk u
  free : ∀ p, s.cc.calls.get p = none → t.cc.calls.get p = none ∧ t.ap.players.get p = s.ap.players.get p
  refs : ∀ p, t.cc.calls.get p = none ∨ (t.cc.calls.get p).map Call.ref = (s.cc.calls.get p).map Call.ref
  live : ∀ p a, s.cc.calls.get p = some a → a.state ≠ .ringing → ∃ b, t.cc.calls.get p = some b ∧ b.state ≠ .ringing

namespace State.rescuing

theorem refl (u : TrunkNo) (s : State) : s.rescuing u s where
  beside := rfl
  output := List.prefix_rfl
  ends := List.prefix_rfl
  trunk _ := rfl
  free _ h := ⟨h, rfl⟩
  refs _ := .inr rfl
  live _ a h hn := ⟨a, h, hn⟩

theorem trans (h : s.rescuing u t) (g : t.rescuing u v) : s.rescuing u v where
  beside := g.beside.trans h.beside
  output := h.output.trans g.output
  ends := h.ends.trans g.ends
  trunk hl := (g.trunk (h.trunk hl ▸ hl)).trans (h.trunk hl)
  free p hp := by
    obtain ⟨ht, hpt⟩ := h.free p hp
    obtain ⟨hv, hpv⟩ := g.free p ht
    exact ⟨hv, hpv.trans hpt⟩
  refs p := by
    rcases g.refs p with hv | hv
    · exact .inl hv
    · rcases h.refs p with ht | ht
      · rw [ht, Option.map_none, Option.map_eq_none_iff] at hv
        exact .inl hv
      · exact .inr (hv.trans ht)
  live p a ha hn := by
    obtain ⟨b, hb, hbn⟩ := h.live p a ha hn
    exact g.live p b hb hbn

/-- A call found by its reference, and still there, is found by it (R72). -/
theorem placeOfRef (h : s.rescuing u t) (hp : s.placeOfRef r = some p) (hb : t.cc.calls.get p = some b) :
    t.placeOfRef r = some p := by
  obtain ⟨a, ha, rfl⟩ := State.placeOfRef_spec hp
  have href : (t.cc.calls.get p).map Call.ref = some a.ref := by
    rcases h.refs p with hn | hr
    · rw [hn] at hb
      cases hb
    · rw [hr, ha]
      rfl
  rw [State.placeOfRef, State.placeWhere, List.find?_eq_some_iff_append] at hp ⊢
  obtain ⟨-, before, after, hsplit, hbefore⟩ := hp
  refine ⟨by rw [href, beq_self_eq_true], before, after, hsplit, fun q hq => ?_⟩
  rcases h.refs q with hn | hr
  · rw [hn]
    rfl
  · rw [hr]
    exact hbefore q hq

/-- A call found by its reference that is not RINGING is found where it was (R101). -/
theorem placeOfRef_live (h : s.rescuing u t) (hp : s.placeOfRef r = some p) (ha : s.cc.calls.get p = some a)
    (hn : a.state ≠ .ringing) : t.placeOfRef r = some p := by
  obtain ⟨b, hb, -⟩ := h.live p a ha hn
  exact h.placeOfRef hp hb

theorem of_passedTo (h : s.passedTo t) (hu : (s.trunk u).lost → t.trunk u = s.trunk u) : s.rescuing u t where
  beside := by rw [State.besideEnds, State.besideEnds, h.beside, h.journal]
  output := h.output
  ends := by rw [State.eq_of_besidePass h.beside]
  trunk := hu
  free p hp := ⟨h.free p hp, h.players p fun a ha => by rw [hp] at ha; cases ha⟩
  refs p := .inr (h.map_ref p)
  live p a ha hn := by
    obtain ⟨b, hb, hab⟩ := h.calls p a ha
    refine ⟨b, hb, ?_⟩
    rcases hab with rfl | ⟨-, hab⟩ | ⟨-, hab⟩
    · exact hn
    · rw [hab]
      nofun
    · rw [hab]
      nofun

theorem changed (u : TrunkNo) (s : State) : s.rescuing u s.changed :=
  of_passedTo s.changed_passedTo fun ⟨hd, _, _⟩ => State.changed_trunk_of_down (by rw [hd]; nofun)

theorem judgeNoTrunk (u : TrunkNo) (s : State) : s.rescuing u s.judgeNoTrunk :=
  of_passedTo s.judgeNoTrunk_passedTo fun _ => s.judgeNoTrunk_trunk u

/-- What leaves the CC, the trunks and the channels alone, and takes nothing off the output list. -/
theorem of_callSide (hs : t.callSide = s.callSide) (hb : t.besideEnds = s.besideEnds) (ho : s.link.output <+: t.link.output)
    (he : t.callEnds = s.callEnds) : s.rescuing u t := by
  simp only [State.callSide, Prod.mk.injEq] at hs
  obtain ⟨hcc, hti, hap⟩ := hs
  exact
    { beside := hb, output := ho, ends := by rw [he]
      trunk := fun _ => congrArg (Table.get · u) hti
      free := fun p hp => ⟨by rw [hcc]; exact hp, by rw [hap]⟩
      refs := fun p => .inr (by rw [hcc])
      live := fun p a ha hn => ⟨a, by rw [hcc]; exact ha, hn⟩ }

theorem record (u : TrunkNo) (s : State) (k : RecordKind) : s.rescuing u (s.record k) :=
  of_callSide (by simp) (s.record_besideEnds k) (s.output_prefix_record k) (by simp)

theorem report (u : TrunkNo) (s : State) (r : Report) : s.rescuing u (s.report r) :=
  of_callSide (by simp) (s.report_besideEnds r) (s.output_prefix_report r) (by simp)

/-- A place rewritten with a call of the same reference that is not RINGING. -/
theorem requeued (u : TrunkNo) (ha : s.cc.calls.get p = some a) : s.rescuing u (s.requeued p a) := by
  obtain ⟨q, y, -, -, -, heq⟩ := s.requeued_eq p a
  rw [heq]
  have href : ((a.rescuedAs a.state).toWaiting s.cc.now).ref = a.ref := by rw [a.rescuedAs_frame]; rfl
  have hcalls (w : LineNo) : (((s.setCall p (some ((a.rescuedAs a.state).toWaiting s.cc.now))).setQueue q).setPlayer p
      y).cc.calls.get w = if p = w then some ((a.rescuedAs a.state).toWaiting s.cc.now) else s.cc.calls.get w :=
    Table.get_set _ _ _ _
  exact
    { beside := rfl, output := List.prefix_rfl, ends := List.prefix_rfl, trunk := fun _ => rfl
      free := fun w hw => by
        have hne : p ≠ w := fun e => by
          rw [e, hw] at ha
          cases ha
        exact ⟨by rw [hcalls, if_neg hne, hw], Table.get_set_ne _ _ hne⟩
      refs := fun w => .inr (by
        rw [hcalls]
        split
        next e => rw [← e, ha, Option.map_some, href]; rfl
        next => rfl)
      live := fun w b hb hn => by
        rw [hcalls]
        split
        · exact ⟨_, rfl, nofun⟩
        · exact ⟨b, hb, hn⟩ }

/-- A trunk that is lost has nothing more to lose by the end of a call (R90, R100). -/
theorem ended (u : TrunkNo) (ha : s.cc.calls.get p = some a) (hr : a.state = .ringing) (k : Cause) :
    s.rescuing u (s.ended p a k) where
  beside := by
    rw [s.ended_eq, State.setCall_besideEnds, State.report_besideEnds, State.record_besideEnds]
    rfl
  output := by
    rw [s.ended_eq]
    exact (State.output_prefix_record (s.ending p a k) _).trans (State.output_prefix_report _ _)
  ends := by
    rw [s.ended_eq]
    simp [State.ending]
  trunk := fun ⟨hd, hc, hs⟩ => by
    have hdown : (s.trunk u).link ≠ .up := by rw [hd]; nofun
    have hkept : (s.trunk u).lets a s.ti.guardTime = s.trunk u := by
      rw [Trunk.lets, if_neg (by rw [hr]; nofun), if_neg (by rw [hc]; nofun)]
    rw [s.ended_trunk, s.leave_trunk, Trunk.delivered_eq, if_neg hdown, hkept, ite_self]
  free w hw := by
    have hne : p ≠ w := fun e => by
      rw [e, hw] at ha
      cases ha
    obtain ⟨hcalls, hplayers⟩ := s.ended_ne a k hne
    exact ⟨hcalls.trans hw, hplayers⟩
  refs w := by
    by_cases hpw : p = w
    · exact .inl (hpw ▸ (s.endedIn_ended p a k).1)
    · exact .inr (by rw [(s.ended_ne a k hpw).1])
  live w b hb hn := by
    by_cases hpw : p = w
    · subst hpw
      exact absurd (Option.some.inj (hb.symm.trans ha) ▸ hr) hn
    · exact ⟨b, (s.ended_ne a k hpw).1.trans hb, hn⟩

theorem rescue (u : TrunkNo) (s : State) (r : CallRef) : s.rescuing u (s.rescue r) := by
  rcases s.rescue_cases r with h | ⟨p, a, -, ha, -, ⟨hr, h⟩ | ⟨-, h⟩⟩ <;> rw [h]
  · exact .refl u s
  · exact .ended u ha hr _
  · exact (State.rescuing.requeued u ha).trans (.changed u _)

theorem foldl_rescue (u : TrunkNo) (rs : List CallRef) (s : State) : s.rescuing u (rs.foldl State.rescue s) := by
  induction rs generalizing s with
  | nil => exact .refl u s
  | cons r rs ih => exact (rescue u s r).trans (ih _)

end State.rescuing

/-! ### Calls that no rescue ends (R101) -/

/-- Reference `r` is that of no RINGING call. -/
def State.quiet (s : State) (r : CallRef) : Prop := ∀ e, s.callOfRef r = some e → e.state ≠ .ringing

/-- Rescues ring no call: a call that does not ring does not after them. -/
theorem State.rescuing.quiet (h : s.rescuing u t) (hq : s.quiet r) : t.quiet r := by
  intro e he
  obtain ⟨p, hp, hpe⟩ := Option.bind_eq_some_iff.mp he
  obtain ⟨e', he', rfl⟩ := State.placeOfRef_spec hp
  obtain rfl := Option.some.inj (hpe.symm.trans he')
  have href : (s.cc.calls.get p).map Call.ref = some e.ref := by
    rcases h.refs p with hn | hr
    · rw [hn] at hpe
      cases hpe
    · rw [← hr, hpe]
      rfl
  obtain ⟨a, ha, har⟩ := Option.map_eq_some_iff.mp href
  obtain ⟨p', b, hp', hb⟩ := State.exists_placeOfRef ha
  rw [har] at hp'
  have hbn := hq b (by rw [State.callOfRef, hp']; exact hb)
  obtain ⟨d, hd, hdn⟩ := h.live p' b hb hbn
  obtain rfl := Option.some.inj ((h.placeOfRef_live hp' hb hbn).symm.trans hp)
  obtain rfl := Option.some.inj (hd.symm.trans hpe)
  exact hdn

/-- Rescues that end no call write no record and hand no line CALL ENDED (R101). -/
theorem State.foldl_rescue_of_quiet (rs : List CallRef) (s : State) (hq : ∀ r ∈ rs, s.quiet r) :
    (rs.foldl State.rescue s).journal = s.journal ∧ (rs.foldl State.rescue s).callEnds = s.callEnds := by
  induction rs generalizing s with
  | nil => exact ⟨rfl, rfl⟩
  | cons r rs ih =>
    have hone : (s.rescue r).journal = s.journal ∧ (s.rescue r).callEnds = s.callEnds := by
      rcases s.rescue_cases r with h | ⟨p, a, hp, ha, -, ⟨hr, -⟩ | ⟨-, h⟩⟩
      · rw [h]
        exact ⟨rfl, rfl⟩
      · exact absurd hr (hq r List.mem_cons_self a (by rw [State.callOfRef, hp]; exact ha))
      · obtain ⟨q, y, -, -, -, heq⟩ := s.requeued_eq p a
        rw [h, State.eq_of_besidePass (State.changed_passedTo _).beside, heq]
        exact ⟨rfl, rfl⟩
    obtain ⟨hj, he⟩ := ih (s.rescue r) fun a ha =>
      (State.rescuing.rescue 0 s r).quiet (hq a (List.mem_cons_of_mem r ha))
    exact ⟨hj.trans hone.1, he.trans hone.2⟩

/-- A call whose reference is not among those rescued stays (R101). -/
theorem State.foldl_rescue_survives (rs : List CallRef) (s : State) (ha : s.cc.calls.get p = some a) (hr : a.ref ∉ rs) :
    ∃ b, (rs.foldl State.rescue s).cc.calls.get p = some b := by
  induction rs generalizing s a with
  | nil => exact ⟨a, ha⟩
  | cons r rs ih =>
    obtain ⟨hne, hrs⟩ := not_or.mp (fun h => hr (List.mem_cons.mpr h))
    have hstays : ∃ b, (s.rescue r).cc.calls.get p = some b := by
      rcases s.rescue_cases r with h | ⟨q, d, -, hd, hdr, hcases⟩
      · exact ⟨a, by rw [h, ha]⟩
      · have hqp : q ≠ p := fun e => hne (by
          rw [← e, hd] at ha
          exact Option.some.inj ha ▸ hdr)
        rcases hcases with ⟨-, h⟩ | ⟨-, h⟩
        · exact ⟨a, by rw [h, (s.ended_ne d _ hqp).1, ha]⟩
        · obtain ⟨b, hb, -⟩ := (State.changed_passedTo _).calls p a ((s.requeued_ne d hqp).1.trans ha)
          exact ⟨b, h ▸ hb⟩
    obtain ⟨b, hb⟩ := hstays
    have href : b.ref = a.ref := by
      rcases (State.rescuing.rescue 0 s r).refs p with h | h
      · rw [h] at hb
        cases hb
      · rw [hb, ha] at h
        exact Option.some.inj h
    exact ih (s.rescue r) hb (href ▸ hrs)

end Rescues

end Sys2Proof.Machine
end

section
/-! A call of a lost trunk (R81, R101): waiting for its rescue, then back in the queue or offered elsewhere. -/

namespace Sys2Proof.Machine

open Sys2Proof

section Rescued

variable {s t v : State} {p q : LineNo} {a b c d : Call} {r : CallRef} {u : TrunkNo} {now : Word32} {y : Player}

/-! ### The record of a rescued call (R80, R81, R143) -/

/-- `d` is call `c` rescued: its timers, reminder and marks gone, its counts kept, its class kept or 0 (R80, R81, R132,
R143). -/
structure Call.rescuedTo (c d : Call) : Prop where
  same : c.sameCall d
  rescued : d.rescued = true
  offerCount : d.offerCount = c.offerCount
  holdCount : d.holdCount = c.holdCount
  connectTime : d.connectTime = c.connectTime
  connectedMark : d.connectedMark = none
  heldAt : d.heldAt = none
  reminderIn : d.reminderIn = none
  preemptionTimer : d.preemptionTimer = none
  kept : c.state = .offered ∨ c.isKind .maintenance = true → d.effective = c.effective
  zero : c.state ≠ .offered → c.isKind .maintenance = false → d.effective = 0

/-- The class of a call rescued from another state than OFFERED (R81). -/
theorem Call.effective_rescuedClass (c : Call) :
    ((c.identity.map CallIdentity.rescuedClass).map CallIdentity.effectiveClass).getD 0 =
      if c.isKind .maintenance then c.effective else 0 := by
  unfold Call.isKind Call.effective
  cases c.identity with
  | none => simp
  | some i =>
    by_cases hk : i.kind = .maintenance <;> simp [CallIdentity.rescuedClass, hk]

theorem Call.rescuedAs_of_offered (h : c.state = .offered) : c.rescuedAs c.state = { c with rescued := true } := by
  rw [Call.rescuedAs, if_pos h]

theorem Call.rescuedAs_of_not_offered (h : c.state ≠ .offered) : c.rescuedAs c.state =
    { c with rescued := true, identity := c.identity.map CallIdentity.rescuedClass } := by
  rw [Call.rescuedAs, if_neg h]

/-- A rescue in the terms of the rules (R80, R81). -/
theorem Call.rescuedTo_rescuedAs (c : Call) (now : Word32) : c.rescuedTo ((c.rescuedAs c.state).toWaiting now) := by
  by_cases ho : c.state = .offered
  · rw [Call.rescuedAs_of_offered ho]
    exact ⟨⟨rfl, rfl, rfl, rfl, rfl, fun _ => rfl⟩, rfl, rfl, rfl, rfl, rfl, rfl, rfl, rfl, fun _ => rfl, fun hn => absurd ho hn⟩
  · rw [Call.rescuedAs_of_not_offered ho]
    refine ⟨⟨rfl, rfl, rfl, rfl, rfl, fun _ => ?_⟩, rfl, rfl, rfl, rfl, rfl, rfl, rfl, rfl, fun hk => ?_, fun _ hk => ?_⟩
    · simp [Call.toWaiting, Function.comp_def, CallIdentity.fixed_rescuedClass]
    · exact c.effective_rescuedClass.trans (if_pos (hk.resolve_left ho))
    · exact c.effective_rescuedClass.trans (if_neg (by rw [hk]; nofun))

/-- A call that passes have gone over before its rescue comes from the same state, or PREEMPTING from CONNECTED (R141). -/
theorem Call.passed.cases (h : c.passed b) (hw : c.state ≠ .waiting) : b = c ∨ c.state = .connected ∧ b = c.preempted := by
  rcases h with h | ⟨hc, -⟩ | h
  · exact .inl h
  · exact absurd hc hw
  · exact .inr h

/-- A preemption on the way makes no difference to a rescue (R81, R141, R143). -/
theorem Call.passed.rescuedTo (h : c.passed b) (hw : c.state ≠ .waiting) (now : Word32) :
    c.rescuedTo ((b.rescuedAs b.state).toWaiting now) := by
  rcases h.cases hw with rfl | ⟨hc, rfl⟩
  · exact b.rescuedTo_rescuedAs now
  · have hsame : (c.preempted.rescuedAs c.preempted.state).toWaiting now = (c.rescuedAs c.state).toWaiting now := by
      rw [hc]
      rfl
    rw [hsame]
    exact c.rescuedTo_rescuedAs now

/-- A call rescued and offered is rescued a second time as it was (R80, R81). -/
theorem Call.rescuedTo.again (h : c.rescuedTo d) (hd : d.state = .offered) (now : Word32) :
    c.rescuedTo ((d.rescuedAs d.state).toWaiting now) := by
  rw [Call.rescuedAs_of_offered hd]
  exact ⟨h.same, rfl, h.offerCount, h.holdCount, h.connectTime, rfl, rfl, rfl, rfl, h.kept, h.zero⟩

/-- An offer takes nothing of a rescued call but its marks of the queue (R87). -/
theorem Call.rescuedTo.offeredOn (h : c.rescuedTo d) (w : TrunkNo) : c.rescuedTo (d.offeredOn w) :=
  ⟨h.same, h.rescued, h.offerCount, h.holdCount, h.connectTime, h.connectedMark, h.heldAt, h.reminderIn, h.preemptionTimer,
    h.kept, h.zero⟩

/-! ### Before its turn -/

/-- Call `c` of place `p` in `s` waits in `t` for its rescue: as it was but for a preemption (R141). -/
def State.awaiting (s t : State) (p : LineNo) (c : Call) : Prop :=
  t.placeOfRef c.ref = some p ∧ (∃ b, t.cc.calls.get p = some b ∧ c.passed b) ∧
    (c.state = .offered → t.ap.players.get p = s.ap.players.get p)

/-- A pass leaves such a call waiting for its rescue. -/
theorem State.awaiting.passed (h : s.awaiting t p c) (ht : t.passedTo v) : s.awaiting v p c := by
  obtain ⟨hp, ⟨b, hb, hcb⟩, hplayer⟩ := h
  obtain ⟨d, hd, hbd⟩ := ht.calls p b hb
  refine ⟨(ht.placeOfRef _).trans hp, ⟨d, hd, hcb.trans hbd⟩, fun ho => ?_⟩
  rw [ht.players p fun a ha => ?_]
  · exact hplayer ho
  · obtain rfl := Option.some.inj (hb.symm.trans ha)
    rw [hcb.offered ho]
    nofun

/-- The rescue of another call leaves it waiting for its own. -/
theorem State.awaiting.rescue (h : s.awaiting t p c) (hr : r ≠ c.ref) : s.awaiting (t.rescue r) p c := by
  have hkeeps {w : State} (hw : t.rescuing 0 w) (hcalls : w.cc.calls.get p = t.cc.calls.get p)
      (hplayers : w.ap.players.get p = t.ap.players.get p) : s.awaiting w p c := by
    obtain ⟨hp, ⟨b, hb, hcb⟩, hplayer⟩ := h
    exact ⟨hw.placeOfRef hp (hcalls.trans hb), ⟨b, hcalls.trans hb, hcb⟩, fun ho => hplayers.trans (hplayer ho)⟩
  rcases t.rescue_cases r with h' | ⟨q, a, hq, ha, har, hcases⟩
  · rw [h']
    exact h
  · have hqp : q ≠ p := fun e => by
      obtain ⟨-, ⟨b, hb, hcb⟩, -⟩ := h
      rw [e, hb] at ha
      exact hr (by rw [← har, ← Option.some.inj ha, hcb.ref])
    rcases hcases with ⟨hring, h'⟩ | ⟨-, h'⟩ <;> rw [h']
    · obtain ⟨hcalls, hplayers⟩ := t.ended_ne a .trunkLost hqp
      exact hkeeps (.ended 0 ha hring _) hcalls hplayers
    · obtain ⟨hcalls, hplayers⟩ := t.requeued_ne a hqp
      exact (hkeeps (.requeued 0 ha) hcalls hplayers).passed (State.changed_passedTo _)

/-! ### After it -/

/-- A rescued call stands in the queue since `now`, or is offered on another trunk than `u` (R80, R101). -/
def State.standsRescued (t : State) (u : TrunkNo) (now : Word32) (r : CallRef) (d : Call) : Prop :=
  d.state = .waiting ∧ d.trunk = none ∧ r ∈ t.cc.queue ∧ d.queueEntry = some now ∧ d.agingMark = some now ∨
    d.state = .offered ∧ d.trunk ≠ some u

/-- Call `c` of place `p` in `s` has been rescued in `t`, where it has the channel due to it (R80, R81, R101, R154). -/
def State.hasRescued (s t : State) (u : TrunkNo) (p : LineNo) (c : Call) : Prop :=
  t.placeOfRef c.ref = some p ∧ s.channelFor p c (t.ap.players.get p) ∧
    ∃ d, t.cc.calls.get p = some d ∧ c.rescuedTo d ∧ t.standsRescued u s.cc.now c.ref d

/-- A pass leaves a rescued call in the queue, or offers it on a trunk that was eligible-idle (R84). -/
theorem State.hasRescued.changed (h : s.hasRescued t u p c) (hu : (t.trunk u).eligible = false) :
    s.hasRescued t.changed u p c := by
  obtain ⟨hp, hy, d, hd, hcd, hstands⟩ := h
  have hpass := t.changed_passedTo
  have href : d.ref = c.ref := hcd.same.1
  refine ⟨(hpass.placeOfRef _).trans hp, ?_, ?_⟩
  · rwa [hpass.players p fun a ha => ?_]
    obtain rfl := Option.some.inj (hd.symm.trans ha)
    rcases hstands with ⟨hs, -⟩ | ⟨hs, -⟩ <;> rw [hs] <;> nofun
  · rcases hstands with ⟨hs, ht, hq, hmarks⟩ | ⟨hs, ht⟩
    · obtain ⟨-, ⟨hd', hq'⟩ | ⟨w, hw, hd'⟩⟩ := State.changed_waiting hd (href ▸ hp) hs (href ▸ hq)
      · exact ⟨d, hd', hcd, .inl ⟨hs, ht, href ▸ hq', hmarks⟩⟩
      · refine ⟨d.offeredOn w, hd', hcd.offeredOn w, .inr ⟨rfl, fun e => ?_⟩⟩
        rw [← Option.some.inj e, hw] at hu
        cases hu
    · obtain ⟨e, he, hde⟩ := hpass.calls p d hd
      rcases hde with rfl | ⟨hw, -⟩ | ⟨hc, -⟩
      · exact ⟨e, he, hcd, .inr ⟨hs, ht⟩⟩
      · rw [hs] at hw
        cases hw
      · rw [hs] at hc
        cases hc

/-- A call put back in the queue has been rescued (R80, R81, R101). -/
theorem State.requeued_hasRescued (hp : t.placeOfRef c.ref = some p) (hb : t.cc.calls.get p = some b)
    (href : b.ref = c.ref) (hnow : t.cc.now = s.cc.now) (hcd : c.rescuedTo ((b.rescuedAs b.state).toWaiting s.cc.now))
    (hy : ∀ z, t.channelFor p b z → s.channelFor p c z) : s.hasRescued (t.requeued p b) u p c := by
  obtain ⟨q, z, hq, -, hz, heq⟩ := t.requeued_eq p b
  have hcall : (t.requeued p b).cc.calls.get p = some ((b.rescuedAs b.state).toWaiting s.cc.now) := by
    rw [heq, hnow]
    exact Table.get_set_self _ _ _
  have hplayer : (t.requeued p b).ap.players.get p = z := by
    rw [heq]
    exact Table.get_set_self _ _ _
  have hqueue : c.ref ∈ (t.requeued p b).cc.queue := by
    rw [heq, ← href]
    exact hq
  exact ⟨(State.rescuing.requeued 0 hb).placeOfRef hp hcall, hplayer ▸ hy z hz, _, hcall, hcd,
    .inl ⟨rfl, rfl, hqueue, rfl, rfl⟩⟩

/-- A trunk that is lost is offered no call (R84, R100). -/
theorem Trunk.lost.not_eligible {x : Trunk} (h : x.lost) : x.eligible = false := by
  rw [Bool.eq_false_iff]
  intro he
  obtain ⟨-, hl, -⟩ := Trunk.eligible_iff.mp he
  rw [h.1] at hl
  cases hl

/-- What is beside the calls stands through rescues: the running time and the chains. -/
theorem State.rescuing.now_chains (h : s.rescuing u t) : t.cc.now = s.cc.now ∧ t.ap.chains = s.ap.chains := by
  rw [State.eq_of_besideEnds h.beside]
  exact ⟨rfl, rfl⟩

/-- The rescue of a call that waits for it (R80, R81, R101). -/
theorem State.awaiting.rescued (h : s.awaiting t p c) (hst : s.rescuing u t) (hu : (t.trunk u).lost)
    (hc : c.state ≠ .originating ∧ c.state ≠ .waiting ∧ c.state ≠ .ringing) : s.hasRescued (t.rescue c.ref) u p c := by
  obtain ⟨hp, ⟨b, hb, hcb⟩, hplayer⟩ := h
  obtain ⟨ho, hw, hr⟩ := hc
  obtain ⟨hnow, hchains⟩ := hst.now_chains
  have hstate : b.state ≠ .originating ∧ b.state ≠ .waiting ∧ b.state ≠ .ringing := by
    rcases hcb.cases hw with rfl | ⟨-, rfl⟩
    · exact ⟨ho, hw, hr⟩
    · exact ⟨nofun, nofun, nofun⟩
  obtain ⟨hbo, hbw, hbr⟩ := hstate
  have hrescue : t.rescue c.ref = (t.requeued p b).changed := by
    rw [State.rescue_of_some hp hb hbo hbw, if_neg hbr]
    rfl
  have hlost : ((t.requeued p b).trunk u).eligible = false := by
    rw [(State.rescuing.requeued u hb).trunk hu]
    exact hu.not_eligible
  rw [hrescue]
  refine State.hasRescued.changed (State.requeued_hasRescued hp hb hcb.ref hnow (hcb.rescuedTo hw _) fun z hz => ?_) hlost
  rcases hcb.cases hw with rfl | ⟨hcon, rfl⟩
  · exact ⟨fun e => (hz.1 e).trans (hplayer e), hchains ▸ hz.2⟩
  · exact ⟨fun e => absurd (hcon.symm.trans e) (by nofun), fun i _ hi => hchains ▸ hz.2 i nofun hi⟩

/-- What concerns another place, and takes nothing from the queue, leaves a call rescued. -/
theorem State.hasRescued.of_same (h : s.hasRescued t u p c) (hv : t.rescuing u v)
    (hcalls : v.cc.calls.get p = t.cc.calls.get p) (hplayers : v.ap.players.get p = t.ap.players.get p)
    (hqueue : ∀ r ∈ t.cc.queue, r ∈ v.cc.queue) : s.hasRescued v u p c := by
  obtain ⟨hp, hy, d, hd, hcd, hstands⟩ := h
  refine ⟨hv.placeOfRef hp (hcalls.trans hd), hplayers ▸ hy, d, hcalls.trans hd, hcd, ?_⟩
  rcases hstands with ⟨hs, ht, hq, hmarks⟩ | hoff
  · exact .inl ⟨hs, ht, hqueue _ hq, hmarks⟩
  · exact .inr hoff

/-- A further rescue leaves it rescued (R101). -/
theorem State.hasRescued.rescue (h : s.hasRescued t u p c) (hst : s.rescuing u t) (hu : (t.trunk u).lost) (r : CallRef) :
    s.hasRescued (t.rescue r) u p c := by
  have hlost (q : LineNo) (a : Call) (ha : t.cc.calls.get q = some a) : ((t.requeued q a).trunk u).eligible = false := by
    rw [(State.rescuing.requeued u ha).trunk hu]
    exact hu.not_eligible
  rcases t.rescue_cases r with h' | ⟨q, a, hq, ha, har, hcases⟩
  · rwa [h']
  by_cases hqp : q = p
  · subst hqp
    obtain ⟨hp, hy, d, hd, hcd, hstands⟩ := id h
    obtain rfl := Option.some.inj (ha.symm.trans hd)
    rcases hstands with ⟨hs, -⟩ | ⟨hs, -⟩
    · rwa [State.rescue_of_idle hq ha (.inr hs)]
    · have hrescue : t.rescue r = (t.requeued q a).changed :=
        (hcases.resolve_left fun ⟨hr, _⟩ => by rw [hs] at hr; cases hr).2
      rw [hrescue]
      obtain ⟨hnow, -⟩ := hst.now_chains
      refine State.hasRescued.changed (State.requeued_hasRescued hp ha hcd.same.1 hnow (hcd.again hs _) fun z hz => ?_)
        (hlost q a ha)
      rw [hz.1 hs]
      exact hy
  · rcases hcases with ⟨hr, h'⟩ | ⟨-, h'⟩ <;> rw [h']
    · obtain ⟨hcalls, hplayers⟩ := t.ended_ne a .trunkLost hqp
      obtain ⟨-, -, hqueue, -⟩ := t.endedIn_ended q a .trunkLost
      refine h.of_same (.ended u ha hr _) hcalls hplayers fun r hr' => ?_
      rwa [hqueue (by rw [hr]; nofun)]
    · obtain ⟨hcalls, hplayers⟩ := t.requeued_ne a hqp
      refine (h.of_same (.requeued u ha) hcalls hplayers fun r hr' => ?_).changed (hlost q a ha)
      obtain ⟨w, z, -, hin, -, heq⟩ := t.requeued_eq q a
      rw [heq]
      exact hin r hr'

/-- The rescues of a row of calls, that of `c` among them (R101). -/
theorem State.foldl_rescue_hasRescued (rs : List CallRef) (t : State) (hst : s.rescuing u t) (hu : (s.trunk u).lost)
    (h : s.hasRescued t u p c ∨ s.awaiting t p c ∧ c.ref ∈ rs)
    (hc : c.state ≠ .originating ∧ c.state ≠ .waiting ∧ c.state ≠ .ringing) :
    s.hasRescued (rs.foldl State.rescue t) u p c := by
  have hlost : (t.trunk u).lost := hst.trunk hu ▸ hu
  induction rs generalizing t with
  | nil =>
    rcases h with h | ⟨-, hr⟩
    · exact h
    · cases hr
  | cons r rs ih =>
    have hnext := hst.trans (.rescue u t r)
    refine ih (t.rescue r) hnext ?_ (hnext.trunk hu ▸ hu)
    rcases h with h | ⟨h, hr⟩
    · exact .inl (h.rescue hst hlost r)
    · by_cases he : r = c.ref
      · exact .inl (he ▸ h.rescued hst hlost hc)
      · exact .inr ⟨h.rescue he, (List.mem_cons.mp hr).resolve_left (Ne.symm he)⟩

end Rescued

end Sys2Proof.Machine
end

section
/-! The third bad frame in a row (R99 to R101): the link DOWN, the trunk in LINK DOWN, its calls rescued or ended. -/

namespace Sys2Proof.Machine

open Sys2Proof

section LinkLoss

variable {s t v : State} {p : LineNo} {a c : Call} {r : CallRef} {u : TrunkNo} {k : Cause} {frame : Option TrunkFrame}

/-! ### The trunk (R99, R100) -/

/-- A trunk whose link a bad frame takes DOWN (R99, R100). -/
def Trunk.downed (x : Trunk) : Trunk :=
  { x.badlyFramed with link := .down, transmit := [], sentOctets := 0, receiver := .between, requests := [] }

/-- A trunk that enters LINK DOWN (R100). -/
def Trunk.lostLink (x : Trunk) : Trunk :=
  { x.downed with
    state := .linkDown, current := none, offerTimer := none, guardTimer := none, idleSince := none, stack := [] }

theorem Trunk.lost_lostLink (x : Trunk) : x.lostLink.lost := ⟨rfl, rfl, rfl⟩

/-- The loss of a link recorded, reported and judged, before any call is rescued (R100, R121). -/
def State.lossReported (s : State) (u : TrunkNo) : State :=
  (((s.setTrunk u (s.trunk u).lostLink).record (.trunk u true)).report (.trunkState u .linkDown .loss)).judgeNoTrunk

theorem State.badFrame_of_third (hl : (s.trunk u).link = .up) (hb : (s.trunk u).badRun = 2) :
    s.badFrame u = (s.setTrunk u (s.trunk u).badlyFramed).linkLoss u := by
  rw [State.badFrame_eq, if_pos ⟨hl, hb.ge⟩]

/-- The third bad frame on a trunk OUT OF SERVICE (R100). -/
theorem State.badFrame_of_outOfService (hl : (s.trunk u).link = .up) (hb : (s.trunk u).badRun = 2)
    (ho : (s.trunk u).state = .outOfService) : s.badFrame u = (s.setTrunk u (s.trunk u).downed).changed := by
  have hx : (s.trunk u).badlyFramed.state = .outOfService := ho
  rw [State.badFrame_of_third hl hb, State.linkLoss]
  dsimp only
  rw [State.trunk_setTrunk_self, if_pos hx, State.setTrunk_setTrunk]
  rfl

/-- The third bad frame on any other trunk (R100, R101). -/
theorem State.badFrame_of_lost (hl : (s.trunk u).link = .up) (hb : (s.trunk u).badRun = 2)
    (ho : (s.trunk u).state ≠ .outOfService) :
    s.badFrame u = ((s.trunk u).calls.foldl State.rescue (s.lossReported u)).changed := by
  have hx : (s.trunk u).badlyFramed.state ≠ .outOfService := ho
  rw [State.badFrame_of_third hl hb, State.linkLoss]
  dsimp only
  rw [State.trunk_setTrunk_self, if_neg hx, State.setTrunk_setTrunk]
  rfl

/-! ### Before the rescues -/

theorem State.lossReported_rescuing (s : State) (u : TrunkNo) :
    (s.setTrunk u (s.trunk u).lostLink).rescuing u (s.lossReported u) :=
  ((State.rescuing.record u _ _).trans (.report u _ _)).trans (.judgeNoTrunk u _)

@[simp] theorem State.lossReported_cc (s : State) (u : TrunkNo) : (s.lossReported u).cc = s.cc := by
  simp [State.lossReported]

@[simp] theorem State.lossReported_ap (s : State) (u : TrunkNo) : (s.lossReported u).ap = s.ap := by
  simp [State.lossReported]

@[simp] theorem State.lossReported_callEnds (s : State) (u : TrunkNo) : (s.lossReported u).callEnds = s.callEnds := by
  simp [State.lossReported]

theorem State.lossReported_trunk_ne (s : State) {w : TrunkNo} (h : w ≠ u) : (s.lossReported u).trunk w = s.trunk w := by
  rw [State.lossReported, State.judgeNoTrunk_trunk, State.report_trunk, State.record_trunk,
    State.trunk_setTrunk_ne _ _ (Ne.symm h)]

/-- LOSS is the newest record (R100). -/
theorem State.lossReported_journal (he : s.journal.exhausted = false) (u : TrunkNo) : (s.lossReported u).journal =
    { s.journal with
      records := Journal.append s.journal.records ⟨s.journal.nextSequence, s.stamp, .trunk u true⟩
      nextSequence := s.journal.nextSequence + 1 } := by
  rw [State.lossReported, (State.judgeNoTrunk_passedTo _).journal, State.report_journal]
  exact State.record_journal (s := s.setTrunk u (s.trunk u).lostLink) he

theorem State.lossReported_journal_of_exhausted (he : s.journal.exhausted = true) (u : TrunkNo) :
    (s.lossReported u).journal = s.journal := by
  rw [State.lossReported, (State.judgeNoTrunk_passedTo _).journal, State.report_journal,
    State.record_of_exhausted (s := s.setTrunk u (s.trunk u).lostLink) he]
  rfl

/-- The TRUNK STATE report is made (R100, R181). -/
theorem State.mem_lossReported (h : s.link.reports + (if s.journal.levelDue then 1 else 0) < 16) (u : TrunkNo) :
    .report (.trunkState u .linkDown .loss) ∈ (s.lossReported u).link.output :=
  (State.judgeNoTrunk_passedTo _).output.subset
    (State.mem_record_report (s := s.setTrunk u (s.trunk u).lostLink) (k := .trunk u true) h)

theorem State.judgeNoTrunk_reports_le (s : State) : s.judgeNoTrunk.link.reports ≤ s.link.reports + 1 := by
  have hj := s.judgeNoTrunk_judgedTo
  by_cases hn : s.judgeNoTrunk.ti.noTrunk = s.ti.noTrunk
  · rw [hj.same hn]
    exact Nat.le_succ _
  · rw [hj.turned hn]
    exact s.report_reports_le _

/-- The record, the report and the judgement make three reports at most (R121, R175, R181). -/
theorem State.lossReported_reports_le (s : State) (u : TrunkNo) : (s.lossReported u).link.reports ≤ s.link.reports + 3 := by
  have h1 : ((s.setTrunk u (s.trunk u).lostLink).record (.trunk u true)).link.reports ≤ s.link.reports + 1 :=
    State.record_reports_le _ _
  have h2 := State.report_reports_le ((s.setTrunk u (s.trunk u).lostLink).record (.trunk u true)) (.trunkState u .linkDown .loss)
  have h3 := State.judgeNoTrunk_reports_le
    (((s.setTrunk u (s.trunk u).lostLink).record (.trunk u true)).report (.trunkState u .linkDown .loss))
  rw [State.lossReported]
  omega

/-! ### After them -/

/-- The state after a link has been lost with the calls rescued (R100, R101). -/
def State.linkLostIn (s : State) (u : TrunkNo) : State :=
  ((s.trunk u).calls.foldl State.rescue (s.lossReported u)).changed

theorem State.linkLostIn_rescuing (s : State) (u : TrunkNo) :
    (s.setTrunk u (s.trunk u).lostLink).rescuing u (s.linkLostIn u) :=
  ((s.lossReported_rescuing u).trans (.foldl_rescue u _ _)).trans (.changed u _)

theorem State.linkLostIn_trunk (s : State) (u : TrunkNo) : (s.linkLostIn u).trunk u = (s.trunk u).lostLink := by
  have hself := State.trunk_setTrunk_self s u (s.trunk u).lostLink
  rw [(s.linkLostIn_rescuing u).trunk (by rw [hself]; exact (s.trunk u).lost_lostLink), hself]

/-- What is beside calls, trunks, channels, output, journal and CALL ENDED stands (R101). -/
theorem State.eq_of_besideEnds_journal (h : t.besideEnds = s.besideEnds) : t = { s with
    link := { s.link with output := t.link.output, reportLoss := t.link.reportLoss }
    cc := { s.cc with calls := t.cc.calls, queue := t.cc.queue }
    ti := { s.ti with trunks := t.ti.trunks, noTrunk := t.ti.noTrunk }
    ap := { s.ap with players := t.ap.players }
    journal := t.journal, callEnds := t.callEnds } :=
  congrArg (fun v : State => { v with journal := t.journal }) (State.eq_of_besideEnds h)

theorem State.lossReported_placeOfRef (s : State) (u : TrunkNo) (r : CallRef) :
    (s.lossReported u).placeOfRef r = s.placeOfRef r := State.placeOfRef_congr (fun p => by rw [s.lossReported_cc]) r

theorem State.quiet.lossReported (h : s.quiet r) (u : TrunkNo) : (s.lossReported u).quiet r := by
  intro e he
  rw [State.callOfRef, s.lossReported_placeOfRef, s.lossReported_cc] at he
  exact h e he

/-- Where no call ends, LOSS is the newest record (R100, R101). -/
theorem State.linkLostIn_of_quiet (hq : ∀ r ∈ (s.trunk u).calls, s.quiet r) :
    (s.linkLostIn u).journal = (s.lossReported u).journal ∧ (s.linkLostIn u).callEnds = s.callEnds := by
  obtain ⟨hj, he⟩ := State.foldl_rescue_of_quiet _ (s.lossReported u) fun r hr => (hq r hr).lossReported u
  rw [State.linkLostIn, State.eq_of_besidePass (State.changed_passedTo _).beside]
  exact ⟨hj, he.trans (s.lossReported_callEnds u)⟩

/-- A trunk with no call, and an empty queue: nothing else changes (R84, R101). -/
theorem State.linkLostIn_of_nil (hc : (s.trunk u).calls = []) (hq : s.cc.queue = []) :
    (s.linkLostIn u).cc = s.cc ∧ (s.linkLostIn u).ap = s.ap ∧ ∀ w, w ≠ u → (s.linkLostIn u).trunk w = s.trunk w := by
  rw [State.linkLostIn, hc, List.foldl_nil, State.changed_of_nil (by simpa using hq)]
  exact ⟨by simp, by simp, fun w hw => by rw [State.judgeNoTrunk_trunk, s.lossReported_trunk_ne hw]⟩

/-- A call of the trunk that is not RINGING is rescued (R101). -/
theorem State.linkLostIn_hasRescued (hc : s.callAt p c) (hr : c.ref ∈ (s.trunk u).calls)
    (hst : c.state ≠ .originating ∧ c.state ≠ .waiting ∧ c.state ≠ .ringing) :
    (s.setTrunk u (s.trunk u).lostLink).hasRescued (s.linkLostIn u) u p c := by
  obtain ⟨hcp, hpr, -⟩ := hc
  have hbefore : (s.setTrunk u (s.trunk u).lostLink).awaiting (s.lossReported u) p c :=
    ⟨(s.lossReported_placeOfRef u _).trans hpr, ⟨c, by rw [s.lossReported_cc, hcp], c.passed_refl⟩, fun _ => by
      rw [s.lossReported_ap]
      rfl⟩
  have hlost : ((s.setTrunk u (s.trunk u).lostLink).trunk u).lost := by
    rw [State.trunk_setTrunk_self]
    exact (s.trunk u).lost_lostLink
  have hfold := State.foldl_rescue_hasRescued (s.trunk u).calls (s.lossReported u) (s.lossReported_rescuing u) hlost
    (.inr ⟨hbefore, hr⟩) hst
  refine State.hasRescued.changed hfold ?_
  rw [((s.lossReported_rescuing u).trans (.foldl_rescue u _ _)).trunk hlost]
  exact hlost.not_eligible

/-- The current call, RINGING, is the first to be dealt with: it ends (R101). -/
theorem State.linkLostIn_of_ringing (hc : s.callAt p c) (hcur : (s.trunk u).current = some c.ref) (hr : c.state = .ringing) :
    s.linkLostIn u = ((s.trunk u).stack.foldl State.rescue ((s.lossReported u).ended p c .trunkLost)).changed := by
  obtain ⟨hcp, hpr, -⟩ := hc
  have hcalls : (s.trunk u).calls = c.ref :: (s.trunk u).stack := by rw [Trunk.calls, hcur]; rfl
  have hplace := (s.lossReported_placeOfRef u c.ref).trans hpr
  have hget : (s.lossReported u).cc.calls.get p = some c := by rw [s.lossReported_cc, hcp]
  have hrescue : (s.lossReported u).rescue c.ref = (s.lossReported u).ended p c .trunkLost := by
    rw [State.rescue_of_some hplace hget (by rw [hr]; nofun) (by rw [hr]; nofun), if_pos hr, State.endCall_of_some hget, hr]
    rfl
  rw [State.linkLostIn, hcalls, List.foldl_cons, hrescue]

/-- A journal whose next number can be taken is not exhausted (R171). -/
theorem Journal.not_exhausted {j : Journal} (h : j.nextSequence ≤ 4294967295) : j.exhausted = false :=
  decide_eq_false (Nat.not_lt.mpr h)

theorem State.lossReported_stamp (s : State) (u : TrunkNo) : (s.lossReported u).stamp = s.stamp := by
  simp [State.lossReported, State.stamp]

/-- The number of the first record after LOSS (R171). -/
theorem State.lossReported_nextNumber (hn : s.journal.nextSequence < 4294967295) (u : TrunkNo) :
    (s.lossReported u).journal.exhausted = false ∧
      (s.lossReported u).journal.nextNumber = s.journal.nextSequence + 1 := by
  have hopen := Journal.not_exhausted hn.le
  have hnext : (s.lossReported u).journal.nextSequence = s.journal.nextSequence + 1 := by
    rw [State.lossReported_journal hopen]
  have hstill := Journal.not_exhausted (j := (s.lossReported u).journal) (by omega)
  exact ⟨hstill, by rw [Journal.nextNumber, hstill, hnext]; rfl⟩

/-- The current call, RINGING, ends TRUNK LOST: its place free, its channel INACTIVE, CALL ENDED on its way (R90, R101). -/
theorem State.linkLostIn_ends (hc : s.callAt p c) (hcur : (s.trunk u).current = some c.ref) (hr : c.state = .ringing) :
    (s.linkLostIn u).cc.calls.get p = none ∧ (s.linkLostIn u).ap.players.get p = .inactive ∧
      c.line ∈ (s.linkLostIn u).callEnds := by
  obtain ⟨hfree, -, -, hplayer, hends, -⟩ := (s.lossReported u).endedIn_ended p c .trunkLost
  rw [State.linkLostIn_of_ringing hc hcur hr]
  have hrest := (State.rescuing.foldl_rescue u (s.trunk u).stack ((s.lossReported u).ended p c .trunkLost)).trans (.changed u _)
  obtain ⟨hcalls, hplayers⟩ := hrest.free p hfree
  exact ⟨hcalls, hplayers.trans hplayer, hrest.ends.subset (by rw [hends]; simp)⟩

/-- Its CALL EVENT report, numbered after LOSS (R92, R101, R181). -/
theorem State.linkLostIn_event (hc : s.callAt p c) (hcur : (s.trunk u).current = some c.ref) (hr : c.state = .ringing)
    (hn : s.journal.nextSequence < 4294967295) (hroom : s.link.reports < 12) :
    .report (.callEvent c.ref c.line (c.identity.map CallIdentity.kind) .ringing .trunkLost (s.journal.nextSequence + 1)) ∈
      (s.linkLostIn u).link.output := by
  obtain ⟨-, -, -, -, -, -, -, -, hevent, -⟩ := (s.lossReported u).endedIn_ended p c .trunkLost
  obtain ⟨-, hnumber⟩ := State.lossReported_nextNumber hn u
  have hfew := s.lossReported_reports_le u
  have hdue : (if (s.lossReported u).journal.levelDue then 1 else 0) ≤ 1 := by split <;> omega
  rw [hnumber, hr] at hevent
  rw [State.linkLostIn_of_ringing hc hcur hr]
  have hrest := (State.rescuing.foldl_rescue u (s.trunk u).stack ((s.lossReported u).ended p c .trunkLost)).trans (.changed u _)
  exact hrest.output.subset (hevent (by omega))

/-- Its CALL END record, after LOSS, where no call of the stack ends (R92, R101). -/
theorem State.linkLostIn_records (hc : s.callAt p c) (hcur : (s.trunk u).current = some c.ref) (hr : c.state = .ringing)
    (hn : s.journal.nextSequence < 4294967295) (hq : ∀ r ∈ (s.trunk u).stack, s.quiet r) :
    (s.linkLostIn u).journal.records = Journal.append
      (Journal.append s.journal.records ⟨s.journal.nextSequence, s.stamp, .trunk u true⟩)
      ⟨s.journal.nextSequence + 1, s.stamp, .callEnd (s.callEndOf c .trunkLost)⟩ := by
  obtain ⟨-, -, -, -, -, -, hjournal, -⟩ := (s.lossReported u).endedIn_ended p c .trunkLost
  obtain ⟨hopen, -⟩ := State.lossReported_nextNumber hn u
  have hget : (s.lossReported u).cc.calls.get p = some c := by rw [s.lossReported_cc, hc.1]
  obtain ⟨hj, -⟩ := State.foldl_rescue_of_quiet (s.trunk u).stack ((s.lossReported u).ended p c .trunkLost)
    fun r hr' => (State.rescuing.ended u hget hr .trunkLost).quiet ((hq r hr').lossReported u)
  rw [State.linkLostIn_of_ringing hc hcur hr, (State.changed_passedTo _).journal, hj, (hjournal hopen).2,
    State.lossReported_journal (Journal.not_exhausted hn.le), s.lossReported_stamp,
    State.callEndOf_congr (s := s) (c := c) (by rw [s.lossReported_cc]) rfl]

/-! ### In the terms of the statements -/

/-- A call that does not ring, or is none of the trunk's, is still there (R101). -/
theorem State.linkLostIn_survives (ha : s.cc.calls.get p = some a)
    (h : a.state ≠ .ringing ∨ a.ref ∉ (s.trunk u).calls) : ∃ b, (s.linkLostIn u).cc.calls.get p = some b := by
  rcases h with hn | hr
  · obtain ⟨b, hb, -⟩ := (s.linkLostIn_rescuing u).live p a ha hn
    exact ⟨b, hb⟩
  · obtain ⟨b, hb⟩ := State.foldl_rescue_survives _ (s.lossReported u) (p := p) (by rw [s.lossReported_cc, ha]) hr
    obtain ⟨d, hd, -⟩ := State.passedTo.calls (State.changed_passedTo _) p b hb
    rw [State.linkLostIn]
    exact ⟨d, hd⟩

/-- The no-trunk flag stands as its condition does (R121). -/
theorem State.linkLostIn_noTrunk (s : State) (u : TrunkNo) : (s.linkLostIn u).ti.noTrunk = true ↔
    (s.linkLostIn u).cc.queue ≠ [] ∧
      ∀ w, ¬ (((s.linkLostIn u).trunk w).service = .inService ∧ ((s.linkLostIn u).trunk w).link = .up) := by
  rw [State.linkLostIn]
  exact (State.changed_judgedTo _).flag_iff

/-- The TRUNK STATE report stays on the output list (R100, R181). -/
theorem State.linkLostIn_report (h : s.link.reports + (if s.journal.levelDue then 1 else 0) < 16) (u : TrunkNo) :
    .report (.trunkState u .linkDown .loss) ∈ (s.linkLostIn u).link.output := by
  have hrest := (State.rescuing.foldl_rescue u (s.trunk u).calls (s.lossReported u)).trans (.changed u _)
  rw [State.linkLostIn]
  exact hrest.output.subset (State.mem_lossReported h u)

/-- The records that stand where no call of the trunk rings (R100, R101). -/
theorem State.linkLostIn_journal (hq : ∀ r ∈ (s.trunk u).calls, s.quiet r) : (s.linkLostIn u).callEnds = s.callEnds ∧
    (s.journal.exhausted = true → (s.linkLostIn u).journal = s.journal) ∧
    (s.journal.exhausted = false → (s.linkLostIn u).journal.records =
      Journal.append s.journal.records ⟨s.journal.nextSequence, s.stamp, .trunk u true⟩) := by
  obtain ⟨hj, he⟩ := State.linkLostIn_of_quiet hq
  refine ⟨he, fun hx => ?_, fun hx => ?_⟩
  · rw [hj, State.lossReported_journal_of_exhausted hx]
  · rw [hj, State.lossReported_journal hx]

/-- The link of a trunk OUT OF SERVICE goes DOWN: the pass that follows leaves the trunk alone (R100). -/
theorem State.changed_of_downed (hv : v = (s.setTrunk u (s.trunk u).downed).changed) :
    v.trunk u = (s.trunk u).downed ∧ v.journal = s.journal ∧ v.callEnds = s.callEnds ∧
      (∀ w st k, .report (.trunkState w st k) ∈ v.link.output → .report (.trunkState w st k) ∈ s.link.output) ∧
      (s.cc.queue = [] → s.ti.noTrunk = false → v = s.setTrunk u (s.trunk u).downed) := by
  subst hv
  have hself := State.trunk_setTrunk_self s u (s.trunk u).downed
  have hpass := State.changed_passedTo (s.setTrunk u (s.trunk u).downed)
  refine ⟨?_, hpass.journal, ?_, fun w st k hm =>
    State.trunkState_of_changed (s := s.setTrunk u (s.trunk u).downed) hm, fun hq hn => ?_⟩
  · rw [State.changed_trunk_of_down, hself]
    rw [hself]
    nofun
  · rw [State.eq_of_besidePass hpass.beside]
    rfl
  · have hless : (s.setTrunk u (s.trunk u).downed).trunkless = false := by
      rw [State.trunkless, show (s.setTrunk u (s.trunk u).downed).cc.queue = [] from hq]
      rfl
    rw [State.changed_of_nil (s := s.setTrunk u (s.trunk u).downed) hq]
    exact State.judgeNoTrunk_same (hn.trans hless.symm)

end LinkLoss

/-- Settles O32: a trunk OUT OF SERVICE by the pass, any other by what the rescues of its calls come to. -/
theorem thirdBadFrameRescuesTheCall : Obligations.ThirdBadFrameRescuesTheCall := by
  intro s u frame x y hs hf hx hl hb hy
  subst hx
  have hexec := exec_badFrame (u := u) hs hf
  have hy : y = (s.trunk u).downed := by
    rw [hy, Trunk.downed, Trunk.badlyFramed, hb]
    rfl
  subst hy
  have hqueue (h : s.callsPlaced) : (s.badFrame u).queueExact :=
    (exec_inPlace (sc := ⟨False, True⟩) _ (State.inPlace_of_callsPlaced h nofun) trivial hexec).queueExact
  have hsame (q : LineNo) (a b : Call) (ha : s.cc.calls.get q = some a) (hb : (s.badFrame u).cc.calls.get q = some b) :
      a.sameCall b := liveCallKeepsItsIdentity _ _ _ hexec q a b ha hb
  refine ⟨s.badFrame u, hexec, ?_⟩
  by_cases ho : (s.trunk u).state = .outOfService
  · have ht := State.badFrame_of_outOfService hl hb ho
    have hpass := State.changed_passedTo (s.setTrunk u (s.trunk u).downed)
    have hbeside : (s.setTrunk u (s.trunk u).downed).changed.besideEnds = s.besideEnds := by
      rw [State.besideEnds, hpass.beside, hpass.journal]
      rfl
    rw [ht] at hqueue hsame ⊢
    refine ⟨State.eq_of_besideEnds_journal hbeside,
      (State.changed_judgedTo _).flag_iff, hqueue, fun q a ha _ => ?_, fun _ => State.changed_of_downed rfl,
      fun hn => absurd ho hn⟩
    obtain ⟨b, hb, -⟩ := hpass.calls q a ha
    exact ⟨b, hb, hsame q a b ha hb⟩
  · have ht : s.badFrame u = s.linkLostIn u := State.badFrame_of_lost hl hb ho
    rw [ht] at hqueue hsame ⊢
    refine ⟨State.eq_of_besideEnds_journal (s.linkLostIn_rescuing u).beside, s.linkLostIn_noTrunk u, hqueue,
      fun q a ha hq => ?_, fun h => absurd h ho, fun _ => ⟨s.linkLostIn_trunk u, fun hroom => State.linkLostIn_report hroom u, fun hq => ?_,
      fun hcur hstack hempty => ?_, fun p c hc hr hst => ?_, fun p c hc hcur hr => ?_⟩⟩
    · have hout : a.state ≠ .ringing ∨ a.ref ∉ (s.trunk u).calls := hq.imp_right fun h hm => by
        obtain ⟨hcur, hstack⟩ := h.resolve_left ho
        exact (Trunk.mem_calls.mp hm).elim hcur hstack
      obtain ⟨b, hb⟩ := State.linkLostIn_survives (u := u) ha hout
      exact ⟨b, hb, hsame q a b ha hb⟩
    · exact State.linkLostIn_journal fun r hr => hq r (Trunk.mem_calls.mp hr)
    · exact State.linkLostIn_of_nil (by rw [Trunk.calls, hcur, hstack]; rfl) hempty
    · have hlive : c.state ≠ .originating ∧ c.state ≠ .waiting ∧ c.state ≠ .ringing := by
        rcases hst with h | h | h | h <;> rw [h] <;> exact ⟨nofun, nofun, nofun⟩
      obtain ⟨-, ⟨hoffered, hother⟩, d, hd, hcd, hstands⟩ := State.linkLostIn_hasRescued hc (Trunk.mem_calls.mpr hr) hlive
      exact ⟨d, hd, hcd.same, hcd.rescued, hcd.offerCount, hcd.holdCount, hcd.connectTime, hcd.connectedMark, hcd.heldAt,
        hcd.reminderIn, hcd.preemptionTimer, hstands, hcd.kept, hcd.zero, hoffered, hother⟩
    · obtain ⟨hfree, hplayer, hends⟩ := State.linkLostIn_ends hc hcur hr
      exact ⟨hfree, hplayer, hends, State.linkLostIn_event hc hcur hr, State.linkLostIn_records hc hcur hr⟩

end Sys2Proof.Machine
end
